-- ==== Sys2Proof/Word.lean ====
section
/-! DEFINITION. The plain types every other file speaks in: bytes, samples, 32-bit counters and the
index types of the BH440's rooms, banks, microphones, poll-table entries and TDM slots. -/

namespace Sys2Proof

/-- One byte of a cell or panel frame (chapter 12). -/
abbrev Byte := BitVec 8

/-- A signed 16-bit linear audio sample (chapter 0, Audio, ticks and song time). -/
abbrev Sample := BitVec 16

/-- A 32-bit event counter that wraps to 0 after its largest value (R88, R94, R107, R152, R167, R182). -/
abbrev Counter := BitVec 32

/-- The 32-bit millisecond count of venue time, compared modulo 2^32 (chapter 0, Venue time). -/
abbrev VenueTime := BitVec 32

/-- A chip-wide issue number of a request entry (R153). -/
abbrev IssueNumber := BitVec 32

/-- A room's song generation count, modulo 256 (R13). -/
abbrev Epoch := BitVec 8

/-- Rooms 0 to 3. -/
abbrev RoomId := Fin 4

/-- Banks 0 and 1 of a room. -/
abbrev BankId := Fin 2

/-- The microphones of a room: 0 is mic 1, 1 is mic 2. -/
abbrev MicId := Fin 2

/-- Poll-table entries 0 to 7. -/
abbrev PanelId := Fin 8

/-- TDM slots 0 to 7 of one direction. -/
abbrev SlotId := Fin 8

/-- The four rooms in ascending order. -/
def allRooms : List RoomId := [0, 1, 2, 3]

/-- Both banks of a room in ascending order. -/
def allBanks : List BankId := [0, 1]

/-- The eight poll-table entries (and TDM slots) in ascending order. -/
def allPanels : List PanelId := [0, 1, 2, 3, 4, 5, 6, 7]

end Sys2Proof
end

