-- ==== Sys2Proof/Syntax.lean ====
section
/-! DEFINITION. The commands of the BH440, one constructor for each row of spec/opcode_table.json, with
their operands: the fields of the downstream cell (chapter 12.1 to 12.3), the TDM input samples of a sample
period, the payload of a panel's answer, or the room an event of the part itself belongs to. -/

namespace Sys2Proof

/-- One RGB colour or video pixel, 8 bits a channel (chapter 0, Video). -/
structure Rgb where
  red : Byte
  green : Byte
  blue : Byte
  deriving DecidableEq, Repr

/-- The six colours of PALETTE (R80), in the order of chapter 12.2. -/
structure Palette where
  aUnsung : Rgb
  aSung : Rgb
  bUnsung : Rgb
  bSung : Rgb
  bothUnsung : Rgb
  bothSung : Rgb
  deriving DecidableEq, Repr

/-- One stereo backing sample of an AUDIO cell (chapter 12.1). -/
structure Stereo where
  left : Sample
  right : Sample
  deriving DecidableEq, Repr

/-- A syllable record as a SYLLABLES cell carries it (12.3): `codes` are the eight code fields, of which the
first `glyphCount` are used. -/
structure SyllableRec where
  start : Nat
  duration : Nat
  glyphCount : Nat
  trailingSpace : Bool
  codes : List Nat
  deriving DecidableEq, Repr

/-- A line record as a LINES cell carries it (12.3). `part` is the 2-bit code A 0, B 1, BOTH 2. -/
structure LineRec where
  firstSyllable : Nat
  syllableCount : Nat
  part : Nat
  last : Bool
  deriving DecidableEq, Repr

/-- A guide note as a GUIDE cell carries it (12.3). `part` is the part byte. -/
structure GuideRec where
  start : Nat
  duration : Nat
  note : Nat
  part : Nat
  deriving DecidableEq, Repr

/-- The chip parameters of R174, numbered 1 to 4 in 12.2. -/
inductive ChipParamId where
  | requestOrder | replyTimeout | pollWindow | clearReports
  deriving DecidableEq, Repr

/-- A room parameter with the value or values its ROOM_PARAM value field carries (R175, 12.2). The values are
the raw numbers of the field; their ranges are checked when the order is taken. -/
inductive RoomSetting where
  | roomEnable (v : Nat)
  | band (x w : Nat)
  | bandY (v : Nat)
  | rows (v : Nat)
  | rowGap (v : Nat)
  | lineOverflow (v : Nat)
  | palette (p : Palette)
  | advanceLead (v : Nat)
  | scrollTicks (v : Nat)
  | compMode (v : Nat)
  | compOffset (v : Nat)
  | voiceThreshold (v : Nat)
  | hysteresis (v : Nat)
  | tolerance (v : Nat)
  | octaveFold (v : Nat)
  | micAssign (mic assign : Nat)
  | panelStopPermit (v : Nat)
  | duplicates (v : Nat)
  | marks (low high : Nat)
  | calQ (v : Nat)
  | calAmplitude (v : Nat)
  | calCycles (v : Nat)
  | calThreshold (v : Nat)
  | calMic (v : Nat)
  deriving DecidableEq, Repr

/-- The commands the BH440 takes: the rows of spec/opcode_table.json. `tag` is the tag byte of the cell, `room`
the room it names; other numbers are the raw fields of chapter 12, checked by the order's own rule. -/
inductive Instr where
  /-- PIN_RESET (R183). -/
  | pinReset
  /-- CELL_DISCARDED (R169): the bytes received between the cell marks. -/
  | cellDiscarded (bytes : List Byte)
  /-- UNKNOWN_ORDER (R170): the bytes received between the cell marks. -/
  | unknownOrder (bytes : List Byte)
  /-- VIDEO (R74): the pixel count is the length of `pixels`. -/
  | video (room : RoomId) (line : Nat) (frameStart : Bool) (pixels : List Rgb)
  /-- AUDIO (R95): the sample count is the length of `samples`. -/
  | audio (room : RoomId) (endFlag : Bool) (samples : List Stereo)
  /-- APPEND_LINES (R27, R29): the record count is the length of `recs`. -/
  | appendLines (room : RoomId) (tag bank first : Nat) (recs : List LineRec)
  /-- APPEND_SYLLABLES (R27, R28). -/
  | appendSyllables (room : RoomId) (tag bank first : Nat) (recs : List SyllableRec)
  /-- APPEND_GUIDE (R27, R30). -/
  | appendGuide (room : RoomId) (tag bank first : Nat) (recs : List GuideRec)
  /-- APPEND_FONT (R48): the records stay bytes, since their length depends on Hf when the cell is taken. The length is
  checked by the Glyph Table alone (R170, R184), so a payload may end before its first index or its record count: the
  field is then none, and `records` holds the bytes left. -/
  | appendFont (tag : Nat) (first count : Option Nat) (records : List Byte)
  /-- APPEND_LADDER (R118): the record count is the length of `bounds`. -/
  | appendLadder (tag first : Nat) (bounds : List Nat)
  /-- SET_MODE (R173). -/
  | setMode (tag mode : Nat)
  /-- CHIP_PARAM (R174). -/
  | chipParam (tag : Nat) (param : ChipParamId) (value : Nat)
  /-- SLOT_MAP (R91). -/
  | slotMap (tag direction slot target : Nat)
  /-- POLL_ENTRY (R141). -/
  | pollEntry (tag entry enabled address room : Nat)
  /-- FONT_CLEAR (R46). -/
  | fontClear (tag height spaceAdvance missingAdvance : Nat)
  /-- READ of the chip (R176). -/
  | readChip (tag : Nat)
  /-- READ of a room (R176). -/
  | readRoom (room : RoomId) (tag : Nat)
  /-- READ of a bank (R42). -/
  | readBank (room : RoomId) (tag bank : Nat)
  /-- READ of a request list (R167). -/
  | readRequestList (room : RoomId) (tag : Nat)
  /-- READ of scores (R138). -/
  | readScores (room : RoomId) (tag : Nat)
  /-- READ of counters (R176): `none` for the chip (room 15). -/
  | readCounters (room : Option RoomId) (tag : Nat)
  /-- CUE (R5, R6). -/
  | cue (room : RoomId) (tag bank ticket : Nat)
  /-- START (R9). -/
  | start (room : RoomId) (tag : Nat)
  /-- PAUSE (R14). -/
  | pause (room : RoomId) (tag : Nat)
  /-- RESUME (R14). -/
  | resume (room : RoomId) (tag : Nat)
  /-- STOP (R15). -/
  | stop (room : RoomId) (tag : Nat)
  /-- HALT_AT_LINE (R16). -/
  | haltAtLine (room : RoomId) (tag : Nat)
  /-- ROOM_RESET (R20, R21). -/
  | roomReset (room : RoomId) (tag : Nat)
  /-- CALIBRATE (R101). -/
  | calibrate (room : RoomId) (tag : Nat)
  /-- ROOM_PARAM (R175). -/
  | roomParam (room : RoomId) (tag : Nat) (setting : RoomSetting)
  /-- BANK_OPEN (R26). -/
  | bankOpen (room : RoomId) (tag bank songId lines syllables notes : Nat)
  /-- BANK_CLOSE (R34). -/
  | bankClose (room : RoomId) (tag bank : Nat)
  /-- BANK_CLEAR (R35). -/
  | bankClear (room : RoomId) (tag bank : Nat)
  /-- REQ_ACCEPT (R158). -/
  | reqAccept (room : RoomId) (tag ticket position : Nat)
  /-- REQ_POSITION (R159). -/
  | reqPosition (room : RoomId) (tag ticket position : Nat)
  /-- REQ_REFUSE (R160). -/
  | reqRefuse (room : RoomId) (tag ticket reason : Nat)
  /-- REQ_DROP (R161). -/
  | reqDrop (room : RoomId) (tag ticket : Nat)
  /-- SAMPLE_PERIOD (R90): the eight input samples of the TDM frame. `roomOrder` and `offerOrder` number the
  orders R90 and R111 leave open: in which order the rooms' shares are taken, and in which order the frame
  records completed in the period are offered to the frame queue (log 4). -/
  | samplePeriod (inputs : Vector Sample 8) (roomOrder offerOrder : Nat)
  /-- SONG_POSITION_LIMIT (R11, R97). -/
  | songPositionLimit (room : RoomId)
  /-- SONG_TICK (R57). -/
  | songTick (room : RoomId)
  /-- ANALYSIS_COMPLETE (R112). -/
  | analysisComplete
  /-- CAL_TIMEOUT (R104). -/
  | calTimeout (room : RoomId)
  /-- BANK_CLEARING_COMPLETE (R38). -/
  | bankClearingComplete (room : RoomId) (bank : BankId)
  /-- FONT_CLEARING_COMPLETE (R47). -/
  | fontClearingComplete
  /-- PANEL_NONE (R146): a good NONE answer with its payload bytes. -/
  | panelNone (payload : List Byte)
  /-- PANEL_REQUEST (R147). -/
  | panelRequest (payload : List Byte)
  /-- PANEL_CANCEL (R162). -/
  | panelCancel (payload : List Byte)
  /-- PANEL_STOP_MESSAGE (R148). -/
  | panelStopMessage (payload : List Byte)
  /-- PANEL_UNKNOWN_KIND (R146): a good answer of another kind. -/
  | panelUnknownKind (kind : Nat) (payload : List Byte)
  /-- WRONG_ECHO (R144): a good frame with another address byte. -/
  | wrongEcho (address : Nat)
  /-- GARBLED (R144). -/
  | garbled
  /-- NO_ANSWER (R143). -/
  | noAnswer
  /-- VENUE_TIME_TICK (R163). -/
  | venueTimeTick
  /-- REPLY_TIMEOUT (R163). -/
  | replyTimeout (room : RoomId) (ticket : Nat)
  /-- CELL_SENT (R180). -/
  | cellSent
  deriving DecidableEq, Repr

end Sys2Proof
end

