-- ==== Sys2Proof/WellFormed.lean ====
section
/-! DEFINITION. Which commands a downstream cell, a TDM frame or a panel answer can spell: every field within
the width of its field on the wire (chapter 12), every payload within the 8192 bytes of R169. A meaning does
not assume this check; the round trip of the cell format does. -/

namespace Sys2Proof

/-- A syllable record fits its 22 bytes (12.3). -/
def SyllableRec.fits (r : SyllableRec) : Bool :=
  r.start < 16777216 && r.duration < 65536 && r.glyphCount < 16 && r.codes.length == 8
    && r.codes.all (· < 65536)

/-- A line record fits its 4 bytes (12.3). -/
def LineRec.fits (r : LineRec) : Bool :=
  r.firstSyllable < 65536 && r.syllableCount < 256 && r.part < 4

/-- A guide note fits its 7 bytes (12.3). -/
def GuideRec.fits (r : GuideRec) : Bool :=
  r.start < 16777216 && r.duration < 65536 && r.note < 256 && r.part < 256

/-- The setting's values fit the bytes its value field gives them (12.2). -/
def RoomSetting.fits : RoomSetting → Bool
  | .band x w => x < 65536 && w < 65536
  | .marks l h => l < 65536 && h < 65536
  | .micAssign m a => m < 256 && a < 256
  | .palette _ => true
  | .roomEnable v | .bandY v | .rows v | .rowGap v | .lineOverflow v | .advanceLead v | .scrollTicks v
  | .compMode v | .compOffset v | .voiceThreshold v | .hysteresis v | .tolerance v | .octaveFold v
  | .panelStopPermit v | .duplicates v | .calQ v | .calAmplitude v | .calCycles v | .calThreshold v
  | .calMic v => v < 65536

/-- The command can be spelt by the wire format it arrives in. -/
def Instr.wellFormed : Instr → Bool
  | .pinReset | .garbled | .noAnswer | .venueTimeTick | .cellSent | .analysisComplete
  | .fontClearingComplete => true
  | .cellDiscarded _ => true
  | .unknownOrder _ => true
  | .video _ line _ pixels => line < 65536 && 4 + 3 * pixels.length ≤ 8192
  | .audio _ _ samples => 2 + 4 * samples.length ≤ 8192
  | .appendLines _ tag bank first recs =>
    tag < 256 && bank < 256 && first < 65536 && recs.all LineRec.fits && 6 + 4 * recs.length ≤ 8192
  | .appendSyllables _ tag bank first recs =>
    tag < 256 && bank < 256 && first < 65536 && recs.all SyllableRec.fits && 6 + 22 * recs.length ≤ 8192
  | .appendGuide _ tag bank first recs =>
    tag < 256 && bank < 256 && first < 65536 && recs.all GuideRec.fits && 6 + 7 * recs.length ≤ 8192
  | .appendFont tag (some first) (some count) records =>
    tag < 256 && first < 65536 && count < 65536 && 6 + records.length ≤ 8192
  | .appendFont tag (some first) none records => tag < 256 && first < 65536 && records.length < 2
  | .appendFont tag none none records => tag < 256 && records.length < 2
  | .appendFont _ none (some _) _ => false
  | .appendLadder tag first bounds =>
    tag < 256 && first < 65536 && bounds.all (· < 65536) && 6 + 2 * bounds.length ≤ 8192
  | .setMode tag mode => tag < 256 && mode < 256
  | .chipParam tag _ value => tag < 256 && value < 65536
  | .slotMap tag direction slot target =>
    tag < 256 && direction < 256 && slot < 256 && target < 256
  | .pollEntry tag entry enabled address room =>
    tag < 256 && entry < 256 && enabled < 256 && address < 256 && room < 256
  | .fontClear tag height space missing =>
    tag < 256 && height < 256 && space < 256 && missing < 256
  | .readChip tag => tag < 256
  | .readRoom _ tag | .readRequestList _ tag | .readScores _ tag | .readCounters _ tag => tag < 256
  | .readBank _ tag bank => tag < 256 && bank < 256
  | .cue _ tag bank ticket => tag < 256 && bank < 256 && ticket < 256
  | .start _ tag | .pause _ tag | .resume _ tag | .stop _ tag | .haltAtLine _ tag | .roomReset _ tag
  | .calibrate _ tag => tag < 256
  | .roomParam _ tag setting => tag < 256 && setting.fits
  | .bankOpen _ tag bank songId lines syllables notes =>
    tag < 256 && bank < 256 && songId < 4294967296 && lines < 65536 && syllables < 65536 && notes < 65536
  | .bankClose _ tag bank | .bankClear _ tag bank => tag < 256 && bank < 256
  | .reqAccept _ tag ticket position | .reqPosition _ tag ticket position =>
    tag < 256 && ticket < 256 && position < 65536
  | .reqRefuse _ tag ticket reason => tag < 256 && ticket < 256 && reason < 256
  | .reqDrop _ tag ticket => tag < 256 && ticket < 256
  | .samplePeriod _ _ _ => true
  | .songPositionLimit _ | .songTick _ | .calTimeout _ => true
  | .bankClearingComplete _ _ => true
  | .panelNone payload | .panelRequest payload | .panelCancel payload | .panelStopMessage payload =>
    payload.length ≤ 16
  | .panelUnknownKind kind payload =>
    kind < 256 && kind != 16 && kind != 17 && kind != 18 && kind != 19 && payload.length ≤ 16
  | .wrongEcho address => address < 256
  | .replyTimeout _ ticket => ticket < 256

end Sys2Proof
end

