-- ==== Sys2Proof/Decode.lean ====
section
/-! DEFINITION. Reading commands from the wire. A downstream trunk cell (R168 to R170, chapter 12.1 to 12.3) and
a panel's answer frame (R139, R144, chapter 12.5) are read into the command they spell, total on any bytes;
the encoder of downstream cells follows, from the same tables. spec/opcode_table.json gives its rows no bits,
so `decodeTableWord` reads no command from a word. -/

namespace Sys2Proof

/-! ### Byte order (chapter 12: most significant byte first) -/

/-- The unsigned number a run of bytes spells, most significant byte first. -/
def beNat (bs : List Byte) : Nat :=
  bs.foldl (fun n b => n * 256 + b.toNat) 0

/-- `w` bytes of `n`, most significant first; bits of `n` above `8 * w` are dropped. -/
def beBytes : Nat → Nat → List Byte
  | 0, _ => []
  | w + 1, n => BitVec.ofNat 8 (n / 256 ^ w) :: beBytes w n

/-- The two bytes of a 16-bit sample. -/
def sampleBytes (x : Sample) : List Byte := beBytes 2 x.toNat

/-- The field of `w` bytes at offset `i`. -/
def fieldAt (bs : List Byte) (i w : Nat) : Nat := beNat ((bs.drop i).take w)

/-! ### CRC (R168) -/

/-- One bit step of the CRC with polynomial x^16 + x^12 + x^5 + 1, most significant bit first. -/
def crcBit (c : BitVec 16) : BitVec 16 :=
  if c.msb then (c <<< 1) ^^^ 0x1021#16 else c <<< 1

/-- The CRC after one more byte. -/
def crcByte (c : BitVec 16) (b : Byte) : BitVec 16 :=
  crcBit (crcBit (crcBit (crcBit (crcBit (crcBit (crcBit (crcBit
    (c ^^^ (b.zeroExtend 16 <<< 8)))))))))

/-- R168: the CRC over header and payload, from the value 65535, without a final inversion. -/
def crc16 (bs : List Byte) : BitVec 16 := bs.foldl crcByte 65535#16

/-! ### Cells -/

/-- The fields of a received cell (R168): the header's, and the payload. -/
structure RawCell where
  kind : Nat
  room : Nat
  tag : Nat
  flags : Nat
  payload : List Byte
  deriving DecidableEq, Repr

/-- R169, check 1: at least 8 bytes, a length field that agrees with the bytes received, at most 8192. -/
def cellLengthOk (bytes : List Byte) : Bool :=
  8 ≤ bytes.length && fieldAt bytes 4 2 == bytes.length - 8 && fieldAt bytes 4 2 ≤ 8192

/-- R169, check 2: the last two bytes are the CRC of the others. -/
def cellCrcOk (bytes : List Byte) : Bool :=
  fieldAt bytes (bytes.length - 2) 2 == (crc16 (bytes.take (bytes.length - 2))).toNat

/-- The fields of a cell whose length agrees. -/
def rawCell (bytes : List Byte) : RawCell :=
  { kind := fieldAt bytes 0 1, room := fieldAt bytes 1 1, tag := fieldAt bytes 2 1,
    flags := fieldAt bytes 3 1, payload := (bytes.drop 6).take (bytes.length - 8) }

/-- R169, check 4: the kind is VIDEO, AUDIO, APPEND or ORDER. -/
def RawCell.kindOk (c : RawCell) : Bool := c.kind == 1 || c.kind == 2 || c.kind == 3 || c.kind == 4

/-- R169, check 5: a VIDEO or AUDIO cell names a room 0 to 3 and its payload length agrees with the pixel or
sample count it carries. -/
def RawCell.mediaOk (c : RawCell) : Bool :=
  if c.kind == 1 then
    c.room < 4 && 4 ≤ c.payload.length && c.payload.length == 4 + 3 * fieldAt c.payload 2 2
  else if c.kind == 2 then
    c.room < 4 && 2 ≤ c.payload.length && c.payload.length == 2 + 4 * fieldAt c.payload 0 2
  else true

/-- An ORDER or APPEND cell: the cells that are answered (R171). -/
def RawCell.answered (c : RawCell) : Bool := c.kind == 3 || c.kind == 4

/-- R169, check 3: an ORDER carrying SET_MODE, the only cell taken in chip mode STOP. -/
def RawCell.isSetMode (c : RawCell) : Bool :=
  c.kind == 4 && (c.payload.head?.map BitVec.toNat) == some 1

/-! ### Records (12.3) -/

/-- `count` records of `w` bytes each, from the front of `bs`. -/
def parseRecords {α : Type} (w : Nat) (read : List Byte → α) : Nat → List Byte → List α
  | 0, _ => []
  | count + 1, bs => read (bs.take w) :: parseRecords w read count (bs.drop w)

/-- A pixel of a VIDEO cell. -/
def readPixel (bs : List Byte) : Rgb := ⟨bs.getD 0 0, bs.getD 1 0, bs.getD 2 0⟩

/-- A stereo sample of an AUDIO cell. -/
def readStereo (bs : List Byte) : Stereo :=
  ⟨BitVec.ofNat 16 (fieldAt bs 0 2), BitVec.ofNat 16 (fieldAt bs 2 2)⟩

/-- A syllable record: start 3, duration 2, control 1, eight codes of 2. -/
def readSyllable (bs : List Byte) : SyllableRec :=
  { start := fieldAt bs 0 3, duration := fieldAt bs 3 2, glyphCount := fieldAt bs 5 1 % 16,
    trailingSpace := fieldAt bs 5 1 / 128 % 2 == 1,
    codes := parseRecords 2 beNat 8 (bs.drop 6) }

/-- A line record: first syllable 2, syllable count 1, control 1. -/
def readLine (bs : List Byte) : LineRec :=
  { firstSyllable := fieldAt bs 0 2, syllableCount := fieldAt bs 2 1, part := fieldAt bs 3 1 % 4,
    last := fieldAt bs 3 1 / 128 % 2 == 1 }

/-- A guide note: start 3, duration 2, note 1, part 1. -/
def readGuide (bs : List Byte) : GuideRec :=
  { start := fieldAt bs 0 3, duration := fieldAt bs 3 2, note := fieldAt bs 5 1, part := fieldAt bs 6 1 }

/-- Room 0 to 3, or none. -/
def roomOf (n : Nat) : Option RoomId := if h : n < 4 then some ⟨n, h⟩ else none

/-- A colour of a PALETTE value field. -/
def colourAt (v : List Byte) (i : Nat) : Rgb := readPixel ((v.drop i).take 3)

/-- The room parameter numbered `p` in 12.2 with the values its 18-byte value field carries, or none for an
unknown parameter. -/
def readSetting (p : Nat) (v : List Byte) : Option RoomSetting :=
  let a := fieldAt v 0 2
  let b := fieldAt v 2 2
  match p with
  | 1 => some (.roomEnable a)
  | 2 => some (.band a b)
  | 3 => some (.bandY a)
  | 4 => some (.rows a)
  | 5 => some (.rowGap a)
  | 6 => some (.lineOverflow a)
  | 7 => some (.palette ⟨colourAt v 0, colourAt v 3, colourAt v 6, colourAt v 9, colourAt v 12, colourAt v 15⟩)
  | 8 => some (.advanceLead a)
  | 9 => some (.scrollTicks a)
  | 10 => some (.compMode a)
  | 11 => some (.compOffset a)
  | 12 => some (.voiceThreshold a)
  | 13 => some (.hysteresis a)
  | 14 => some (.tolerance a)
  | 15 => some (.octaveFold a)
  | 16 => some (.micAssign (fieldAt v 0 1) (fieldAt v 1 1))
  | 17 => some (.panelStopPermit a)
  | 18 => some (.duplicates a)
  | 19 => some (.marks a b)
  | 20 => some (.calQ a)
  | 21 => some (.calAmplitude a)
  | 22 => some (.calCycles a)
  | 23 => some (.calThreshold a)
  | 24 => some (.calMic a)
  | _ => none

/-- The chip parameter numbered `p` in 12.2. -/
def readChipParam : Nat → Option ChipParamId
  | 1 => some .requestOrder
  | 2 => some .replyTimeout
  | 3 => some .pollWindow
  | 4 => some .clearReports
  | _ => none

/-! ### Orders and appends (R170, 12.1, 12.2) -/

/-- The order addressed to the chip with kind `kind` and fields `f`, or none (MALFORMED). -/
def decodeChipOrder (tag kind : Nat) (f : List Byte) : Option Instr :=
  match kind, f with
  | 1, [m] => some (.setMode tag m.toNat)
  | 2, [p, v0, v1] => (readChipParam p.toNat).map fun q => .chipParam tag q (beNat [v0, v1])
  | 3, [d, s, t] => some (.slotMap tag d.toNat s.toNat t.toNat)
  | 4, [e, n, a, r] => some (.pollEntry tag e.toNat n.toNat a.toNat r.toNat)
  | 5, [h, s, m] => some (.fontClear tag h.toNat s.toNat m.toNat)
  | 6, [o, _] =>
    match o.toNat with
    | 0 => some (.readChip tag)
    | 5 => some (.readCounters none tag)
    | _ => none
  | _, _ => none

/-- The order addressed to room `r` with kind `kind` and fields `f`, or none (MALFORMED). -/
def decodeRoomOrder (r : RoomId) (tag kind : Nat) (f : List Byte) : Option Instr :=
  match kind, f with
  | 6, [o, b] =>
    match o.toNat with
    | 1 => some (.readRoom r tag)
    | 2 => some (.readBank r tag b.toNat)
    | 3 => some (.readRequestList r tag)
    | 4 => some (.readScores r tag)
    | 5 => some (.readCounters (some r) tag)
    | _ => none
  | 16, [b, t] => some (.cue r tag b.toNat t.toNat)
  | 17, [] => some (.start r tag)
  | 18, [] => some (.pause r tag)
  | 19, [] => some (.resume r tag)
  | 20, [] => some (.stop r tag)
  | 21, [] => some (.haltAtLine r tag)
  | 22, [] => some (.roomReset r tag)
  | 23, [] => some (.calibrate r tag)
  | 24, p :: v => if v.length = 18 then (readSetting p.toNat v).map (.roomParam r tag) else none
  | 25, b :: v =>
    if v.length = 10 then
      some (.bankOpen r tag b.toNat (fieldAt v 0 4) (fieldAt v 4 2) (fieldAt v 6 2) (fieldAt v 8 2))
    else none
  | 26, [b] => some (.bankClose r tag b.toNat)
  | 27, [b] => some (.bankClear r tag b.toNat)
  | 28, [t, p0, p1] => some (.reqAccept r tag t.toNat (beNat [p0, p1]))
  | 29, [t, p0, p1] => some (.reqPosition r tag t.toNat (beNat [p0, p1]))
  | 30, [t, q] => some (.reqRefuse r tag t.toNat q.toNat)
  | 31, [t] => some (.reqDrop r tag t.toNat)
  | _, _ => none

/-- The command of an ORDER cell, or none when R170 answers it MALFORMED. -/
def decodeOrder (c : RawCell) : Option Instr :=
  match c.payload with
  | [] => none
  | k :: f =>
    if c.room = 15 then decodeChipOrder c.tag k.toNat f
    else (roomOf c.room).bind fun r => decodeRoomOrder r c.tag k.toNat f

/-- The fields of a FONT append behind its section byte: first index 2, record count 2, then the records; none for a
field the payload ends before. -/
def fontFields : List Byte → Option Nat × Option Nat × List Byte
  | f0 :: f1 :: n0 :: n1 :: records => (some (beNat [f0, f1]), some (beNat [n0, n1]), records)
  | f0 :: f1 :: rest => (some (beNat [f0, f1]), none, rest)
  | rest => (none, none, rest)

/-- The command of an APPEND cell, or none when R170 answers it MALFORMED. The payload is bank 1, section 1,
first index 2, record count 2, then the records. A payload that ends before its record count agrees with none; a FONT
append's length is left to the Glyph Table (R170, R184), once the payload reaches the section byte that makes it one. -/
def decodeAppend (c : RawCell) : Option Instr :=
  if c.room = 15 ∧ c.payload[1]? = some 4 then
    let f := fontFields (c.payload.drop 2)
    some (.appendFont c.tag f.1 f.2.1 f.2.2)
  else if c.payload.length < 6 then none
  else
    let bank := fieldAt c.payload 0 1
    let sect := fieldAt c.payload 1 1
    let first := fieldAt c.payload 2 2
    let count := fieldAt c.payload 4 2
    let data := c.payload.drop 6
    if c.room = 15 then
      match sect with
      | 5 => if data.length = 2 * count then
          some (.appendLadder c.tag first (parseRecords 2 beNat count data)) else none
      | _ => none
    else (roomOf c.room).bind fun r =>
      match sect with
      | 1 => if data.length = 4 * count then
          some (.appendLines r c.tag bank first (parseRecords 4 readLine count data)) else none
      | 2 => if data.length = 22 * count then
          some (.appendSyllables r c.tag bank first (parseRecords 22 readSyllable count data)) else none
      | 3 => if data.length = 7 * count then
          some (.appendGuide r c.tag bank first (parseRecords 7 readGuide count data)) else none
      | _ => none

/-- The command of a VIDEO or AUDIO cell that passes R169. -/
def decodeMedia (c : RawCell) : Option Instr :=
  (roomOf c.room).map fun r =>
    if c.kind = 1 then
      .video r (fieldAt c.payload 0 2) (c.flags % 2 == 1)
        (parseRecords 3 readPixel (fieldAt c.payload 2 2) (c.payload.drop 4))
    else
      .audio r (c.flags / 2 % 2 == 1) (parseRecords 4 readStereo (fieldAt c.payload 0 2) (c.payload.drop 2))

/-- The command a cell that passed R169 spells, or none when it is answered MALFORMED. -/
def decodeBody (c : RawCell) : Option Instr :=
  match c.kind with
  | 1 => decodeMedia c
  | 2 => decodeMedia c
  | 3 => decodeAppend c
  | 4 => decodeOrder c
  | _ => none

/-- Decoding of a downstream cell, total on any bytes: CELL_DISCARDED for bytes that fail check 1, 2, 4 or 5 of
R169, UNKNOWN_ORDER for a cell that R170 answers MALFORMED, else the command the cell spells. (Checks 3 and 6
of R169 depend on the part's state, and are made when the command is taken.) -/
def decodeCell (bytes : List Byte) : Instr :=
  if cellLengthOk bytes && cellCrcOk bytes && (rawCell bytes).kindOk && (rawCell bytes).mediaOk then
    (decodeBody (rawCell bytes)).getD (.unknownOrder bytes)
  else .cellDiscarded bytes

/-! ### Panel answers (R139, R144, 12.5) -/

/-- The command of the answer bytes received in the window of a poll of address `polled`. The window closes
after the last of `bytes`; bytes after a complete frame are ignored (R143). -/
def decodeAnswer (polled : Nat) (bytes : List Byte) : Instr :=
  match bytes with
  | [] => .noAnswer
  | a :: k :: l :: rest =>
    if l.toNat > 16 then .garbled
    else if rest.length < l.toNat + 1 then .garbled
    else
      let payload := rest.take l.toNat
      let frame := a :: k :: l :: rest.take (l.toNat + 1)
      if (frame.map BitVec.toNat).sum % 256 ≠ 255 then .garbled
      else if a.toNat ≠ polled then .wrongEcho a.toNat
      else
        match k.toNat with
        | 16 => .panelNone payload
        | 17 => .panelRequest payload
        | 18 => .panelCancel payload
        | 19 => .panelStopMessage payload
        | n => .panelUnknownKind n payload
  | _ => .garbled

/-- R139: the bytes of a panel frame, with the check byte that makes their sum 255 modulo 256. -/
def panelFrame (address kind : Nat) (payload : List Byte) : List Byte :=
  let body := BitVec.ofNat 8 address :: BitVec.ofNat 8 kind :: BitVec.ofNat 8 payload.length :: payload
  body ++ [BitVec.ofNat 8 (255 - (body.map BitVec.toNat).sum % 256)]

/-! ### The encoder of downstream cells -/

/-- R168: a cell of the given header fields and payload, with its CRC. -/
def cellBytes (kind room tag flags : Nat) (payload : List Byte) : List Byte :=
  let body := beBytes 1 kind ++ beBytes 1 room ++ beBytes 1 tag ++ beBytes 1 flags
    ++ beBytes 2 payload.length ++ payload
  body ++ beBytes 2 (crc16 body).toNat

/-- A pixel's three bytes. -/
def Rgb.bytes (p : Rgb) : List Byte := [p.red, p.green, p.blue]

/-- A stereo sample's four bytes. -/
def Stereo.bytes (x : Stereo) : List Byte := sampleBytes x.left ++ sampleBytes x.right

/-- A syllable record's 22 bytes. -/
def SyllableRec.bytes (r : SyllableRec) : List Byte :=
  beBytes 3 r.start ++ beBytes 2 r.duration
    ++ beBytes 1 (r.glyphCount + if r.trailingSpace then 128 else 0) ++ r.codes.flatMap (beBytes 2)

/-- A line record's 4 bytes. -/
def LineRec.bytes (r : LineRec) : List Byte :=
  beBytes 2 r.firstSyllable ++ beBytes 1 r.syllableCount ++ beBytes 1 (r.part + if r.last then 128 else 0)

/-- A guide note's 7 bytes. -/
def GuideRec.bytes (r : GuideRec) : List Byte :=
  beBytes 3 r.start ++ beBytes 2 r.duration ++ beBytes 1 r.note ++ beBytes 1 r.part

/-- The parameter number of a setting and the used bytes of its value field (12.2). -/
def RoomSetting.field : RoomSetting → Nat × List Byte
  | .roomEnable v => (1, beBytes 2 v)
  | .band x w => (2, beBytes 2 x ++ beBytes 2 w)
  | .bandY v => (3, beBytes 2 v)
  | .rows v => (4, beBytes 2 v)
  | .rowGap v => (5, beBytes 2 v)
  | .lineOverflow v => (6, beBytes 2 v)
  | .palette p => (7, p.aUnsung.bytes ++ p.aSung.bytes ++ p.bUnsung.bytes ++ p.bSung.bytes
      ++ p.bothUnsung.bytes ++ p.bothSung.bytes)
  | .advanceLead v => (8, beBytes 2 v)
  | .scrollTicks v => (9, beBytes 2 v)
  | .compMode v => (10, beBytes 2 v)
  | .compOffset v => (11, beBytes 2 v)
  | .voiceThreshold v => (12, beBytes 2 v)
  | .hysteresis v => (13, beBytes 2 v)
  | .tolerance v => (14, beBytes 2 v)
  | .octaveFold v => (15, beBytes 2 v)
  | .micAssign m a => (16, beBytes 1 m ++ beBytes 1 a)
  | .panelStopPermit v => (17, beBytes 2 v)
  | .duplicates v => (18, beBytes 2 v)
  | .marks l h => (19, beBytes 2 l ++ beBytes 2 h)
  | .calQ v => (20, beBytes 2 v)
  | .calAmplitude v => (21, beBytes 2 v)
  | .calCycles v => (22, beBytes 2 v)
  | .calThreshold v => (23, beBytes 2 v)
  | .calMic v => (24, beBytes 2 v)

/-- The 18-byte value field of a setting: the used bytes, then zeros (which the part does not read, R184). -/
def RoomSetting.valueField (x : RoomSetting) : List Byte :=
  x.field.2 ++ List.replicate (18 - x.field.2.length) 0

/-- The number of a chip parameter (12.2). -/
def ChipParamId.number : ChipParamId → Nat
  | .requestOrder => 1
  | .replyTimeout => 2
  | .pollWindow => 3
  | .clearReports => 4

/-- An ORDER cell: the order kind, then the order's fields. -/
def orderCell (room tag kind : Nat) (fields : List Byte) : List Byte :=
  cellBytes 4 room tag 0 (beBytes 1 kind ++ fields)

/-- An APPEND cell: bank, section, first index, record count, then the records. -/
def appendCell (room tag bank sect first count : Nat) (records : List Byte) : List Byte :=
  cellBytes 3 room tag 0 (beBytes 1 bank ++ beBytes 1 sect ++ beBytes 2 first ++ beBytes 2 count ++ records)

/-- The downstream cell that spells a command, for the commands that arrive as a cell. -/
def encodeCell : Instr → Option (List Byte)
  | .video r line fs px => some (cellBytes 1 r.val 0 (if fs then 1 else 0)
      (beBytes 2 line ++ beBytes 2 px.length ++ px.flatMap Rgb.bytes))
  | .audio r e xs => some (cellBytes 2 r.val 0 (if e then 2 else 0)
      (beBytes 2 xs.length ++ xs.flatMap Stereo.bytes))
  | .appendLines r tag bank first recs =>
    some (appendCell r.val tag bank 1 first recs.length (recs.flatMap LineRec.bytes))
  | .appendSyllables r tag bank first recs =>
    some (appendCell r.val tag bank 2 first recs.length (recs.flatMap SyllableRec.bytes))
  | .appendGuide r tag bank first recs =>
    some (appendCell r.val tag bank 3 first recs.length (recs.flatMap GuideRec.bytes))
  | .appendFont tag first count records =>
    some (cellBytes 3 15 tag 0 (beBytes 1 0 ++ beBytes 1 4 ++ ((first.map (beBytes 2)).getD []
      ++ ((count.map (beBytes 2)).getD [] ++ records))))
  | .appendLadder tag first bounds =>
    some (appendCell 15 tag 0 5 first bounds.length (bounds.flatMap (beBytes 2)))
  | .setMode tag mode => some (orderCell 15 tag 1 (beBytes 1 mode))
  | .chipParam tag p v => some (orderCell 15 tag 2 (beBytes 1 p.number ++ beBytes 2 v))
  | .slotMap tag d s t => some (orderCell 15 tag 3 (beBytes 1 d ++ beBytes 1 s ++ beBytes 1 t))
  | .pollEntry tag e n a r =>
    some (orderCell 15 tag 4 (beBytes 1 e ++ beBytes 1 n ++ beBytes 1 a ++ beBytes 1 r))
  | .fontClear tag h s m => some (orderCell 15 tag 5 (beBytes 1 h ++ beBytes 1 s ++ beBytes 1 m))
  | .readChip tag => some (orderCell 15 tag 6 [0, 0])
  | .readRoom r tag => some (orderCell r.val tag 6 [1, 0])
  | .readBank r tag bank => some (orderCell r.val tag 6 ((2 : Byte) :: beBytes 1 bank))
  | .readRequestList r tag => some (orderCell r.val tag 6 [3, 0])
  | .readScores r tag => some (orderCell r.val tag 6 [4, 0])
  | .readCounters (some r) tag => some (orderCell r.val tag 6 [5, 0])
  | .readCounters none tag => some (orderCell 15 tag 6 [5, 0])
  | .cue r tag bank ticket => some (orderCell r.val tag 16 (beBytes 1 bank ++ beBytes 1 ticket))
  | .start r tag => some (orderCell r.val tag 17 [])
  | .pause r tag => some (orderCell r.val tag 18 [])
  | .resume r tag => some (orderCell r.val tag 19 [])
  | .stop r tag => some (orderCell r.val tag 20 [])
  | .haltAtLine r tag => some (orderCell r.val tag 21 [])
  | .roomReset r tag => some (orderCell r.val tag 22 [])
  | .calibrate r tag => some (orderCell r.val tag 23 [])
  | .roomParam r tag x => some (orderCell r.val tag 24 (beBytes 1 x.field.1 ++ x.valueField))
  | .bankOpen r tag bank song l sy n =>
    some (orderCell r.val tag 25 (beBytes 1 bank ++ beBytes 4 song ++ beBytes 2 l ++ beBytes 2 sy ++ beBytes 2 n))
  | .bankClose r tag bank => some (orderCell r.val tag 26 (beBytes 1 bank))
  | .bankClear r tag bank => some (orderCell r.val tag 27 (beBytes 1 bank))
  | .reqAccept r tag t p => some (orderCell r.val tag 28 (beBytes 1 t ++ beBytes 2 p))
  | .reqPosition r tag t p => some (orderCell r.val tag 29 (beBytes 1 t ++ beBytes 2 p))
  | .reqRefuse r tag t q => some (orderCell r.val tag 30 (beBytes 1 t ++ beBytes 1 q))
  | .reqDrop r tag t => some (orderCell r.val tag 31 (beBytes 1 t))
  | .pinReset | .cellDiscarded _ | .unknownOrder _ | .samplePeriod _ _ _ | .songPositionLimit _ | .songTick _
  | .analysisComplete | .calTimeout _ | .bankClearingComplete _ _ | .fontClearingComplete | .panelNone _
  | .panelRequest _ | .panelCancel _ | .panelStopMessage _ | .panelUnknownKind _ _ | .wrongEcho _ | .garbled
  | .noAnswer | .venueTimeTick | .replyTimeout _ _ | .cellSent => none

/-- The command that a word of spec/opcode_table.json's bits spells. The table gives no row any bits, so no
word spells a command. -/
def decodeTableWord (_nbits _w : Nat) : Option Instr := none

end Sys2Proof
end

