-- ==== Sys2Proof/Config.lean ====
section
/-! DEFINITION. The free values: bytes the part sends whose value the manual does not state. Each is an
opaque constant, so nothing can be proved of its value and every statement holds whatever it is. -/

namespace Sys2Proof.Config

/-- UNVERIFIED, safe: the order-kind byte of the MALFORMED reply to an ORDER or APPEND cell whose payload
ends before its order kind or section. Chapter 12.1 gives the REPLY "the order kind or section of the
answered cell", and such a cell has none. The argument is the state's count of free values drawn. Log 1. -/
opaque replyKindByte : Nat → Byte

/-- UNVERIFIED, safe: the room byte of the MALFORMED reply to a cell whose own room byte is neither 0 to 3
nor 15 (the only values chapter 12.1 allows in a header). The argument is the received room byte. Log 2. -/
opaque replyRoomByte : Nat → Byte

/-- UNVERIFIED, safe: the flags byte of the upstream cells. Chapter 12.1 names flag bits for VIDEO and AUDIO
cells only. Log 3. -/
opaque upstreamFlags : Byte

end Sys2Proof.Config
end

