-- ==== Sys2Proof/Machine/State.lean ====
section
/-! DEFINITION. The state of the BH440 as plain data: every register, table, queue, counter, flag and pin the
manual gives it, the queue of waiting commands, and the state after pin reset. Counts the manual names beside
a list (a frontier, a fill, a sample count, a glyph count) are the list's length and are not stored twice. -/

namespace Sys2Proof.Machine

/-! ### Named sets -/

/-- Chip modes (R172). -/
inductive Mode where
  | config | run | stop
  deriving DecidableEq, Repr

/-- Room states (R1, 1.2). -/
inductive RoomState where
  | off | idle | calibrating | cued | playing | held | ending
  deriving DecidableEq, Repr

/-- The part a microphone sings (R1, MIC_ASSIGN of R175). -/
inductive Assign where
  | a | b | all | off
  deriving DecidableEq, Repr

/-- Singer parts (R23). -/
inductive Part where
  | a | b | both
  deriving DecidableEq, Repr

/-- Why a song ended (R1, 1.7). -/
inductive EndReason where
  | complete | stopped | halted | panelStop
  deriving DecidableEq, Repr

/-- Bank states (R23). -/
inductive BankState where
  | empty | filling | closed | clearing
  deriving DecidableEq, Repr

/-- Reply codes, in the order of R171's table. -/
inductive ReplyCode where
  | ok | busy | wrongMode | wrongState | range | malformed | notEmpty | notReady | inUse | sequence | capacity
  | countMismatch | noTicket | cancelled | unknownTicket
  deriving DecidableEq, Repr

/-- LINE_OVERFLOW (R80). -/
inductive Overflow where
  | clip | drop
  deriving DecidableEq, Repr

/-- COMP_MODE (R123). -/
inductive CompMode where
  | measuredPlusOffset | offsetOnly
  deriving DecidableEq, Repr

/-- REQUEST_ORDER (R157). -/
inductive RequestOrder where
  | arrival | roomRank
  deriving DecidableEq, Repr

/-- The last QUEUE_MARK raised for a queue (R94). -/
inductive MarkState where
  | none | low | high
  deriving DecidableEq, Repr

/-- The mark of a QUEUE_MARK report (R98). -/
inductive Mark where
  | low | high
  deriving DecidableEq, Repr

/-- Frame classes (R75, R77). -/
inductive FrameClass where
  | overlay | preview | pass
  deriving DecidableEq, Repr

/-- Outcomes of a calibration (R101). -/
inductive CalOutcome where
  | ok | timeout | aborted
  deriving DecidableEq, Repr

/-- Grades of a judged frame (8.3). -/
inductive Grade where
  | perfect | near | off | silent
  deriving DecidableEq, Repr

/-- Outcomes of a frame (8.3). -/
inductive FrameOutcome where
  | graded (g : Grade) | disturbed | rest | unguided
  deriving DecidableEq, Repr

/-- States of a request entry (R153). -/
inductive EntryState where
  | waiting | sent | accepted | cued | playing | cancelling
  deriving DecidableEq, Repr

/-- L or R of a room's backing output (R91). -/
inductive Channel where
  | left | right
  deriving DecidableEq, Repr

/-! ### Room context and parameters -/

/-- The lyric state (R54). -/
structure LyricState where
  current : Nat := 0
  scrollStart : Nat := 0
  scrollLength : Nat := 0
  starved : Bool := false
  finished : Bool := false
  haltPending : Bool := false
  deriving DecidableEq, Repr

/-- The room context (R1). The song clock is not stored: it is `songClock`. -/
@[ext] structure RoomContext where
  state : RoomState := .off
  currentBank : Option BankId := none
  cuedBank : Option BankId := none
  currentTicket : Option Nat := none
  cuedTicket : Option Nat := none
  keyShift : Int := 0
  epoch : Epoch := 0
  position : Nat := 0
  comp : Nat := 0
  compClamped : Bool := false
  assign1 : Assign := .all
  assign2 : Assign := .off
  endReason : Option EndReason := none
  starvedEver : Bool := false
  underrunCount : Nat := 0
  starvationCount : Nat := 0
  skipCount : Nat := 0
  lyric : LyricState := {}
  draining : Bool := false
  deriving DecidableEq, Repr

/-- The default PALETTE (R80). -/
def defaultPalette : Palette :=
  { aUnsung := ⟨255, 255, 255⟩, aSung := ⟨0, 128, 255⟩,
    bUnsung := ⟨255, 255, 255⟩, bSung := ⟨255, 64, 96⟩,
    bothUnsung := ⟨255, 255, 255⟩, bothSung := ⟨64, 200, 64⟩ }

/-- The room parameters with their defaults (R175 and the rules it cites). -/
structure RoomParams where
  roomEnable : Bool := false
  bandX : Nat := 320
  bandW : Nat := 1280
  bandY : Nat := 840
  rows : Nat := 2
  rowGap : Nat := 8
  lineOverflow : Overflow := .clip
  palette : Palette := defaultPalette
  advanceLead : Nat := 90
  scrollTicks : Nat := 60
  compMode : CompMode := .measuredPlusOffset
  compOffset : Nat := 0
  voiceThreshold : Nat := 400
  hysteresis : Nat := 256
  tolerance : Nat := 1
  octaveFold : Bool := true
  micAssign1 : Assign := .all
  micAssign2 : Assign := .off
  panelStopPermit : Bool := false
  duplicatesRefuse : Bool := false
  lowMark : Nat := 1024
  highMark : Nat := 6144
  calQ : Nat := 22
  calAmplitude : Nat := 8000
  calCycles : Nat := 8
  calThreshold : Nat := 2000
  calMic : MicId := 0
  deriving DecidableEq, Repr

/-- The chip parameters with their defaults (R174). -/
structure ChipParams where
  requestOrder : RequestOrder := .arrival
  replyTimeout : Nat := 5
  pollWindow : Nat := 4
  clearReports : Bool := true
  deriving DecidableEq, Repr

/-! ### Banks and the font -/

/-- A loaded syllable: its `codes` are the first glyph-count codes of the record (R23). -/
structure Syllable where
  start : Nat
  duration : Nat
  codes : List Nat
  trailingSpace : Bool
  deriving DecidableEq, Repr

/-- A loaded line, with the start and end the Bank Manager derived from its syllables (R23, R29). -/
structure Line where
  firstSyllable : Nat
  syllableCount : Nat
  part : Part
  last : Bool
  start : Nat
  finish : Nat
  deriving DecidableEq, Repr

/-- A loaded guide note (R23). -/
structure GuideNote where
  start : Nat
  duration : Nat
  note : Nat
  part : Part
  deriving DecidableEq, Repr

/-- A bank record with its sections (R23). The frontiers are the lengths of the three lists. -/
structure Bank where
  state : BankState := .empty
  songId : Nat := 0
  declaredLines : Nat := 0
  declaredSyllables : Nat := 0
  declaredNotes : Nat := 0
  lines : List Line := []
  syllables : List Syllable := []
  guide : List GuideNote := []
  lastSyllableStart : Option Nat := none
  lastGuideStart : Option Nat := none
  lastEndA : Nat := 0
  lastEndB : Nat := 0
  lastLineSeen : Bool := false
  deriving DecidableEq, Repr

/-- A glyph record (R44): the bitmap's coverage values row by row. -/
structure Glyph where
  code : Nat
  width : Nat
  advance : Nat
  bitmap : List Nat
  deriving DecidableEq, Repr

/-- The Glyph Table (R43). The glyph count is the length of `glyphs`. -/
structure GlyphTable where
  clearing : Bool := false
  height : Nat := 16
  spaceAdvance : Nat := 8
  missingAdvance : Nat := 8
  glyphs : List Glyph := []
  lastCode : Option Nat := none
  coverageUsed : Nat := 0
  deriving DecidableEq, Repr

/-! ### Video -/

/-- The frame latch (R75). A latch marked invalid is `none` in the room. `bandOff` is set when the latched bank
goes to CLEARING during the frame (R78); `laidOut` lists the lines already laid out in the frame (R88). -/
structure FrameLatch where
  mode : Mode
  roomState : RoomState
  cls : FrameClass
  bank : Option BankId
  lineFrontier : Nat
  clock : Nat
  current : Nat
  finished : Bool
  residual : Nat
  pitch : Nat
  bandX : Nat
  bandW : Nat
  bandY : Nat
  rows : Nat
  rowGap : Nat
  lineOverflow : Overflow
  palette : Palette
  height : Nat
  spaceAdvance : Nat
  missingAdvance : Nat
  glyphCount : Nat
  bandOff : Bool := false
  laidOut : List Nat := []
  deriving DecidableEq, Repr

/-- The compositor's counters (R88). -/
structure OverlayCounters where
  frameStarts : Counter := 0
  overlayFrames : Counter := 0
  missingGlyph : Counter := 0
  overflowLines : Counter := 0
  videoDiscarded : Counter := 0
  deriving DecidableEq, Repr

/-- A line sent on a room's video output port (R74). -/
structure VideoLine where
  line : Nat
  frameStart : Bool
  pixels : List Rgb
  deriving DecidableEq, Repr

/-! ### Audio -/

/-- A queued stereo sample, with its END mark (R94). -/
structure QueuedSample where
  left : Sample
  right : Sample
  endMark : Bool
  deriving DecidableEq, Repr

/-- A calibration in flight: the latched parameters and the index j of the next period (R101, R102). That the period j
which a calibration "has reached", as READ shows it between two sample periods (R106), is the next one and not the last
one done is the model's reading (DEDUCED, log 17). -/
structure Calibration where
  q : Nat
  amplitude : Nat
  cycles : Nat
  threshold : Nat
  mic : MicId
  period : Nat
  deriving DecidableEq, Repr

/-- A room's share of the Room Audio Port (R94, R101, R105). DRAINING is in the room context. The fill is the
length of `queue`. -/
@[ext] structure Port where
  queue : List QueuedSample := []
  pendingEnd : Bool := false
  markState : MarkState := .none
  inUnderrun : Bool := false
  audioDiscarded : Counter := 0
  overrun : Counter := 0
  underrunPeriods : Counter := 0
  audioBadCells : Counter := 0
  calibration : Option Calibration := none
  delay : Nat := 0
  delayValid : Bool := false
  deriving DecidableEq, Repr

/-- The target of an input slot (R91). -/
structure MicTarget where
  room : RoomId
  mic : MicId
  deriving DecidableEq, Repr

/-- The target of an output slot (R91). -/
structure ChannelTarget where
  room : RoomId
  channel : Channel
  deriving DecidableEq, Repr

/-! ### Voices and scores -/

/-- A frame assembler (R107). The sample count is the length of `samples`. -/
structure Assembler where
  assembling : Bool := false
  samples : List Sample := []
  consumed : Nat := 0
  dropped : Counter := 0
  deriving DecidableEq, Repr

/-- A frame record (R110). -/
structure FrameRecord where
  room : RoomId
  mic : MicId
  epoch : Epoch
  consumed : Nat
  pEnd : Nat
  lineIndex : Nat
  samples : List Sample
  stale : Bool
  deriving DecidableEq, Repr

/-- The pitch ladder (R118): 43 boundaries. -/
structure Ladder where
  loaded : Bool := false
  bounds : List Nat := List.replicate 43 0
  deriving DecidableEq, Repr

/-- An analysis in flight on the head record, with the values it took at its beginning (R112). -/
structure Analysis where
  voiceThreshold : Nat
  hysteresis : Nat
  bounds : List Nat
  deriving DecidableEq, Repr

/-- A result record (R120). -/
structure ResultRecord where
  room : RoomId
  mic : MicId
  epoch : Epoch
  stale : Bool
  consumed : Nat
  pEnd : Nat
  lineIndex : Nat
  mav : Nat
  crossings : Nat
  period : Option Nat
  voiced : Bool
  note : Option Nat
  deriving DecidableEq, Repr

/-- One set of accumulators, of the song or of the line (R121): judged frames S, points P, grade counts and the
set's freeze flag. -/
structure Accumulators where
  s : Nat := 0
  p : Nat := 0
  perfect : Nat := 0
  near : Nat := 0
  off : Nat := 0
  silent : Nat := 0
  frozen : Bool := false
  deriving DecidableEq, Repr

/-- The outcome counters of a lane (R121), each saturating at 65535. -/
structure OutcomeCounters where
  perfect : Nat := 0
  near : Nat := 0
  off : Nat := 0
  silent : Nat := 0
  disturbed : Nat := 0
  rest : Nat := 0
  unguided : Nat := 0
  deriving DecidableEq, Repr

/-- A lane of a Score Unit (R121). -/
structure Lane where
  song : Accumulators := {}
  line : Accumulators := {}
  outcomes : OutcomeCounters := {}
  cursorA : Nat := 0
  cursorB : Nat := 0
  deriving DecidableEq, Repr

/-- What the part keeps for one microphone: assembler, lane and last result record (R107, R120, R121). -/
structure Mic where
  assembler : Assembler := {}
  lane : Lane := {}
  lastResult : Option ResultRecord := none
  deriving DecidableEq, Repr

/-- A score with its UNSCORED flag (R135). -/
structure Score where
  value : Nat
  unscored : Bool
  deriving DecidableEq, Repr

/-! ### Requests and panels -/

/-- A request entry (R153). -/
structure Entry where
  ticket : Nat
  issue : IssueNumber
  song : Nat
  keyShift : Int
  singerTag : Nat
  source : PanelId
  state : EntryState
  position : Option Nat
  issueTime : VenueTime
  sentTime : Option VenueTime
  deriving DecidableEq, Repr

/-- The Request Manager's counters of a room (R167). -/
structure RequestCounters where
  ticketsIssued : Counter := 0
  refusedFull : Counter := 0
  refusedDuplicate : Counter := 0
  timeouts : Counter := 0
  deriving DecidableEq, Repr

/-- An item of the cancel queue (R156). -/
structure CancelItem where
  room : RoomId
  ticket : Nat
  deriving DecidableEq, Repr

/-- The kinds of result with their fields (R150). -/
inductive ResultKind where
  | ticket (ticket song : Nat)
  | accepted (ticket position : Nat)
  | position (ticket position : Nat)
  | refused (ticket reason : Nat)
  | cancelled (ticket : Nat)
  | unanswered (ticket : Nat)
  | tooLate (ticket : Nat)
  | full
  | duplicate
  | format
  | notPermitted
  | score (mic1 mic2 room : Score)
  deriving DecidableEq, Repr

/-- A result in an outbox, with its LOST mark (R149, R150). -/
structure PanelResult where
  kind : ResultKind
  lost : Bool
  deriving DecidableEq, Repr

/-- An entry of the poll table with its outbox and counters (R140, R149, R152). -/
structure PollEntry where
  enabled : Bool := false
  address : Nat := 1
  room : RoomId := 0
  present : Bool := false
  missCount : Nat := 0
  outbox : List PanelResult := []
  polls : Counter := 0
  good : Counter := 0
  noAnswer : Counter := 0
  garbled : Counter := 0
  wrongEcho : Counter := 0
  resultsLost : Counter := 0
  deriving DecidableEq, Repr

/-- A poll transaction in flight (R143), of the entry at the next-entry index: the address polled, the window
it was given, and the result its POLL frame carried. -/
structure PollTransaction where
  address : Nat
  window : Nat
  carried : Option PanelResult
  deriving DecidableEq, Repr

/-! ### Reports, replies and the link -/

/-- The owners of reports, in the arbiter's cyclic order (R179). -/
inductive Owner where
  | room (r : RoomId) | chip
  deriving DecidableEq, Repr

/-- A microphone's part of a LINE_SCORE (R136). -/
structure LineLane where
  assign : Assign
  s : Nat
  p : Nat
  score : Score
  frozen : Bool
  deriving DecidableEq, Repr

/-- The fields of a LINE_SCORE (R136). -/
structure LineScore where
  room : RoomId
  epoch : Epoch
  line : Nat
  skipped : Bool
  mic1 : LineLane
  mic2 : LineLane
  deriving DecidableEq, Repr

/-- A microphone's part of a SONG_END (R137). -/
structure SongLane where
  assign : Assign
  s : Nat
  p : Nat
  perfect : Nat
  near : Nat
  off : Nat
  silent : Nat
  disturbed : Nat
  rest : Nat
  unguided : Nat
  score : Score
  frozen : Bool
  deriving DecidableEq, Repr

/-- The fields of a SONG_END (R137). -/
structure SongEnd where
  room : RoomId
  epoch : Epoch
  songId : Nat
  ticket : Option Nat
  singerTag : Option Nat
  keyShift : Int
  reason : EndReason
  finalLine : Nat
  mic1 : SongLane
  mic2 : SongLane
  roomScore : Score
  comp : Nat
  compClamped : Bool
  starvedEver : Bool
  finished : Bool
  underrunCount : Nat
  starvationCount : Nat
  skipCount : Nat
  deriving DecidableEq, Repr

/-- A report's kind and fields (11.5). -/
inductive ReportBody where
  | lineScore (b : LineScore)
  | songEnd (b : SongEnd)
  /-- the room's banks whose clearings completed (R41) -/
  | bankFree (room : RoomId) (bank0 bank1 : Bool)
  | calDone (room : RoomId) (outcome : CalOutcome) (j delay : Nat) (valid : Bool) (mic : MicId)
  | queueMark (room : RoomId) (mark : Mark) (fill : Nat)
  | panelState (entry : PanelId) (address : Nat) (room : RoomId) (present : Bool)
  deriving DecidableEq, Repr

/-- A report with its raise time and lost count (R177); the lost count stays 0 for kinds without one. -/
structure Report where
  body : ReportBody
  raiseTime : VenueTime
  lost : Nat
  deriving DecidableEq, Repr

/-- A room's report stack: one slot for each room kind (R177), in the order R179 takes them. -/
structure RoomStack where
  lineScore : Option Report := none
  songEnd : Option Report := none
  bankFree : Option Report := none
  calDone : Option Report := none
  queueMark : Option Report := none
  deriving DecidableEq, Repr

/-- A reply in the reply queue (R171, 12.1): the room, tag and order kind or section of the answered cell, the
code and the reply data. -/
structure Reply where
  room : Byte
  tag : Byte
  kind : Byte
  code : ReplyCode
  data : List Byte
  deriving DecidableEq, Repr

/-- An upstream cell (11.1, R157, R177). -/
inductive UpCell where
  | reply (r : Reply)
  | add (room : RoomId) (ticket : Nat) (issue : IssueNumber) (song : Nat) (keyShift : Int) (singerTag : Nat)
      (address : Nat) (issueTime : VenueTime)
  | cancel (room : RoomId) (ticket : Nat)
  | report (r : Report)
  deriving DecidableEq, Repr

/-- The link counters (R182). REPORTS_STACKED and REPORTS_REPLACED keep one count per owner: rooms 0 to 3, then
the chip. -/
structure LinkCounters where
  cellsIn : Counter := 0
  badLength : Counter := 0
  badCrc : Counter := 0
  standbyDiscarded : Counter := 0
  badKind : Counter := 0
  mediaDiscarded : Counter := 0
  ordersLost : Counter := 0
  repliesSent : Counter := 0
  requestCellsSent : Counter := 0
  reportsSent : Counter := 0
  reportsStacked : Vector Counter 5 := Vector.replicate 5 0
  reportsReplaced : Vector Counter 5 := Vector.replicate 5 0
  deriving DecidableEq, Repr

/-! ### The machine -/

/-- Everything the part keeps for one room. -/
@[ext] structure Room where
  ctx : RoomContext := {}
  params : RoomParams := {}
  bank0 : Bank := {}
  bank1 : Bank := {}
  latch : Option FrameLatch := none
  overlay : OverlayCounters := {}
  /-- the pins of the room's video output port: the last line sent (R74) -/
  videoOut : Option VideoLine := none
  port : Port := {}
  mic1 : Mic := {}
  mic2 : Mic := {}
  /-- the request list (R153) -/
  requests : List Entry := []
  /-- the last ticket issued in the room (R154) -/
  ticketCounter : Nat := 0
  requestCounters : RequestCounters := {}
  stack : RoomStack := {}
  deriving DecidableEq, Repr

/-- The state of the BH440. -/
@[ext]
structure State where
  /-- the chip mode (R172) -/
  mode : Mode
  /-- the Venue Timer's count (chapter 0) -/
  venueTime : VenueTime
  rooms : Vector Room 4
  font : GlyphTable
  ladder : Ladder
  /-- the frame queue, oldest at the head (R111) -/
  frameQueue : List FrameRecord
  /-- the analysis engine: `none` is IDLE (R112) -/
  engine : Option Analysis
  /-- the input entries of the slot map (R91) -/
  slotIn : Vector (Option MicTarget) 8
  /-- the output entries of the slot map (R91) -/
  slotOut : Vector (Option ChannelTarget) 8
  /-- the pins AUD_DOUT: the values of the eight output slots in the last TDM frame (R93) -/
  audioOut : Vector Sample 8
  /-- the poll table (R140) -/
  panels : Vector PollEntry 8
  /-- the next-entry index of the Panel Bus Controller (R142) -/
  nextEntry : PanelId
  /-- the Panel Bus Controller: `none` is IDLE, else POLLING with this transaction (R142, R143) -/
  polling : Option PollTransaction
  chip : ChipParams
  /-- the REPLY_TIMEOUT, in seconds, that applies in the present millisecond: a value CHIP_PARAM takes applies from the
  next one (R163) -/
  timeoutInForce : Nat
  /-- the last issue number given (R154) -/
  issueCounter : IssueNumber
  /-- the cancel queue, oldest first (R156) -/
  cancelQueue : List CancelItem
  /-- the reply queue, oldest first (R171) -/
  replies : List Reply
  /-- the report queue, oldest first (R177) -/
  reports : List Report
  /-- the chip report stack: the PANEL_STATE slot of each poll-table entry (R177) -/
  chipStack : Vector (Option Report) 8
  /-- the owner last served by the drain arbiter (R177, R179) -/
  lastServed : Owner
  link : LinkCounters
  /-- the pins of the upstream link: the cell being sent, `none` while the link is idle (R180) -/
  upstream : Option UpCell
  /-- the MODEL's own field: how many free values have been drawn (log 1) -/
  freeDrawn : Nat
  /-- the MODEL's own field: the commands that wait, first in, first out -/
  pending : List Instr
  deriving DecidableEq, Repr

/-- The faults of the machine. There is none: the manual describes no event that stops the part. -/
inductive Fault where
  deriving DecidableEq, Repr

/-- The refusals of the machine. -/
inductive Refusal where
  /-- Raised by `exec`'s arm of a command that has no meaning yet; safe. No arm of this model raises it. -/
  | notModelled (mnemonic : String)
  deriving DecidableEq, Repr

/-- The machine right after pin reset: R183, and R2, R24, R45, R55, R76, R88, R91, R94, R105, R107, R111, R112,
R118, R120, R122, R140, R142, R149, R152, R154, R167, R171, R177, R182 for the blocks. -/
def State.reset : State :=
  { mode := .config
    venueTime := 0
    rooms := Vector.replicate 4 {}
    font := {}
    ladder := {}
    frameQueue := []
    engine := none
    slotIn := Vector.replicate 8 none
    slotOut := Vector.replicate 8 none
    audioOut := Vector.replicate 8 0
    panels := Vector.replicate 8 {}
    nextEntry := 0
    polling := none
    chip := {}
    timeoutInForce := 5
    issueCounter := 0
    cancelQueue := []
    replies := []
    reports := []
    chipStack := Vector.replicate 8 none
    lastServed := .chip
    link := {}
    upstream := none
    freeDrawn := 0
    pending := [] }

end Sys2Proof.Machine
end

