-- ==== Sys2Proof/Machine/Flags.lean ====
section
/-! DEFINITION. Flags packed into bytes, saturating and wrapping counts, and the codes chapter 12 gives the
named sets. -/

namespace Sys2Proof.Machine

/-- Flags packed into one byte, the first in bit 0 (12.2). -/
def packFlags : List Bool → Nat
  | [] => 0
  | f :: fs => (if f then 1 else 0) + 2 * packFlags fs

/-- A two-way choice coded 0 for the first-named value and 1 for the second (12.2). -/
def flagCode (f : Bool) : Nat := if f then 1 else 0

/-- A count that stops at 65535 (R1, R121, R177). -/
def satAdd (n k : Nat) : Nat := min (n + k) 65535

/-- A 32-bit counter counts `k` events, wrapping to 0 after its largest value. -/
def bump (c : Counter) (k : Nat) : Counter := c + BitVec.ofNat 32 k

/-- Reply codes are numbered 0 to 14 in the order of R171's table (12.1). -/
def ReplyCode.code : ReplyCode → Nat
  | .ok => 0
  | .busy => 1
  | .wrongMode => 2
  | .wrongState => 3
  | .range => 4
  | .malformed => 5
  | .notEmpty => 6
  | .notReady => 7
  | .inUse => 8
  | .sequence => 9
  | .capacity => 10
  | .countMismatch => 11
  | .noTicket => 12
  | .cancelled => 13
  | .unknownTicket => 14

/-- Modes are coded CONFIG 0, RUN 1, STOP 2 (12.2). -/
def Mode.code : Mode → Nat
  | .config => 0
  | .run => 1
  | .stop => 2

/-- Room states are coded from 0 in the order R1 lists them (12.2). -/
def RoomState.code : RoomState → Nat
  | .off => 0
  | .idle => 1
  | .calibrating => 2
  | .cued => 3
  | .playing => 4
  | .held => 5
  | .ending => 6

/-- Assignments are A 0, B 1, ALL 2 and OFF 3 (12.2). -/
def Assign.code : Assign → Nat
  | .a => 0
  | .b => 1
  | .all => 2
  | .off => 3

/-- Reasons are COMPLETE 0, STOPPED 1, HALTED 2, PANEL_STOP 3 (12.4). -/
def EndReason.code : EndReason → Nat
  | .complete => 0
  | .stopped => 1
  | .halted => 2
  | .panelStop => 3

/-- Bank states are coded from 0 in the order R23 lists them (12.2). -/
def BankState.code : BankState → Nat
  | .empty => 0
  | .filling => 1
  | .closed => 2
  | .clearing => 3

/-- CLIP 0, DROP 1 (12.2). -/
def Overflow.code : Overflow → Nat
  | .clip => 0
  | .drop => 1

/-- MEASURED_PLUS_OFFSET 0, OFFSET_ONLY 1 (12.2). -/
def CompMode.code : CompMode → Nat
  | .measuredPlusOffset => 0
  | .offsetOnly => 1

/-- ARRIVAL 0, ROOM_RANK 1 (12.2). -/
def RequestOrder.code : RequestOrder → Nat
  | .arrival => 0
  | .roomRank => 1

/-- Mark states are coded from 0 in the order R94 lists them (12.2). -/
def MarkState.code : MarkState → Nat
  | .none => 0
  | .low => 1
  | .high => 2

/-- LOW 0, HIGH 1 (12.4). -/
def Mark.code : Mark → Nat
  | .low => 0
  | .high => 1

/-- OK 0, TIMEOUT 1, ABORTED 2 (12.4). -/
def CalOutcome.code : CalOutcome → Nat
  | .ok => 0
  | .timeout => 1
  | .aborted => 2

/-- Entry states are coded from 0 in the order R153 lists them (12.2). -/
def EntryState.code : EntryState → Nat
  | .waiting => 0
  | .sent => 1
  | .accepted => 2
  | .cued => 3
  | .playing => 4
  | .cancelling => 5

/-- Owners are coded from 0 in the cyclic order of R179. -/
def Owner.index : Owner → Fin 5
  | .room r => ⟨r.val, by omega⟩
  | .chip => 4

/-- A signed value as the byte of its two's complement (12, Signed fields). -/
def signedByte (z : Int) : Nat := (z % 256).toNat

end Sys2Proof.Machine
end

