-- ==== Sys2Proof/Machine/Operands.lean ====
section
/-! DEFINITION. The operand forms of the orders: what a raw field of chapter 12 names, and none where R184 has
the owning rule refuse it. -/

namespace Sys2Proof.Machine

/-- A bank number: 0 or 1. -/
def bankOf (n : Nat) : Option BankId := if h : n < 2 then some ⟨n, h⟩ else none

/-- A slot number: 0 to 7. -/
def slotOf (n : Nat) : Option SlotId := if h : n < 8 then some ⟨n, h⟩ else none

/-- A poll-table entry number: 0 to 7. -/
def panelOf (n : Nat) : Option PanelId := if h : n < 8 then some ⟨n, h⟩ else none

/-- A mic number on the wire: 1 or 2. -/
def micOf : Nat → Option MicId
  | 1 => some 0
  | 2 => some 1
  | _ => none

/-- The mic number of a microphone. -/
def micNumber (m : MicId) : Nat := m.val + 1

/-- A two-way choice: 0 the first-named value (false), 1 the second (true). -/
def twoWay : Nat → Option Bool
  | 0 => some false
  | 1 => some true
  | _ => none

/-- An assignment code. -/
def assignOf : Nat → Option Assign
  | 0 => some .a
  | 1 => some .b
  | 2 => some .all
  | 3 => some .off
  | _ => none

/-- A part code. -/
def partOf : Nat → Option Part
  | 0 => some .a
  | 1 => some .b
  | 2 => some .both
  | _ => none

/-- The modes SET_MODE names. -/
def modeOf : Nat → Option Mode
  | 0 => some .config
  | 1 => some .run
  | 2 => some .stop
  | _ => none

/-- The target of an input slot a SLOT_MAP target byte names (12.2): none for 255, else bits 0-1 the room and bit
2 the mic; the outer none is a target with one of bits 3 to 7 set (RANGE, R184). -/
def micTargetOf (n : Nat) : Option (Option MicTarget) :=
  if n = 255 then some none
  else if n < 8 then some (some ⟨Fin.ofNat 4 n, Fin.ofNat 2 (n / 4)⟩)
  else none

/-- The target of an output slot a SLOT_MAP target byte names (12.2): bit 2 is 0 for L and 1 for R. -/
def channelTargetOf (n : Nat) : Option (Option ChannelTarget) :=
  if n = 255 then some none
  else if n < 8 then some (some ⟨Fin.ofNat 4 n, if n / 4 = 0 then .left else .right⟩)
  else none

/-- The code of a microphone target (12.2). -/
def MicTarget.code (t : MicTarget) : Nat := t.room.val + 4 * t.mic.val

/-- The code of a channel target (12.2). -/
def ChannelTarget.code (t : ChannelTarget) : Nat :=
  t.room.val + if t.channel = .left then 0 else 4

/-- A part a note or a line names belongs to part A (R127). -/
def Part.hasA : Part → Bool
  | .a | .both => true
  | .b => false

/-- A part belongs to part B (R127). -/
def Part.hasB : Part → Bool
  | .b | .both => true
  | .a => false

end Sys2Proof.Machine
end

