-- ==== Sys2Proof/Machine/Ops.lean ====
section
/-! DEFINITION. The named operations the meanings share: reading and updating one room, bank, microphone or
panel; counting a downstream cell under R169 and what answers an order under R171; and the reply data's fields. -/

namespace Sys2Proof.Machine

/-! ### Rooms and their parts -/

/-- The room numbered `r`. -/
def State.room (s : State) (r : RoomId) : Room := s.rooms.get r

/-- The state with room `r` replaced. -/
def State.setRoom (s : State) (r : RoomId) (x : Room) : State := { s with rooms := s.rooms.set r x }

/-- The state with room `r` changed by `f`. -/
def State.updRoom (s : State) (r : RoomId) (f : Room → Room) : State := s.setRoom r (f (s.room r))

/-- The poll-table entry numbered `e`. -/
def State.panel (s : State) (e : PanelId) : PollEntry := s.panels.get e

/-- The state with poll-table entry `e` changed by `f`. -/
def State.updPanel (s : State) (e : PanelId) (f : PollEntry → PollEntry) : State :=
  { s with panels := s.panels.set e (f (s.panel e)) }

/-- Bank `b` of a room. -/
def Room.bank (rm : Room) (b : BankId) : Bank := if b = 0 then rm.bank0 else rm.bank1

/-- The room with bank `b` changed by `f`. -/
def Room.updBank (rm : Room) (b : BankId) (f : Bank → Bank) : Room :=
  if b = 0 then { rm with bank0 := f rm.bank0 } else { rm with bank1 := f rm.bank1 }

/-- Microphone `m` of a room. -/
def Room.mic (rm : Room) (m : MicId) : Mic := if m = 0 then rm.mic1 else rm.mic2

/-- The room with microphone `m` changed by `f`. -/
def Room.updMic (rm : Room) (m : MicId) (f : Mic → Mic) : Room :=
  if m = 0 then { rm with mic1 := f rm.mic1 } else { rm with mic2 := f rm.mic2 }

/-- The room with both microphones changed by `f`. -/
def Room.updMics (rm : Room) (f : Mic → Mic) : Room := { rm with mic1 := f rm.mic1, mic2 := f rm.mic2 }

/-- The room with its context changed by `f`. -/
def Room.updCtx (rm : Room) (f : RoomContext → RoomContext) : Room := { rm with ctx := f rm.ctx }

/-- The room with its share of the audio port changed by `f`. -/
def Room.updPort (rm : Room) (f : Port → Port) : Room := { rm with port := f rm.port }

/-- The room with its state set. -/
def Room.setState (rm : Room) (st : RoomState) : Room := rm.updCtx fun c => { c with state := st }

/-- The song clock: the song position divided by 64, rounded down (R1). -/
def RoomContext.songClock (c : RoomContext) : Nat := c.position / 64

/-- The latched assignment of a microphone (R12). -/
def RoomContext.assign (c : RoomContext) (m : MicId) : Assign := if m = 0 then c.assign1 else c.assign2

/-- The room is PLAYING or HELD: the states in which a song is in progress (R17). -/
def RoomContext.singing (c : RoomContext) : Bool := c.state == .playing || c.state == .held

/-- The room's current bank record, if it has a current bank. -/
def Room.currentBank? (rm : Room) : Option Bank := rm.ctx.currentBank.map rm.bank

/-- The fill of the backing queue (R94). -/
def Port.fill (p : Port) : Nat := p.queue.length

/-- The line frontier (R23). -/
def Bank.lineFrontier (b : Bank) : Nat := b.lines.length

/-- The syllable frontier (R23). -/
def Bank.syllableFrontier (b : Bank) : Nat := b.syllables.length

/-- The guide frontier (R23). -/
def Bank.guideFrontier (b : Bank) : Nat := b.guide.length

/-- The bank offers its records to readers: it is FILLING or CLOSED (R32). -/
def Bank.loaded (b : Bank) : Bool := b.state == .filling || b.state == .closed

/-- The glyph count (R43). -/
def GlyphTable.count (t : GlyphTable) : Nat := t.glyphs.length

/-- A panel is mapped to a room when an enabled entry names it with that room (R140). -/
def PollEntry.mappedTo (e : PollEntry) (r : RoomId) : Bool := e.enabled && e.room == r

/-! ### Taking a cell (R169, R171) -/

/-- The state with the link counters changed by `f`. -/
def State.count (s : State) (f : LinkCounters → LinkCounters) : State := { s with link := f s.link }

/-- A cell that passed every check of R169 counts one in CELLS_IN. -/
def State.countIn (s : State) : State := s.count fun l => { l with cellsIn := bump l.cellsIn 1 }

/-- Check 3 of R169 discards a cell in chip mode STOP. -/
def State.countStandby (s : State) : State :=
  s.count fun l => { l with standbyDiscarded := bump l.standbyDiscarded 1 }

/-- Check 6 of R169 discards an ORDER or APPEND cell that finds the reply queue full. -/
def State.countOrdersLost (s : State) : State :=
  s.count fun l => { l with ordersLost := bump l.ordersLost 1 }

/-- The reply queue holds 16 replies (R171). -/
def State.repliesFull (s : State) : Bool := 16 ≤ s.replies.length

/-- A reply enters the tail of the reply queue (R171). -/
def State.pushReply (s : State) (r : Reply) : State := { s with replies := s.replies ++ [r] }

/-- How an order is decided: the state after it, the reply code and the reply data. -/
structure Verdict where
  state : State
  code : ReplyCode
  data : List Byte
  deriving DecidableEq, Repr

/-- An order taken with OK. -/
def accept (s : State) (data : List Byte := []) : Verdict := ⟨s, .ok, data⟩

/-- An order answered with another code has no effect (R4). -/
def refuse (s : State) (code : ReplyCode) (data : List Byte := []) : Verdict := ⟨s, code, data⟩

/-- The reply to an order or append of header room `room`, tag `tag` and order kind or section `kind`. -/
def replyOf (room tag kind : Nat) (code : ReplyCode) (data : List Byte) : Reply :=
  { room := BitVec.ofNat 8 room, tag := BitVec.ofNat 8 tag, kind := BitVec.ofNat 8 kind, code := code, data := data }

/-- A VIDEO or AUDIO cell that passed checks 1, 2, 4 and 5 of R169 is taken: it is discarded in chip mode STOP
(check 3), and else handed to its block. Media cells get no reply. -/
def takeMedia (act : State → State) (s : State) : State :=
  if s.mode = .stop then s.countStandby else act s.countIn

/-! ### Fields of replies and reports (12.2) -/

/-- A number of `w` bytes. -/
def num (w n : Nat) : List Byte := beBytes w n

/-- An optional number: a presence byte, then the value, sent as 0 when absent. -/
def opt (w : Nat) : Option Nat → List Byte
  | some n => num 1 1 ++ num w n
  | none => num 1 0 ++ num w 0

/-- One byte of packed flags. -/
def flags (fs : List Bool) : List Byte := num 1 (packFlags fs)

end Sys2Proof.Machine
end

