-- ==== Sys2Proof/Machine/Reports.lean ====
section
/-! DEFINITION. The Report Unit: raising a report into the queue or its owner's stack (R177, R178) and the order
in which a stack gives its reports up (R179). -/

namespace Sys2Proof.Machine

/-- The owner of a report (11.5). -/
def ReportBody.owner : ReportBody → Owner
  | .lineScore b => .room b.room
  | .songEnd b => .room b.room
  | .bankFree r _ _ => .room r
  | .calDone r _ _ _ _ _ => .room r
  | .queueMark r _ _ => .room r
  | .panelState _ _ _ _ => .chip

/-- No slot of a room's stack holds a report. -/
def RoomStack.isEmpty (k : RoomStack) : Bool :=
  k.lineScore.isNone && k.songEnd.isNone && k.bankFree.isNone && k.calDone.isNone && k.queueMark.isNone

/-- No slot of the chip stack holds a report. -/
def State.chipStackEmpty (s : State) : Bool := allPanels.all fun e => (s.chipStack.get e).isNone

/-- The owner's stack is empty. -/
def State.stackEmpty (s : State) : Owner → Bool
  | .room r => (s.room r).stack.isEmpty
  | .chip => s.chipStackEmpty

/-- R178: the new report replaces the stacked one and carries its lost count plus 1; in an empty slot it keeps
its own. -/
def replaceReport (old : Option Report) (new : Report) : Report :=
  match old with
  | none => new
  | some o => { new with lost := satAdd o.lost 1 }

/-- R41, R178: a BANK_FREE merges into the stacked one, which keeps its raise time. -/
def mergeBankFree (old : Option Report) (new : Report) : Report :=
  match old, new.body with
  | some o, .bankFree r n0 n1 =>
    match o.body with
    | .bankFree _ b0 b1 => { o with body := .bankFree r (b0 || n0) (b1 || n1) }
    | _ => new
  | _, _ => new

/-- R178: the slot of a room's stack for the report's kind takes, replaces or merges the report. -/
def RoomStack.put (k : RoomStack) (rep : Report) : RoomStack :=
  match rep.body with
  | .lineScore _ => { k with lineScore := some (replaceReport k.lineScore rep) }
  | .songEnd _ => { k with songEnd := some rep }
  | .bankFree _ _ _ => { k with bankFree := some (mergeBankFree k.bankFree rep) }
  | .calDone _ _ _ _ _ _ => { k with calDone := some rep }
  | .queueMark _ _ _ => { k with queueMark := some (replaceReport k.queueMark rep) }
  | .panelState _ _ _ _ => k

/-- The report meets an occupied slot of its kind that it replaces (R178): a LINE_SCORE, QUEUE_MARK or
PANEL_STATE. -/
def State.replaces (s : State) (rep : Report) : Bool :=
  match rep.body with
  | .lineScore b => (s.room b.room).stack.lineScore.isSome
  | .queueMark r _ _ => (s.room r).stack.queueMark.isSome
  | .panelState e _ _ _ => (s.chipStack.get e).isSome
  | _ => false

/-- The counters of a report that goes to a stack (R178, R182): one count for its owner in REPORTS_STACKED, and
one in REPORTS_REPLACED for a replacement. -/
def LinkCounters.stacked (l : LinkCounters) (o : Owner) (replaced : Bool) : LinkCounters :=
  { l with
    reportsStacked := l.reportsStacked.set o.index (bump (l.reportsStacked.get o.index) 1)
    reportsReplaced :=
      if replaced then l.reportsReplaced.set o.index (bump (l.reportsReplaced.get o.index) 1)
      else l.reportsReplaced }

/-- R178: the slot for the report's kind in its owner's stack takes, replaces or merges the report. -/
def fillSlot (rep : Report) (s : State) : State :=
  match rep.body.owner with
  | .room r => s.updRoom r fun rm => { rm with stack := rm.stack.put rep }
  | .chip =>
    match rep.body with
    | .panelState e _ _ _ =>
      { s with chipStack := s.chipStack.set e (some (replaceReport (s.chipStack.get e) rep)) }
    | _ => s

/-- R178: a report goes to the slot of its kind in its owner's stack, and is counted. -/
def stackReport (rep : Report) (s : State) : State :=
  fillSlot rep (s.count fun l => l.stacked rep.body.owner (s.replaces rep))

/-- R177: a raised report enters the queue when the queue holds fewer than 16 reports and its owner's stack is
empty. -/
def State.reportEnters (s : State) (o : Owner) : Bool := s.reports.length < 16 && s.stackEmpty o

/-- A report as it is raised: with the venue time, and lost count 0 (R177). -/
def State.newReport (s : State) (body : ReportBody) : Report := ⟨body, s.venueTime, 0⟩

/-- R177: a report is raised. It enters the tail of the queue, or goes to its stack. -/
def raise (body : ReportBody) (s : State) : State :=
  if s.reportEnters body.owner then { s with reports := s.reports ++ [s.newReport body] }
  else stackReport (s.newReport body) s

/-- R179: the report a room's stack gives up first, and the stack without it. -/
def RoomStack.takeFirst (k : RoomStack) : Option (Report × RoomStack) :=
  match k.lineScore with
  | some rep => some (rep, { k with lineScore := none })
  | none =>
    match k.songEnd with
    | some rep => some (rep, { k with songEnd := none })
    | none =>
      match k.bankFree with
      | some rep => some (rep, { k with bankFree := none })
      | none =>
        match k.calDone with
        | some rep => some (rep, { k with calDone := none })
        | none =>
          match k.queueMark with
          | some rep => some (rep, { k with queueMark := none })
          | none => none

/-- The lowest-numbered poll-table entry whose PANEL_STATE slot is occupied (R179). -/
def State.firstPanelState (s : State) : Option PanelId :=
  allPanels.find? fun e => (s.chipStack.get e).isSome

/-- The five owners in the order the arbiter looks at them after having served `o` (R179). -/
def ownersAfter : Owner → List Owner
  | .chip => [.room 0, .room 1, .room 2, .room 3, .chip]
  | .room 0 => [.room 1, .room 2, .room 3, .chip, .room 0]
  | .room 1 => [.room 2, .room 3, .chip, .room 0, .room 1]
  | .room 2 => [.room 3, .chip, .room 0, .room 1, .room 2]
  | .room 3 => [.chip, .room 0, .room 1, .room 2, .room 3]

/-- R174, R21: what ROOM_RESET leaves of the room's stack, with CLEAR_REPORTS on and off. -/
def RoomStack.afterReset (k : RoomStack) (clearReports : Bool) : RoomStack :=
  if clearReports then {} else { k with songEnd := none }

end Sys2Proof.Machine
end

