-- ==== Sys2Proof/Machine/AudioQueue.lean ====
section
/-! DEFINITION. The backing queue's shared operations: queueing a cell (R96), emptying (R8, R94), the flush of a
forced ending (R99) and the mark test (R98). -/

namespace Sys2Proof.Machine

/-- R8, R94: the queue is emptied, its samples counted in AUDIO_DISCARDED, pending END cleared and the mark state
NONE. DRAINING and in underrun keep their values. -/
def Port.emptied (p : Port) : Port :=
  { p with queue := [], pendingEnd := false, markState := .none, audioDiscarded := bump p.audioDiscarded p.fill }

/-- An END mark on the last sample of a queue. -/
def markTail : List QueuedSample → List QueuedSample
  | [] => []
  | [x] => [{ x with endMark := true }]
  | x :: y :: xs => x :: markTail (y :: xs)

/-- A stereo sample as it is queued, without an END mark. -/
def queued (x : Stereo) : QueuedSample := ⟨x.left, x.right, false⟩

/-- R96: a cell's samples join the tail of the queue while the fill is below 8192, the others count in OVERRUN,
and its END flag marks the tail sample, or sets pending END on an empty queue. -/
def Port.queueCell (p : Port) (endFlag : Bool) (samples : List Stereo) : Port :=
  let added := (samples.take (8192 - p.fill)).map queued
  let all := p.queue ++ added
  let marked : Port :=
    if endFlag then
      if all.isEmpty then { p with pendingEnd := true } else { p with queue := markTail all }
    else { p with queue := all }
  { marked with overrun := bump p.overrun (samples.length - added.length) }

/-- The samples behind the first END-marked one, or none when no sample carries an END mark. -/
def afterFirstEnd : List QueuedSample → Option (List QueuedSample)
  | [] => none
  | x :: xs => if x.endMark then some xs else afterFirstEnd xs

/-- R99: the flush of a forced ending. -/
def Room.flushed (rm : Room) : Room :=
  if rm.port.pendingEnd then rm.updPort fun p => { p with pendingEnd := false }
  else
    match afterFirstEnd rm.port.queue with
    | some rest =>
      rm.updPort fun p =>
        { p with queue := rest, audioDiscarded := bump p.audioDiscarded (p.fill - rest.length) }
    | none =>
      (rm.updPort fun p =>
        { p with queue := [], audioDiscarded := bump p.audioDiscarded p.fill }).updCtx
        fun c => { c with draining := true }

/-- R98: the states of a room in which the mark test runs. -/
def RoomContext.markTested (c : RoomContext) : Bool :=
  c.state == .cued || c.state == .playing || c.state == .held

/-- R98: the mark the test raises on the room's fill, if any. -/
def Room.markDue (rm : Room) : Option Mark :=
  if rm.ctx.markTested then
    if rm.port.fill < rm.params.lowMark ∧ rm.port.markState ≠ .low then some .low
    else if rm.params.highMark < rm.port.fill ∧ rm.port.markState ≠ .high then some .high
    else none
  else none

/-- The mark state after a QUEUE_MARK of that mark (R98). -/
def Mark.state : Mark → MarkState
  | .low => .low
  | .high => .high

/-- R98: the mark test runs on the fill as it stands. -/
def markTest (r : RoomId) (s : State) : State :=
  match (s.room r).markDue with
  | none => s
  | some m =>
    raise (.queueMark r m (s.room r).port.fill)
      (s.updRoom r fun rm => rm.updPort fun p => { p with markState := m.state })

end Sys2Proof.Machine
end

