-- ==== Sys2Proof/Machine/Outbox.lean ====
section
/-! DEFINITION. The outboxes of the room panels (R149) and the request list's entries: finding, changing and
removing an entry (R153), and the cancel queue (R156). -/

namespace Sys2Proof.Machine

/-- R149: a result is added to an entry's outbox, which holds 4; a fifth displaces the oldest, is marked LOST and
counts in RESULTS_LOST. A disabled entry's outbox stays empty. -/
def PollEntry.push (e : PollEntry) (k : ResultKind) : PollEntry :=
  if e.enabled then
    if e.outbox.length < 4 then { e with outbox := e.outbox ++ [⟨k, false⟩] }
    else { e with outbox := e.outbox.tail ++ [⟨k, true⟩], resultsLost := bump e.resultsLost 1 }
  else e

/-- A result is put into the outbox of poll-table entry `e`. -/
def pushResult (e : PanelId) (k : ResultKind) (s : State) : State := s.updPanel e fun p => p.push k

/-- R165: a result is put into the outbox of every panel of the room, in ascending order of entry. -/
def pushToRoom (r : RoomId) (k : ResultKind) (s : State) : State :=
  allPanels.foldl (fun acc e => if (acc.panel e).mappedTo r then pushResult e k acc else acc) s

/-- R20, R149: the outboxes of the room's panels are emptied. -/
def emptyOutboxes (r : RoomId) (s : State) : State :=
  allPanels.foldl
    (fun acc e => if (acc.panel e).mappedTo r then acc.updPanel e fun p => { p with outbox := [] } else acc) s

/-- The entry of the room's list that holds a ticket (R153). -/
def Room.entry? (rm : Room) (ticket : Nat) : Option Entry := rm.requests.find? fun e => e.ticket == ticket

/-- The room with the entry of a ticket changed by `f`. -/
def Room.updEntry (rm : Room) (ticket : Nat) (f : Entry → Entry) : Room :=
  { rm with requests := rm.requests.map fun e => if e.ticket = ticket then f e else e }

/-- The state with the entry of a ticket of room `r` changed by `f`. -/
def State.updEntry (s : State) (r : RoomId) (ticket : Nat) (f : Entry → Entry) : State :=
  s.updRoom r fun rm => rm.updEntry ticket f

/-- The room with the entry of a ticket moved to a state. -/
def Room.moveEntry (rm : Room) (ticket : Nat) (st : EntryState) : Room :=
  rm.updEntry ticket fun e => { e with state := st }

/-- The room with the entry of an optional ticket moved to a state. -/
def Room.moveEntry? (rm : Room) (ticket : Option Nat) (st : EntryState) : Room :=
  match ticket with
  | some t => rm.moveEntry t st
  | none => rm

/-- The room without the entry of a ticket. -/
def Room.dropEntry (rm : Room) (ticket : Nat) : Room :=
  { rm with requests := rm.requests.filter fun e => e.ticket != ticket }

/-- R156: the entry's item is withdrawn from the cancel queue. -/
def withdrawCancel (r : RoomId) (ticket : Nat) (s : State) : State :=
  { s with cancelQueue := s.cancelQueue.filter fun i => !(i.room == r && i.ticket == ticket) }

/-- An entry leaves the list and its source panel gets a result. -/
def removeWithResult (r : RoomId) (e : Entry) (k : ResultKind) (s : State) : State :=
  pushResult e.source k (s.updRoom r fun rm => rm.dropEntry e.ticket)

end Sys2Proof.Machine
end

