-- ==== Sys2Proof/Machine/Scores.lean ====
section
/-! DEFINITION. The Score Unit: crediting and freezing (R132, R133), scores (R135), the LINE_SCORE of a line-score
event (R136), the SONG_END of an ending (R137), the compensation (R124), and the outcome of an analysed frame
(R125 to R131). -/

namespace Sys2Proof.Machine

/-! ### Scores and line-score events -/

/-- R135: the score of S judged frames and P points. -/
def scoreOf (s p : Nat) : Score :=
  if s = 0 then ⟨0, true⟩ else ⟨100 * p / (4 * s), false⟩

/-- The score of a set of accumulators. -/
def Accumulators.score (a : Accumulators) : Score := scoreOf a.s a.p

/-- The song S that a lane brings into the room score: none of it when its assignment is OFF (R135). -/
def assignedPart (x : Assign) (n : Nat) : Nat := if x = .off then 0 else n

/-- R135: the room score of the song, over the lanes whose latched assignment is not OFF. -/
def Room.roomScore (rm : Room) : Score :=
  scoreOf (assignedPart rm.ctx.assign1 rm.mic1.lane.song.s + assignedPart rm.ctx.assign2 rm.mic2.lane.song.s)
    (assignedPart rm.ctx.assign1 rm.mic1.lane.song.p + assignedPart rm.ctx.assign2 rm.mic2.lane.song.p)

/-- A lane's part of a LINE_SCORE (R136); zero and UNSCORED for a skipped line. -/
def lineLane (assign : Assign) (skipped : Bool) (a : Accumulators) : LineLane :=
  if skipped then ⟨assign, 0, 0, ⟨0, true⟩, false⟩
  else ⟨assign, a.s, a.p, a.score, a.frozen⟩

/-- R136: the LINE_SCORE of a line-score event. -/
def Room.lineScore (rm : Room) (r : RoomId) (line : Nat) (skipped : Bool) : LineScore :=
  { room := r, epoch := rm.ctx.epoch, line := line, skipped := skipped,
    mic1 := lineLane rm.ctx.assign1 skipped rm.mic1.lane.line,
    mic2 := lineLane rm.ctx.assign2 skipped rm.mic2.lane.line }

/-- The room with both lanes' line accumulators cleared (R136). -/
def Room.clearLines (rm : Room) : Room :=
  rm.updMics fun m => { m with lane := { m.lane with line := {} } }

/-- R136: a line-score event is handed to the Score Unit, which raises its LINE_SCORE and, with SKIPPED clear,
clears the line accumulators. -/
def handLineScore (r : RoomId) (line : Nat) (skipped : Bool) (s : State) : State :=
  let raised := raise (.lineScore ((s.room r).lineScore r line skipped)) s
  if skipped then raised else raised.updRoom r Room.clearLines

/-- A lane's part of a SONG_END (R137). -/
def songLane (assign : Assign) (l : Lane) : SongLane :=
  { assign := assign, s := l.song.s, p := l.song.p, perfect := l.song.perfect, near := l.song.near,
    off := l.song.off, silent := l.song.silent, disturbed := l.outcomes.disturbed, rest := l.outcomes.rest,
    unguided := l.outcomes.unguided, score := l.song.score, frozen := l.song.frozen }

/-- R137: the SONG_END of the song, read as the room stands at the ending. -/
def Room.songEnd (rm : Room) (r : RoomId) (reason : EndReason) : SongEnd :=
  { room := r, epoch := rm.ctx.epoch,
    songId := (rm.currentBank?.map Bank.songId).getD 0,
    ticket := rm.ctx.currentTicket,
    singerTag := rm.ctx.currentTicket.bind fun t =>
      (rm.requests.find? fun e => e.ticket == t).map Entry.singerTag,
    keyShift := rm.ctx.keyShift, reason := reason, finalLine := rm.ctx.lyric.current,
    mic1 := songLane rm.ctx.assign1 rm.mic1.lane, mic2 := songLane rm.ctx.assign2 rm.mic2.lane,
    roomScore := rm.roomScore, comp := rm.ctx.comp, compClamped := rm.ctx.compClamped,
    starvedEver := rm.ctx.starvedEver, finished := rm.ctx.lyric.finished,
    underrunCount := rm.ctx.underrunCount, starvationCount := rm.ctx.starvationCount,
    skipCount := rm.ctx.skipCount }

/-! ### Compensation (R124) -/

/-- R124: the compensation C in ticks and COMP_CLAMPED, from the parameters and the measured delay. -/
def compensation (p : RoomParams) (port : Port) : Nat × Bool :=
  match p.compMode with
  | .measuredPlusOffset =>
    let m := if port.delayValid then port.delay else 0
    let sum := (m + 32) / 64 + p.compOffset
    if sum ≤ 188 then (sum, false) else (188, true)
  | .offsetOnly => (p.compOffset, false)

/-! ### Judging a frame (R125 to R131) -/

/-- The points of a grade (8.3). -/
def Grade.points : Grade → Nat
  | .perfect => 4
  | .near => 2
  | .off => 0
  | .silent => 0

/-- The better of two grades: PERFECT above NEAR above OFF (R131). -/
def Grade.better : Grade → Grade → Grade
  | .perfect, _ => .perfect
  | _, .perfect => .perfect
  | .near, _ => .near
  | _, .near => .near
  | .off, _ => .off
  | _, .off => .off
  | .silent, .silent => .silent

/-- R126: the evaluation tick, when P_end is at least 512. -/
def evalTick (pEnd comp : Nat) : Int := ((pEnd - 512) / 64 : Nat) - (comp : Int)

/-- R127: from index `i`, the cursor moves past every note that does not belong to its part and every note of
its part that has ended at tick `t`. `notes` are the guide notes from index `i` on. -/
def moveCursor (belongs : Part → Bool) (t : Int) : Nat → List GuideNote → Nat
  | i, [] => i
  | i, g :: gs =>
    if belongs g.part = true ∧ t < (g.start + g.duration : Nat) then i else moveCursor belongs t (i + 1) gs

/-- R127: a lane's cursors after a lookup at tick `t`; both move, whatever the assignment. -/
def Lane.lookUp (l : Lane) (guide : List GuideNote) (t : Int) : Lane :=
  { l with
    cursorA := moveCursor Part.hasA t l.cursorA (guide.drop l.cursorA)
    cursorB := moveCursor Part.hasB t l.cursorB (guide.drop l.cursorB) }

/-- R127: the note at a cursor covers when its start is at or below `t`. -/
def coverAt (guide : List GuideNote) (cursor : Nat) (t : Int) : Option GuideNote :=
  match guide[cursor]? with
  | some g => if (g.start : Int) ≤ t then some g else none
  | none => none

/-- R127: the covering notes a lane reads for its assignment, at its cursors after the lookup. -/
def Lane.covering (l : Lane) (guide : List GuideNote) (assign : Assign) (t : Int) : List GuideNote :=
  match assign with
  | .a => (coverAt guide l.cursorA t).toList
  | .b => (coverAt guide l.cursorB t).toList
  | .all => (coverAt guide l.cursorA t).toList ++ (coverAt guide l.cursorB t).toList
  | .off => []

/-- R129: the difference of the detected note from the guide note, by OCTAVE_FOLD. -/
def noteDifference (fold : Bool) (n g : Int) : Int :=
  if fold then (n - g + 6) % 12 - 6 else n - g

/-- R129: the grade of a frame with detected note `note` (none: unvoiced) against guide note `g0`. -/
def judge (p : RoomParams) (keyShift : Int) (note : Option Nat) (g0 : GuideNote) : Grade :=
  match note with
  | none => .silent
  | some n =>
    let g : Int := g0.note + keyShift
    if p.octaveFold = false ∧ (g < 43 ∨ 84 < g) then .off
    else
      let d := (noteDifference p.octaveFold n g).natAbs
      if d = 0 then .perfect else if d ≤ p.tolerance then .near else .off

/-- R131: the best grade over the covering notes. -/
def judgeAll (p : RoomParams) (keyShift : Int) (note : Option Nat) (g0 : GuideNote) (gs : List GuideNote) :
    Grade :=
  gs.foldl (fun best g => best.better (judge p keyShift note g)) (judge p keyShift note g0)

/-- R128: the outcome of a frame that no loaded note covers. -/
def uncovered (b : Bank) (t : Int) : FrameOutcome :=
  if b.state = .filling then
    match b.lastGuideStart with
    | none => .unguided
    | some g => if (g : Int) ≤ t then .unguided else .rest
  else .rest

/-- R125, steps 1 and 2: the frame is discarded. -/
def discarded (c : RoomContext) (f : ResultRecord) : Bool :=
  f.epoch != c.epoch || f.stale || !c.singing

/-- R125, steps 3 to 6: the outcome of a frame in its lane, and the lane with its cursors after it. -/
def decideOutcome (rm : Room) (m : MicId) (f : ResultRecord) : FrameOutcome × Lane :=
  let lane := (rm.mic m).lane
  if f.consumed ≠ 1024 then (.disturbed, lane)
  else if f.pEnd < 512 ∨ evalTick f.pEnd rm.ctx.comp < 0 then (.rest, lane)
  else
    let t := evalTick f.pEnd rm.ctx.comp
    let bank := rm.currentBank?.getD {}
    let moved := lane.lookUp bank.guide t
    match moved.covering bank.guide (rm.ctx.assign m) t with
    | [] => (uncovered bank t, moved)
    | g :: gs => (.graded (judgeAll rm.params rm.ctx.keyShift f.note g gs), moved)

/-- R132, R133: a judged frame is credited to a set of accumulators, which freezes when S reaches 65535. -/
def Accumulators.credit (a : Accumulators) (g : Grade) : Accumulators :=
  if a.frozen then a
  else
    { s := a.s + 1
      p := a.p + g.points
      perfect := a.perfect + if g = .perfect then 1 else 0
      near := a.near + if g = .near then 1 else 0
      off := a.off + if g = .off then 1 else 0
      silent := a.silent + if g = .silent then 1 else 0
      frozen := decide (65535 ≤ a.s + 1) }

/-- R121: the outcome counters count an outcome, each stopping at 65535. -/
def OutcomeCounters.record (c : OutcomeCounters) : FrameOutcome → OutcomeCounters
  | .graded .perfect => { c with perfect := satAdd c.perfect 1 }
  | .graded .near => { c with near := satAdd c.near 1 }
  | .graded .off => { c with off := satAdd c.off 1 }
  | .graded .silent => { c with silent := satAdd c.silent 1 }
  | .disturbed => { c with disturbed := satAdd c.disturbed 1 }
  | .rest => { c with rest := satAdd c.rest 1 }
  | .unguided => { c with unguided := satAdd c.unguided 1 }

/-- R125, R132: a lane counts the outcome and credits a judged frame to both sets of accumulators. -/
def Lane.count (l : Lane) (o : FrameOutcome) : Lane :=
  match o with
  | .graded g =>
    { l with song := l.song.credit g, line := l.line.credit g, outcomes := l.outcomes.record o }
  | _ => { l with outcomes := l.outcomes.record o }

/-- R125: the Score Unit of a room takes a result record in the lane of its microphone. -/
def Room.scoreFrame (rm : Room) (f : ResultRecord) : Room :=
  if discarded rm.ctx f then rm
  else
    let d := decideOutcome rm f.mic f
    rm.updMic f.mic fun m => { m with lane := d.2.count d.1 }

end Sys2Proof.Machine
end

