-- ==== Sys2Proof/Machine/Songs.lean ====
section
/-! DEFINITION. The end of a song and of a cue: the beginning of a clearing (R36), the withdrawal of a cue (R7), the
loss of a frame latch's bank (R78), entering ENDING (R17) and leaving it (R18). -/

namespace Sys2Proof.Machine

/-- R36: what a bank record holds once its clearing has begun: the song id alone is kept. -/
def Bank.beginClearing (b : Bank) : Bank := { state := .clearing, songId := b.songId }

/-- R78: the latched bank goes to CLEARING, and no lyric line is drawn in the frame from then on. -/
def Room.darken (rm : Room) (b : BankId) : Room :=
  { rm with latch := rm.latch.map fun l => if l.bank = some b then { l with bandOff := true } else l }

/-- A clearing of the room's bank `b` begins when the bank is FILLING or CLOSED (R35, R36, R39). -/
def Room.clearBank (rm : Room) (b : BankId) : Room :=
  if (rm.bank b).loaded then (rm.updBank b Bank.beginClearing).darken b else rm

/-- R78: the latch is marked invalid when its bank is neither the room's current nor its cued bank. -/
def Room.dropLostLatch (rm : Room) : Room :=
  match rm.latch with
  | none => rm
  | some l =>
    match l.bank with
    | none => rm
    | some b => if rm.ctx.currentBank = some b ∨ rm.ctx.cuedBank = some b then rm else { rm with latch := none }

/-- R7: the effect on the room of withdrawing its cue. A CUED room goes to IDLE and its preroll is discarded
(R8). -/
def Room.withdrawCue (rm : Room) : Room :=
  let freed := rm.updCtx fun c => { c with cuedBank := none, cuedTicket := none }
  let out :=
    if rm.ctx.state = .cued then (freed.setState .idle).updPort Port.emptied else freed
  out.dropLostLatch

/-- R18: the room leaves ENDING, for CUED with a cued bank (keeping its queue, with the mark test at the entry),
and for IDLE otherwise (emptying its queue, R8). -/
def leaveEnding (r : RoomId) (s : State) : State :=
  let left := s.updRoom r fun rm =>
    (rm.updCtx fun c => { c with currentBank := none }).dropLostLatch
  match (s.room r).ctx.cuedBank with
  | some _ => markTest r (left.updRoom r fun rm => rm.setState .cued)
  | none => left.updRoom r fun rm => (rm.setState .idle).updPort Port.emptied

/-- R17, item 5: an assembler discards its partial frame and stops assembling. -/
def Assembler.stopped (a : Assembler) : Assembler := { a with assembling := false, samples := [], consumed := 0 }

/-- The room with both assemblers stopped. -/
def Room.stopAssemblers (rm : Room) : Room :=
  rm.updMics fun m => { m with assembler := m.assembler.stopped }

/-- The SCORE result of a song (R165). -/
def Room.scoreResult (rm : Room) : ResultKind :=
  .score rm.mic1.lane.song.score rm.mic2.lane.song.score rm.roomScore

/-- R17, items 2, 3 and 5: what the ending changes in the room, beside its reports and its request entry. -/
def Room.endSong (rm : Room) (reason : EndReason) : Room :=
  let quiet := if reason = .complete then rm else rm.flushed
  let cleared := match rm.ctx.currentBank with
    | some b => quiet.clearBank b
    | none => quiet
  cleared.stopAssemblers

/-- R17, item 4, R165: the song's PLAYING entry leaves the list and every panel of the room gets the SCORE. -/
def endRequest (r : RoomId) (s : State) : State :=
  match (s.room r).ctx.currentTicket with
  | none => s
  | some t =>
    pushToRoom r (s.room r).scoreResult
      (s.updRoom r fun rm => (rm.dropEntry t).updCtx fun c => { c with currentTicket := none })

/-- R17, R18: the end of a song is taken, in a room that is PLAYING or HELD: the reason is recorded, the final
LINE_SCORE and the SONG_END are raised, the queue is flushed or kept, the bank auto-cleared, the entry removed
with its SCORE results and the assemblers stopped. When the SONG_END enters the queue at once, the room leaves
ENDING at the same event. -/
def takeEnding (r : RoomId) (reason : EndReason) (s : State) : State :=
  if (s.room r).ctx.singing then
    let entered := s.updRoom r fun rm => rm.updCtx fun c =>
      { c with state := .ending, endReason := some reason }
    let lined := handLineScore r (s.room r).ctx.lyric.current false entered
    let atOnce := lined.reportEnters (.room r)
    let reported := raise (.songEnd ((s.room r).songEnd r reason)) lined
    let done := endRequest r (reported.updRoom r fun rm => rm.endSong reason)
    if atOnce then leaveEnding r done else done
  else s

end Sys2Proof.Machine
end

