-- ==== Sys2Proof/Machine/Upstream.lean ====
section
/-! DEFINITION. The upstream scheduler: the Request Manager's offer (R157), the drain arbiter (R179), what the scheduler
takes and when (R180); and the taking of an order, whose reply it sends (R169, R171). -/

namespace Sys2Proof.Machine

/-! ### The Request Manager's offer (R157) -/

/-- Issue number `a` is older than `b`, compared as venue times are (R157). -/
def older (a b : IssueNumber) : Bool := a != b && (b - a).toNat < 2147483648

/-- The oldest WAITING entry of each room that holds one, in ascending order of room. -/
def State.waiting (s : State) : List (RoomId × Entry) :=
  allRooms.filterMap fun r =>
    ((s.room r).requests.find? fun e => e.state == .waiting).map fun e => (r, e)

/-- R157: the entry sent next as an ADD cell, by REQUEST_ORDER. -/
def State.nextAdd (s : State) : Option (RoomId × Entry) :=
  match s.waiting, s.chip.requestOrder with
  | [], _ => none
  | w :: _, .roomRank => some w
  | w :: ws, .arrival => some (ws.foldl (fun best x => if older x.2.issue best.2.issue then x else best) w)

/-- R157: the ADD cell of an entry of room `r`. -/
def State.addCell (s : State) (r : RoomId) (e : Entry) : UpCell :=
  .add r e.ticket e.issue e.song e.keyShift e.singerTag (s.panel e.source).address e.issueTime

/-- R157: the CANCEL cell of the oldest item is sent: the item leaves, and its entry's sent time is now. -/
def sendCancel (i : CancelItem) (rest : List CancelItem) (s : State) : State :=
  { s.updEntry i.room i.ticket (fun e => { e with sentTime := some s.venueTime }) with
    cancelQueue := rest, upstream := some (.cancel i.room i.ticket) }

/-- R157: the ADD cell of an entry is sent: the entry is SENT, with its sent time now. -/
def sendAdd (r : RoomId) (e : Entry) (s : State) : State :=
  { s.updEntry r e.ticket (fun x => { x with state := .sent, sentTime := some s.venueTime }) with
    upstream := some (s.addCell r e) }

/-- R157: the REQUEST-class cell the Request Manager offers, sent and counted; none when it offers none. -/
def sendRequest (s : State) : Option State :=
  let counted := s.count fun l => { l with requestCellsSent := bump l.requestCellsSent 1 }
  match s.cancelQueue with
  | i :: rest => some (sendCancel i rest counted)
  | [] => s.nextAdd.map fun w => sendAdd w.1 w.2 counted

/-! ### The drain arbiter (R179) -/

/-- R179: the owner the arbiter serves: the first in the cyclic order whose stack is not empty. -/
def State.servedNext (s : State) : Option Owner :=
  (ownersAfter s.lastServed).find? fun o => !s.stackEmpty o

/-- R18, R179: a SONG_END of room `r` has entered the queue: the room leaves ENDING. -/
def songEndQueued (r : RoomId) (rep : Report) (s : State) : State :=
  match rep.body with
  | .songEnd _ => if (s.room r).ctx.state = .ending then leaveEnding r s else s
  | _ => s

/-- R179: the stack of room `r` gives up its first report to the tail of the queue. -/
def drainRoom (r : RoomId) (s : State) : State :=
  match (s.room r).stack.takeFirst with
  | none => s
  | some (rep, k) =>
    songEndQueued r rep
      { s.updRoom r (fun rm => { rm with stack := k }) with reports := s.reports ++ [rep], lastServed := .room r }

/-- R179: the chip stack gives up the PANEL_STATE of its lowest-numbered occupied slot. -/
def drainChip (s : State) : State :=
  match s.firstPanelState with
  | none => s
  | some e =>
    { s with
      chipStack := s.chipStack.set e none
      reports := s.reports ++ (s.chipStack.get e).toList
      lastServed := .chip }

/-- R179: a place in the report queue has been freed, and is given to a stack if any holds a report. -/
def drain (s : State) : State :=
  match s.servedNext with
  | none => s
  | some (.room r) => drainRoom r s
  | some .chip => drainChip s

/-! ### The upstream scheduler (R180) -/

/-- R180: the head of the reply queue is sent and counted. -/
def sendReply (rep : Reply) (rest : List Reply) (s : State) : State :=
  { s.count fun l => { l with repliesSent := bump l.repliesSent 1 } with
    replies := rest, upstream := some (.reply rep) }

/-- R179, R180: the head of the report queue is sent and counted, and the freed place given away. -/
def sendReport (rep : Report) (rest : List Report) (s : State) : State :=
  drain { s.count fun l => { l with reportsSent := bump l.reportsSent 1 } with
    reports := rest, upstream := some (.report rep) }

/-- R180: the upstream link is free, and the scheduler takes a reply, a REQUEST-class cell or a report; in chip
mode STOP it takes replies only. With nothing to take the link is idle. -/
def schedule (s : State) : State :=
  match s.replies with
  | rep :: rest => sendReply rep rest s
  | [] =>
    if s.mode = .stop then { s with upstream := none }
    else
      match sendRequest s with
      | some sent => sent
      | none =>
        match s.reports with
        | rep :: rest => sendReport rep rest s
        | [] => { s with upstream := none }

/-- R180: the end of an event that may have made a cell available: on an idle link the scheduler takes one at once, by
its own order, and a busy link goes on with its cell (that the scheduler looks once the whole event has been handled is
the model's reading, log 11). -/
def State.sendIfIdle (s : State) : State :=
  match s.upstream with
  | none => schedule s
  | some _ => s

/-! ### Taking an order (R169, R171) -/

/-- An ORDER or APPEND cell that passed checks 1, 2, 4 and 5 of R169 is taken: it is discarded in chip mode STOP
(check 3, but for SET_MODE) or with a full reply queue (check 6), and else decided and answered with one
REPLY (R171), which an idle link takes at once (R180). -/
def takeOrder (inStandby : Bool) (room tag kind : Nat) (decide : State → Verdict) (s : State) : State :=
  if s.mode = .stop ∧ inStandby = false then s.countStandby
  else if s.repliesFull then s.countOrdersLost
  else
    let v := decide s.countIn
    (v.state.pushReply (replyOf room tag kind v.code v.data)).sendIfIdle

/-- An order of kind `kind` addressed to room `r` is taken. -/
def roomOrder (r : RoomId) (tag kind : Nat) (decide : State → Verdict) (s : State) : State :=
  takeOrder false r.val tag kind decide s

/-- An order of kind `kind` addressed to the chip is taken. -/
def chipOrder (tag kind : Nat) (decide : State → Verdict) (s : State) : State :=
  takeOrder false 15 tag kind decide s

end Sys2Proof.Machine
end

