-- ==== Sys2Proof/Machine/Lyrics.lean ====
section
/-! DEFINITION. The Lyric Sequencer's line test (R56 to R61), and SONG_TICK. -/

namespace Sys2Proof.Machine

/-- R56: line `k` of `lines` qualifies at clock `t`: it lies after the current line, is loaded, and its advance
time start(k) - ADVANCE_LEAD is at or below t. -/
def qualifies (lines : List Line) (current lead t k : Nat) : Bool :=
  match lines[k]? with
  | none => false
  | some l => current < k && l.start ≤ t + lead

/-- R58: the largest qualifying line, if any. -/
def largestQualifying (lines : List Line) (current lead t : Nat) : Option Nat :=
  ((List.range lines.length).filter fun k => qualifies lines current lead t k).getLast?

/-- The lyric lines the sequencer reads: those of the room's current bank (R32, R56). -/
def Room.lyricLines (rm : Room) : List Line := (rm.currentBank?.map Bank.lines).getD []

/-- R58: the sequencer advances from the current line to line `k` at clock `t`. -/
def advanceTo (r : RoomId) (k t : Nat) (s : State) : State :=
  let c := (s.room r).ctx.lyric.current
  let left := handLineScore r c false s
  let passed := (List.range' (c + 1) (k - c - 1)).foldl (fun acc j => handLineScore r j true acc) left
  passed.updRoom r fun rm => rm.updCtx fun x =>
    { x with
      skipCount := satAdd x.skipCount (k - c - 1)
      lyric := { x.lyric with
        current := k, scrollStart := t, scrollLength := rm.params.scrollTicks, starved := false } }

/-- R60: the sequencer becomes starved; a new starvation is counted once. -/
def RoomContext.starve (c : RoomContext) : RoomContext :=
  if c.lyric.starved then c
  else
    { c with
      starvedEver := true, starvationCount := satAdd c.starvationCount 1,
      lyric := { c.lyric with starved := true } }

/-- R60, R61: the hold step at clock `t`. -/
def holdStep (r : RoomId) (t : Nat) (s : State) : State :=
  let rm := s.room r
  let ly := rm.ctx.lyric
  match rm.lyricLines[ly.current]? with
  | none => s
  | some line =>
    if line.last then
      if line.finish ≤ t ∧ ly.finished = false then
        let finished := s.updRoom r fun rm => rm.updCtx fun c => { c with lyric := { c.lyric with finished := true } }
        if ly.haltPending then takeEnding r .halted finished else finished
      else s
    else if ly.current + 1 < rm.lyricLines.length then
      s.updRoom r fun rm => rm.updCtx fun c => { c with lyric := { c.lyric with starved := false } }
    else if line.finish ≤ t then s.updRoom r fun rm => rm.updCtx RoomContext.starve
    else s

/-- R57: the line test at clock `t`: the advance step, then, unless it ended the song, the hold step. -/
def lineTest (r : RoomId) (t : Nat) (s : State) : State :=
  let rm := s.room r
  match largestQualifying rm.lyricLines rm.ctx.lyric.current rm.params.advanceLead t with
  | some k => if rm.ctx.lyric.haltPending then takeEnding r .halted s else holdStep r t (advanceTo r k t s)
  | none => holdStep r t s

/-- R11: the room stands at a song tick: PLAYING, at a positive multiple of 64 samples. -/
def RoomContext.atTick (c : RoomContext) : Bool :=
  c.state == .playing && 0 < c.position && c.position % 64 == 0

/-- R11, R57: the tick t = position / 64 is delivered to the room's Lyric Sequencer, where one is due. -/
def songTick (r : RoomId) (s : State) : State :=
  if (s.room r).ctx.atTick then lineTest r (s.room r).ctx.songClock s else s

/-- SONG_TICK (R57). A sample period delivers its own ticks (log 5); delivered alone, the event runs the line test
of a room that stands at a tick, and is nothing elsewhere. -/
def execSongTick (r : RoomId) (s : State) : Host.Outcome State Fault Refusal :=
  .next (if (s.room r).ctx.atTick then (songTick r s).sendIfIdle else s)

end Sys2Proof.Machine
end

