-- ==== Sys2Proof/Machine/Rooms.lean ====
section
/-! DEFINITION. The room orders of chapter 1 and CALIBRATE: CUE, START, PAUSE, RESUME, STOP, HALT_AT_LINE,
ROOM_RESET, CALIBRATE, and CAL_TIMEOUT. -/

namespace Sys2Proof.Machine

/-! ### CUE (R5, R6) -/

/-- R40: a bank is eligible for a cue. -/
def Bank.eligible (b : Bank) : Bool := b.state == .closed || (b.state == .filling && 1 ≤ b.lineFrontier)

/-- R5, checks 6 and 7: the code a ticket is refused with, if any. -/
def Room.cueTicketCode (rm : Room) (ticket : Nat) : Option ReplyCode :=
  if ticket = 0 then none
  else
    match rm.entry? ticket with
    | none => some .noTicket
    | some e =>
      match e.state with
      | .cancelling => some .cancelled
      | .waiting | .sent | .playing => some .noTicket
      | .cued => if rm.ctx.cuedTicket = some ticket then none else some .noTicket
      | .accepted => none

/-- The cued ticket a CUE's ticket field names: none for 0 (R5). -/
def ticketOf (ticket : Nat) : Option Nat := if ticket = 0 then none else some ticket

/-- R6: the room after a CUE of bank `b` and ticket field `ticket`. -/
def Room.cue (rm : Room) (b : BankId) (ticket : Nat) : Room :=
  let released := if rm.ctx.cuedTicket = ticketOf ticket then rm else rm.moveEntry? rm.ctx.cuedTicket .accepted
  let linked := released.moveEntry? (ticketOf ticket) .cued
  (linked.updCtx fun c =>
    { c with
      cuedBank := some b, cuedTicket := ticketOf ticket,
      state := if c.state = .idle then .cued else c.state }).dropLostLatch

/-- R5, R6: CUE is decided. The mark test runs at the entry into CUED (R98). -/
def cueOrder (r : RoomId) (bank ticket : Nat) (s : State) : Verdict :=
  let rm := s.room r
  if rm.ctx.state = .off then refuse s .wrongState
  else if rm.ctx.state = .calibrating then refuse s .busy
  else
    match bankOf bank with
    | none => refuse s .range
    | some b =>
      if rm.ctx.currentBank = some b then refuse s .inUse
      else if (rm.bank b).eligible = false then refuse s .notReady
      else
        match rm.cueTicketCode ticket with
        | some code => refuse s code
        | none =>
          let cued := s.updRoom r fun x => x.cue b ticket
          accept (if rm.ctx.state = .idle then markTest r cued else cued)

/-- CUE (R5, R6). -/
def execCue (r : RoomId) (tag bank ticket : Nat) (s : State) : Host.Outcome State Fault Refusal :=
  .next (roomOrder r tag 16 (cueOrder r bank ticket) s)

/-! ### START (R9, R12, R13) -/

/-- R9, R108, R122: a microphone at START: its lane is cleared, and its assembler starts a new frame unless its
latched assignment is OFF. -/
def Mic.started (m : Mic) (assign : Assign) : Mic :=
  { m with
    lane := {}
    assembler := { assembling := decide (assign ≠ .off), samples := [], consumed := 0, dropped := m.assembler.dropped } }

/-- R9: the room context after START. -/
def Room.startedCtx (rm : Room) : RoomContext :=
  { rm.ctx with
    state := .playing
    currentBank := rm.ctx.cuedBank
    cuedBank := none
    currentTicket := rm.ctx.cuedTicket
    cuedTicket := none
    keyShift := ((rm.ctx.cuedTicket.bind rm.entry?).map Entry.keyShift).getD 0
    epoch := rm.ctx.epoch + 1
    position := 0
    comp := (compensation rm.params rm.port).1
    compClamped := (compensation rm.params rm.port).2
    assign1 := rm.params.micAssign1
    assign2 := rm.params.micAssign2
    endReason := none
    starvedEver := false
    underrunCount := 0
    starvationCount := 0
    skipCount := 0
    lyric := {} }

/-- R9: the room after START. Its queue is not touched; in underrun is cleared (R97). -/
def Room.start (rm : Room) : Room :=
  let linked := rm.moveEntry? rm.ctx.cuedTicket .playing
  { linked with
    ctx := rm.startedCtx
    port := { rm.port with inUnderrun := false }
    mic1 := rm.mic1.started rm.params.micAssign1
    mic2 := rm.mic2.started rm.params.micAssign2 }

/-- R13: every frame record of the room in the frame queue or in analysis is marked stale. -/
def markStale (r : RoomId) (s : State) : State :=
  { s with frameQueue := s.frameQueue.map fun f => if f.room = r then { f with stale := true } else f }

/-- R9: START is decided. -/
def startOrder (r : RoomId) (s : State) : Verdict :=
  match (s.room r).ctx.state with
  | .cued => accept (markStale r (s.updRoom r Room.start))
  | .calibrating => refuse s .busy
  | _ => refuse s .wrongState

/-- START (R9). -/
def execStart (r : RoomId) (tag : Nat) (s : State) : Host.Outcome State Fault Refusal :=
  .next (roomOrder r tag 17 (startOrder r) s)

/-! ### PAUSE and RESUME (R14) -/

/-- R14: an order that moves the room from one state to another, and is answered WRONG_STATE elsewhere. -/
def moveOrder (r : RoomId) (source target : RoomState) (s : State) : Verdict :=
  if (s.room r).ctx.state = source then accept (s.updRoom r fun rm => rm.setState target)
  else refuse s .wrongState

/-- PAUSE (R14). -/
def execPause (r : RoomId) (tag : Nat) (s : State) : Host.Outcome State Fault Refusal :=
  .next (roomOrder r tag 18 (moveOrder r .playing .held) s)

/-- RESUME (R14). -/
def execResume (r : RoomId) (tag : Nat) (s : State) : Host.Outcome State Fault Refusal :=
  .next (roomOrder r tag 19 (moveOrder r .held .playing) s)

/-! ### Calibrations (R101 to R105) -/

/-- R105: the CAL_DONE of a calibration that ended with an outcome, with the delay as it stands after it. -/
def calDone (r : RoomId) (c : Calibration) (outcome : CalOutcome) (j : Nat) (p : Port) : ReportBody :=
  .calDone r outcome j p.delay p.delayValid c.mic

/-- R103, R104: the calibration in flight of a CALIBRATING room ends, with the port changed by `f`; the room
returns to IDLE and CAL_DONE is raised. -/
def endCalibration (r : RoomId) (outcome : CalOutcome) (j : Nat) (f : Port → Port) (s : State) : State :=
  match (s.room r).port.calibration with
  | none => s
  | some c =>
    let ended := s.updRoom r fun rm => (rm.setState .idle).updPort fun p => { f p with calibration := none }
    raise (calDone r c outcome j (ended.room r).port) ended

/-- R101: a calibration latches the five parameters as they stand. -/
def RoomParams.calibration (p : RoomParams) : Calibration :=
  { q := p.calQ, amplitude := p.calAmplitude, cycles := p.calCycles, threshold := p.calThreshold,
    mic := p.calMic, period := 0 }

/-- R101: CALIBRATE is decided. -/
def calibrateOrder (r : RoomId) (s : State) : Verdict :=
  let rm := s.room r
  if rm.ctx.state = .idle then
    if rm.stack.calDone.isSome then refuse s .busy
    else
      accept (s.updRoom r fun x =>
        (x.setState .calibrating).updPort fun p => { p with calibration := some x.params.calibration })
  else refuse s .wrongState

/-- CALIBRATE (R101). -/
def execCalibrate (r : RoomId) (tag : Nat) (s : State) : Host.Outcome State Fault Refusal :=
  .next (roomOrder r tag 23 (calibrateOrder r) s)

/-- R104: the calibration of the room stands in the last period of its capture window, j = 23,999. -/
def Room.windowEnding (rm : Room) : Bool :=
  match rm.port.calibration with
  | none => false
  | some c => rm.ctx.state == .calibrating && 23999 ≤ c.period

/-- R104: the capture window ends without a capture. -/
def calTimeout (r : RoomId) (s : State) : State :=
  if (s.room r).windowEnding then (endCalibration r .timeout 0 id s).sendIfIdle else s

/-- CAL_TIMEOUT (R104). A sample period ends the window itself (log 5); delivered alone, the event ends the
calibration of a room that stands in the window's last period, and is nothing elsewhere. -/
def execCalTimeout (r : RoomId) (s : State) : Host.Outcome State Fault Refusal := .next (calTimeout r s)

/-! ### STOP and HALT_AT_LINE (R15, R16) -/

/-- R7, R15, R35: the cue is withdrawn and its entry goes back to ACCEPTED. -/
def Room.releaseCue (rm : Room) : Room := (rm.moveEntry? rm.ctx.cuedTicket .accepted).withdrawCue

/-- R15: STOP is decided. -/
def stopOrder (r : RoomId) (s : State) : Verdict :=
  match (s.room r).ctx.state with
  | .playing => accept (takeEnding r .stopped s)
  | .held => accept (takeEnding r .stopped s)
  | .calibrating => accept (endCalibration r .aborted 0 id s)
  | .cued => accept (s.updRoom r Room.releaseCue)
  | _ => refuse s .wrongState

/-- STOP (R15). -/
def execStop (r : RoomId) (tag : Nat) (s : State) : Host.Outcome State Fault Refusal :=
  .next (roomOrder r tag 20 (stopOrder r) s)

/-- R16: HALT_AT_LINE is decided. -/
def haltOrder (r : RoomId) (s : State) : Verdict :=
  let c := (s.room r).ctx
  if c.singing then
    if c.lyric.finished then accept (takeEnding r .halted s)
    else accept (s.updRoom r fun rm => rm.updCtx fun x => { x with lyric := { x.lyric with haltPending := true } })
  else refuse s .wrongState

/-- HALT_AT_LINE (R16). -/
def execHaltAtLine (r : RoomId) (tag : Nat) (s : State) : Host.Outcome State Fault Refusal :=
  .next (roomOrder r tag 21 (haltOrder r) s)

/-! ### ROOM_RESET (R20, R21) -/

/-- R20: the state a reset room takes. -/
def resetState (m : Mode) (p : RoomParams) : RoomState := if m = .run ∧ p.roomEnable = true then .idle else .off

/-- R20: the room context after ROOM_RESET. -/
def RoomContext.reset (c : RoomContext) (m : Mode) (p : RoomParams) : RoomContext :=
  { state := resetState m p, epoch := c.epoch + 1, assign1 := p.micAssign1, assign2 := p.micAssign2 }

/-- R20, R94: the room's share of the audio port after ROOM_RESET: queue, marks and calibration cleared, counters
and the measured delay kept. -/
def Port.reset (p : Port) : Port := { p.emptied with inUnderrun := false, calibration := none }

/-- R20, R107, R122: a microphone after ROOM_RESET: DROPPED and the last result record are kept. -/
def Mic.reset (m : Mic) : Mic := { m with assembler := m.assembler.stopped, lane := {} }

/-- R20, R21: the room after ROOM_RESET in chip mode `m`. -/
def Room.reset (rm : Room) (m : Mode) (clearReports : Bool) : Room :=
  let cleared := (rm.clearBank 0).clearBank 1
  { cleared with
    ctx := rm.ctx.reset m rm.params
    latch := none
    port := rm.port.reset
    mic1 := rm.mic1.reset
    mic2 := rm.mic2.reset
    requests := []
    ticketCounter := 0
    stack := rm.stack.afterReset clearReports }

/-- R20, R21, R154: ROOM_RESET of room `r`. A calibration in flight is aborted, and its CAL_DONE raised, once the
report stack has been dealt with. -/
def resetRoom (r : RoomId) (s : State) : State :=
  let reset := s.updRoom r fun rm => rm.reset s.mode s.chip.clearReports
  let emptied := emptyOutboxes r { reset with cancelQueue := reset.cancelQueue.filter fun i => i.room != r }
  let stale := markStale r emptied
  match (s.room r).port.calibration with
  | none => stale
  | some c => raise (calDone r c .aborted 0 (s.room r).port) stale

/-- ROOM_RESET (R20). -/
def execRoomReset (r : RoomId) (tag : Nat) (s : State) : Host.Outcome State Fault Refusal :=
  .next (roomOrder r tag 22 (fun x => accept (resetRoom r x)) s)

end Sys2Proof.Machine
end

