-- ==== Sys2Proof/Machine/Voice.lean ====
section
/-! DEFINITION. The Pitch Analysis Engine (chapter 7): the frame queue, the analysis of a frame, the pitch ladder
(APPEND_LADDER) and ANALYSIS_COMPLETE. -/

namespace Sys2Proof.Machine

/-! ### The ladder (R118) -/

/-- R118, check 3: the lowest index k + 1 whose boundary is not below the one before it; `i` is the index of the
first boundary of the list. -/
def firstRise : Nat → List Nat → Option Nat
  | i, a :: b :: rest => if b < a then firstRise (i + 1) (b :: rest) else some (i + 1)
  | _, _ => none

/-- R118: a LADDER append is decided. -/
def ladderOrder (first : Nat) (bounds : List Nat) (s : State) : Verdict :=
  if s.mode ≠ .config then refuse s .wrongMode
  else if first ≠ 0 ∨ bounds.length ≠ 43 then refuse s .range
  else
    match firstRise 0 bounds with
    | some k => refuse s .sequence (num 1 k)
    | none => accept { s with ladder := { loaded := true, bounds := bounds } }

/-- APPEND_LADDER (R118). The reply carries the section code 5 (12.1). -/
def execAppendLadder (tag first : Nat) (bounds : List Nat) (s : State) : Host.Outcome State Fault Refusal :=
  .next (chipOrder tag 5 (ladderOrder first bounds) s)

/-! ### The analysis of a frame (R113 to R116) -/

/-- The magnitude of a sample; that of -32768 is 32768 (R103, R113). -/
def magnitude (x : Sample) : Nat := x.toInt.natAbs

/-- R113: the mean absolute value of a frame's samples. -/
def meanAbs (xs : List Sample) : Nat := (xs.map magnitude).sum / 1024

/-- The crossing detector (R114): whether it is armed, the crossings recorded, and the indexes of the first and
the last of them. -/
structure Detector where
  armed : Bool := false
  n : Nat := 0
  first : Nat := 0
  last : Nat := 0
  deriving DecidableEq, Repr

/-- R114: the detector examines the sample `x` at index `i`, with hysteresis `h`. -/
def examine (h : Nat) (d : Detector) (i : Nat) (x : Sample) : Detector :=
  if d.armed = true ∧ (h : Int) ≤ x.toInt then
    { armed := false, n := d.n + 1, first := if d.n = 0 then i else d.first, last := i }
  else if d.armed = false ∧ x.toInt ≤ -(h : Int) then { d with armed := true }
  else d

/-- R114: the detector runs over samples whose first has index `i`. -/
def detect (h : Nat) : Nat → List Sample → Detector → Detector
  | _, [], d => d
  | i, x :: xs, d => detect h (i + 1) xs (examine h d i x)

/-- R115: the period in sixteenths of a sample, with two or more crossings. -/
def Detector.period (d : Detector) : Option Nat :=
  if 2 ≤ d.n then some (16 * (d.last - d.first) / (d.n - 1)) else none

/-- Boundary E[k] of a ladder (R118). -/
def bound (bounds : List Nat) (k : Nat) : Nat := bounds.getD k 0

/-- R116: the note of a period: 43 + k for the k in 0 to 41 with E[k+1] ≤ p < E[k]. -/
def noteOf (bounds : List Nat) (p : Nat) : Option Nat :=
  ((List.range 42).find? fun k => bound bounds (k + 1) ≤ p && p < bound bounds k).map (43 + ·)

/-- R116: a frame is voiced when it is loud enough, has a period, and the period lies within the ladder. -/
def voiced (a : Analysis) (mav : Nat) (period : Option Nat) : Bool :=
  match period with
  | none => false
  | some p => a.voiceThreshold ≤ mav && bound a.bounds 42 ≤ p && p < bound a.bounds 0

/-- R112 to R116, R120: the result record of a frame record under the values the analysis took. -/
def analyse (a : Analysis) (f : FrameRecord) : ResultRecord :=
  let mav := meanAbs f.samples
  let d := detect a.hysteresis 0 f.samples {}
  let v := voiced a mav d.period
  { room := f.room, mic := f.mic, epoch := f.epoch, stale := f.stale, consumed := f.consumed, pEnd := f.pEnd,
    lineIndex := f.lineIndex, mav := mav, crossings := d.n, period := d.period, voiced := v,
    note := if v then d.period.bind (noteOf a.bounds) else none }

/-! ### The frame queue and the engine (R111, R112) -/

/-- R112: the values an analysis of `f` takes at its beginning. -/
def State.analysisOf (s : State) (f : FrameRecord) : Analysis :=
  { voiceThreshold := (s.room f.room).params.voiceThreshold, hysteresis := (s.room f.room).params.hysteresis,
    bounds := s.ladder.bounds }

/-- R112: the engine begins the analysis of the head record when it is IDLE and the queue holds one, taking the
room's thresholds and the ladder. -/
def beginAnalysis (s : State) : State :=
  match s.engine, s.frameQueue with
  | none, f :: _ =>
    { s with engine := some (s.analysisOf f) }
  | _, _ => s

/-- R111: a frame record is offered to the frame queue; a full queue drops it and counts in DROPPED. -/
def offerFrame (f : FrameRecord) (s : State) : State :=
  if s.frameQueue.length < 8 then beginAnalysis { s with frameQueue := s.frameQueue ++ [f] }
  else
    s.updRoom f.room fun rm => rm.updMic f.mic fun m =>
      { m with assembler := { m.assembler with dropped := bump m.assembler.dropped 1 } }

/-- R112, R120: the analysis of the head record completes: its result is handed to the Score Unit and kept as the
microphone's last result record, the record leaves the queue and the next analysis begins. An event with no
analysis in flight, or one held in standby, is none (log 6). -/
def analysisComplete (s : State) : State :=
  if s.mode = .stop then s
  else
    match s.engine, s.frameQueue with
    | some a, f :: rest =>
      let res := analyse a f
      let scored := s.updRoom f.room fun rm =>
        (rm.scoreFrame res).updMic f.mic fun m => { m with lastResult := some res }
      beginAnalysis { scored with frameQueue := rest, engine := none }
    | _, _ => s

/-- ANALYSIS_COMPLETE (R112). -/
def execAnalysisComplete (s : State) : Host.Outcome State Fault Refusal := .next (analysisComplete s)

end Sys2Proof.Machine
end

