-- ==== Sys2Proof/Machine/Audio.lean ====
section
/-! DEFINITION. The Room Audio Port (chapter 6): SLOT_MAP, AUDIO, SAMPLE_PERIOD and SONG_POSITION_LIMIT. -/

namespace Sys2Proof.Machine

/-! ### SLOT_MAP (R91) -/

/-- R91, check 3: another entry of the direction already holds the target. -/
def targetTaken {α : Type} [DecidableEq α] (entries : Vector (Option α) 8) (slot : SlotId) (t : Option α) : Bool :=
  t.isSome && allPanels.any fun k => k != slot && entries.get k == t

/-- R91: SLOT_MAP is decided. R91's sequence names no check for a direction byte above 1, which R184 answers RANGE: the
model makes it with check 2, after the mode check (DEDUCED, log 29). -/
def slotMapOrder (direction slot target : Nat) (s : State) : Verdict :=
  if s.mode ≠ .config then refuse s .wrongMode
  else
    match twoWay direction, slotOf slot with
    | some false, some k =>
      match micTargetOf target with
      | none => refuse s .range
      | some t =>
        if targetTaken s.slotIn k t then refuse s .range else accept { s with slotIn := s.slotIn.set k t }
    | some true, some k =>
      match channelTargetOf target with
      | none => refuse s .range
      | some t =>
        if targetTaken s.slotOut k t then refuse s .range else accept { s with slotOut := s.slotOut.set k t }
    | _, _ => refuse s .range

/-- SLOT_MAP (R91). -/
def execSlotMap (tag direction slot target : Nat) (s : State) : Host.Outcome State Fault Refusal :=
  .next (chipOrder tag 3 (slotMapOrder direction slot target) s)

/-! ### AUDIO (R95, R96) -/

/-- R95: samples discarded because of the room's state or DRAINING are counted. -/
def Room.discardSamples (rm : Room) (n : Nat) : Room :=
  rm.updPort fun p => { p with audioDiscarded := bump p.audioDiscarded n }

/-- R95: the port takes an AUDIO cell of room `r`. -/
def audioCell (r : RoomId) (endFlag : Bool) (samples : List Stereo) (s : State) : State :=
  let rm := s.room r
  if 256 < samples.length then
    s.updRoom r fun x => x.updPort fun p => { p with audioBadCells := bump p.audioBadCells 1 }
  else if rm.ctx.draining then
    s.updRoom r fun x => (x.discardSamples samples.length).updCtx fun c => { c with draining := !endFlag }
  else
    match rm.ctx.state with
    | .off | .idle | .calibrating => s.updRoom r fun x => x.discardSamples samples.length
    | _ => (markTest r (s.updRoom r fun x => x.updPort fun p => p.queueCell endFlag samples)).sendIfIdle

/-- AUDIO (R95). -/
def execAudio (r : RoomId) (endFlag : Bool) (samples : List Stereo) (s : State) :
    Host.Outcome State Fault Refusal :=
  .next (takeMedia (audioCell r endFlag samples) s)

/-! ### Output (R93, R97, R102) -/

/-- R102: the generator's value in period `c.period`. -/
def Calibration.output (c : Calibration) : Sample :=
  let h := c.q + 2
  if c.period < 2 * h * c.cycles then
    if c.period / h % 2 = 0 then BitVec.ofInt 16 c.amplitude else BitVec.ofInt 16 (-(c.amplitude : Int))
  else 0

/-- R97: the room's backing queue gives up a sample in this period. -/
def Room.givesSample (rm : Room) : Option QueuedSample :=
  if rm.ctx.state = .playing ∧ rm.port.pendingEnd = false then rm.port.queue.head? else none

/-- R93: the values of the room's L and R channels in this period. -/
def Room.output (rm : Room) : Sample × Sample :=
  match rm.ctx.state with
  | .playing => match rm.givesSample with
    | some x => (x.left, x.right)
    | none => (0, 0)
  | .calibrating => match rm.port.calibration with
    | some c => (c.output, c.output)
    | none => (0, 0)
  | _ => (0, 0)

/-- R93: the value output slot `k` carries in this period. -/
def State.slotValue (s : State) (k : SlotId) : Sample :=
  match s.slotOut.get k with
  | none => 0
  | some t => match t.channel with
    | .left => (s.room t.room).output.1
    | .right => (s.room t.room).output.2

/-- The eight output slots, slot `k` carrying `value k`. -/
def slotVector (value : SlotId → Sample) : Vector Sample 8 :=
  #v[value 0, value 1, value 2, value 3, value 4, value 5, value 6, value 7]

/-- R93: the values of the eight output slots in this period. -/
def State.slotValues (s : State) : Vector Sample 8 := slotVector s.slotValue

/-- R93: the output slots with the values of room `r` in this period on the slots mapped to it; every other slot keeps
its value. -/
def State.roomSlotValues (s : State) (r : RoomId) : Vector Sample 8 :=
  slotVector fun k =>
    if (s.slotOut.get k).map ChannelTarget.room = some r then s.slotValue k else s.audioOut.get k

/-- R97, step 2: an underrun period; a new underrun is counted once. -/
def Room.underrun (rm : Room) : Room :=
  let counted := rm.updPort fun p => { p with underrunPeriods := bump p.underrunPeriods 1, inUnderrun := true }
  if rm.port.inUnderrun then counted
  else counted.updCtx fun c => { c with underrunCount := satAdd c.underrunCount 1 }

/-- R97, step 3: the head sample has been taken and the song position advances. -/
def Room.advanced (rm : Room) (rest : List QueuedSample) : Room :=
  (rm.updPort fun p => { p with queue := rest, inUnderrun := false }).updCtx
    fun c => { c with position := c.position + 1 }

/-- R11: the largest song position. -/
def positionLimit : Nat := 4294967295

/-- R97, R11: the backing queue of a PLAYING room in one sample period: pending END, an underrun, or the head
sample with its tick, the mark test, and the COMPLETE ending of an END mark or of the position limit. -/
def backingOutput (r : RoomId) (s : State) : State :=
  let rm := s.room r
  if rm.ctx.state = .playing then
    if rm.port.pendingEnd then
      takeEnding r .complete (s.updRoom r fun x => x.updPort fun p => { p with pendingEnd := false })
    else
      match rm.port.queue with
      | [] => s.updRoom r Room.underrun
      | x :: rest =>
        let marked := markTest r (songTick r (s.updRoom r fun y => y.advanced rest))
        if x.endMark = true ∨ rm.ctx.position + 1 = positionLimit then takeEnding r .complete marked else marked
  else s

/-! ### Input (R92, R103, R109, R110) -/

/-- R92: the sample delivered to a microphone of a room, where an input slot is mapped to it. -/
def State.micInput (s : State) (inputs : Vector Sample 8) (r : RoomId) (m : MicId) : Option Sample :=
  (allPanels.find? fun k => s.slotIn.get k == some ⟨r, m⟩).map inputs.get

/-- R109, R110: an ASSEMBLING assembler adds the delivered sample, counting a backing sample output in the same
period; the 1024th completes the frame, whose samples and consumed count are answered, and a new partial frame
starts. -/
def Assembler.take (a : Assembler) (input : Option Sample) (gave : Bool) :
    Assembler × Option (List Sample × Nat) :=
  match input with
  | none => (a, none)
  | some x =>
    if a.assembling then
      let samples := a.samples ++ [x]
      let consumed := a.consumed + if gave then 1 else 0
      if 1024 ≤ samples.length then ({ a with samples := [], consumed := 0 }, some (samples, consumed))
      else ({ a with samples := samples, consumed := consumed }, none)
    else (a, none)

/-- R110: the frame record of a frame completed in the period, labelled as the room stands at the period's
end. -/
def Room.frameRecord (rm : Room) (r : RoomId) (m : MicId) (f : List Sample × Nat) : FrameRecord :=
  { room := r, mic := m, epoch := rm.ctx.epoch, consumed := f.2, pEnd := rm.ctx.position,
    lineIndex := rm.ctx.lyric.current, samples := f.1, stale := false }

/-- R103, R104: the capture of a CALIBRATING room in one period, on the sample of the latched calibration mic. -/
def captureStep (r : RoomId) (c : Calibration) (input : Option Sample) (s : State) : State :=
  if (input.map fun x => decide (c.threshold ≤ magnitude x)) = some true then
    endCalibration r .ok c.period (fun p => { p with delay := c.period, delayValid := true }) s
  else if 23999 ≤ c.period then endCalibration r .timeout 0 id s
  else
    s.updRoom r fun rm => rm.updPort fun p => { p with calibration := some { c with period := c.period + 1 } }

/-- R103: the calibration in flight of a CALIBRATING room acts in one period. -/
def calibrationStep (r : RoomId) (inputs : Vector Sample 8) (s : State) : State :=
  match (s.room r).ctx.state, (s.room r).port.calibration with
  | .calibrating, some c => captureStep r c (s.micInput inputs r c.mic) s
  | _, _ => s

/-- The room with its assemblers' partial frames after the period's input samples (R109). -/
def Room.assembled (rm : Room) (x1 x2 : Option Sample) : Room :=
  { rm with
    mic1 := { rm.mic1 with assembler := (rm.mic1.assembler.take x1 rm.givesSample.isSome).1 }
    mic2 := { rm.mic2 with assembler := (rm.mic2.assembler.take x2 rm.givesSample.isSome).1 } }

/-- R90: room `r`'s share of one sample period, and the frame records it completed. The input samples are added
before the period's output work, which may end the song (R110). -/
def roomShare (r : RoomId) (inputs : Vector Sample 8) (s : State) : State × List FrameRecord :=
  let rm := s.room r
  let x1 := s.micInput inputs r 0
  let x2 := s.micInput inputs r 1
  let worked := calibrationStep r inputs (backingOutput r (s.updRoom r fun x => x.assembled x1 x2))
  let at1 := ((rm.mic1.assembler.take x1 rm.givesSample.isSome).2.map ((worked.room r).frameRecord r 0)).toList
  let at2 := ((rm.mic2.assembler.take x2 rm.givesSample.isSome).2.map ((worked.room r).frameRecord r 1)).toList
  (worked, at1 ++ at2)

/-! ### SAMPLE_PERIOD (R90) and SONG_POSITION_LIMIT (R11) -/

/-- The list in the order numbered `k`: as `k` runs over the numbers, every order of the list is met. -/
def ordered {α : Type} : Nat → List α → List α
  | _, [] => []
  | k, x :: xs => (ordered (k / (xs.length + 1)) xs).insertIdx (k % (xs.length + 1)) x

/-- R90: the rooms' shares, taken one after another; the frame records completed are gathered. -/
def roomShares (inputs : Vector Sample 8) (order : List RoomId) (s : State) : State × List FrameRecord :=
  order.foldl (fun acc r =>
    let w := roomShare r inputs acc.1
    (w.1, acc.2 ++ w.2)) (s, [])

/-- R90: one sample period. In chip mode STOP the output slots carry zero and the input slots are not delivered
anywhere. Otherwise the output slots carry each room's values, the rooms' shares are taken in the order
numbered `roomOrder`, and the completed frame records are offered in the order numbered `offerOrder` (R111). -/
def samplePeriod (inputs : Vector Sample 8) (roomOrder offerOrder : Nat) (s : State) : State :=
  if s.mode = .stop then { s with audioOut := Vector.replicate 8 0 }
  else
    let shared := roomShares inputs (ordered roomOrder allRooms) { s with audioOut := s.slotValues }
    ((ordered offerOrder shared.2).foldl (fun acc f => offerFrame f acc) shared.1).sendIfIdle

/-- SAMPLE_PERIOD (R90). -/
def execSamplePeriod (inputs : Vector Sample 8) (roomOrder offerOrder : Nat) (s : State) :
    Host.Outcome State Fault Refusal :=
  .next (samplePeriod inputs roomOrder offerOrder s)

/-- R11, R97: the backing output of the sample period in which room `r`, PLAYING at position 4,294,967,294, may
reach the song position's limit; the song ends COMPLETE after the sample that does. The sample leaves the queue, is
output on the room's L and R slots (R93; zero where none is taken), and the position advances. The event alone is that
room's share of the period: the slots of the other rooms keep the values of the last SAMPLE_PERIOD (DESIGN CHOICE,
log 5). -/
def songPositionLimit (r : RoomId) (s : State) : State :=
  if (s.room r).ctx.state = .playing ∧ (s.room r).ctx.position + 1 = positionLimit then
    (backingOutput r { s with audioOut := s.roomSlotValues r }).sendIfIdle
  else s

/-- SONG_POSITION_LIMIT (R11). A sample period makes this test itself (log 5); delivered alone, the event is the
room's backing output of that period, and is nothing elsewhere. -/
def execSongPositionLimit (r : RoomId) (s : State) : Host.Outcome State Fault Refusal :=
  .next (songPositionLimit r s)

end Sys2Proof.Machine
end

