-- ==== Sys2Proof/Machine/Banks.lean ====
section
/-! DEFINITION. The Bank Manager (chapter 2): BANK_OPEN, the APPENDs to a bank's sections, BANK_CLOSE, BANK_CLEAR and
the completion of a clearing. -/

namespace Sys2Proof.Machine

/-! ### BANK_OPEN, BANK_CLOSE, BANK_CLEAR -/

/-- R26, check 4: the declared counts are in range. -/
def declaredOk (lines syllables notes : Nat) : Bool :=
  1 ≤ lines && lines ≤ 512 && 1 ≤ syllables && syllables ≤ 8192 && notes ≤ 4096 && lines ≤ syllables

/-- R26: the bank record after BANK_OPEN. -/
def openedBank (songId lines syllables notes : Nat) : Bank :=
  { state := .filling, songId := songId, declaredLines := lines, declaredSyllables := syllables,
    declaredNotes := notes }

/-- R26: BANK_OPEN is decided. -/
def bankOpenOrder (r : RoomId) (bank songId lines syllables notes : Nat) (s : State) : Verdict :=
  match bankOf bank with
  | none => refuse s .range
  | some b =>
    match ((s.room r).bank b).state with
    | .clearing => refuse s .busy
    | .filling => refuse s .notEmpty
    | .closed => refuse s .notEmpty
    | .empty =>
      if declaredOk lines syllables notes then
        accept (s.updRoom r fun rm => rm.updBank b fun _ => openedBank songId lines syllables notes)
      else refuse s .range

/-- BANK_OPEN (R26). -/
def execBankOpen (r : RoomId) (tag bank songId lines syllables notes : Nat) (s : State) :
    Host.Outcome State Fault Refusal :=
  .next (roomOrder r tag 25 (bankOpenOrder r bank songId lines syllables notes) s)

/-- R34: every frontier equals its declared count. -/
def Bank.complete (b : Bank) : Bool :=
  b.lineFrontier == b.declaredLines && b.syllableFrontier == b.declaredSyllables
    && b.guideFrontier == b.declaredNotes

/-- R34: the reply data of BANK_CLOSE of a FILLING bank: the three frontiers. -/
def Bank.frontierData (b : Bank) : List Byte :=
  num 2 b.lineFrontier ++ num 2 b.syllableFrontier ++ num 2 b.guideFrontier

/-- R34: BANK_CLOSE is decided. -/
def bankCloseOrder (r : RoomId) (bank : Nat) (s : State) : Verdict :=
  match bankOf bank with
  | none => refuse s .range
  | some b =>
    let record := (s.room r).bank b
    if record.state = .filling then
      if record.complete then
        accept (s.updRoom r fun rm => rm.updBank b fun x => { x with state := .closed }) record.frontierData
      else refuse s .countMismatch record.frontierData
    else refuse s .wrongState

/-- BANK_CLOSE (R34). -/
def execBankClose (r : RoomId) (tag bank : Nat) (s : State) : Host.Outcome State Fault Refusal :=
  .next (roomOrder r tag 26 (bankCloseOrder r bank) s)

/-- R35: BANK_CLEAR is decided. -/
def bankClearOrder (r : RoomId) (bank : Nat) (s : State) : Verdict :=
  match bankOf bank with
  | none => refuse s .range
  | some b =>
    let rm := s.room r
    if rm.ctx.currentBank = some b ∧ rm.ctx.singing = true then refuse s .inUse
    else if (rm.bank b).loaded then
      accept (s.updRoom r fun x =>
        (if x.ctx.cuedBank = some b then x.releaseCue else x).clearBank b)
    else accept s

/-- BANK_CLEAR (R35). -/
def execBankClear (r : RoomId) (tag bank : Nat) (s : State) : Host.Outcome State Fault Refusal :=
  .next (roomOrder r tag 27 (bankClearOrder r bank) s)

/-! ### APPEND to a bank (R27 to R31) -/

/-- R28: a syllable record is checked against the bank and taken, or none. -/
def takeSyllable (b : Bank) (x : SyllableRec) : Option Bank :=
  if x.start < b.lastSyllableStart.getD 0 ∨ x.duration < 1 ∨ x.glyphCount < 1 ∨ 8 < x.glyphCount then none
  else
    some { b with
      syllables := b.syllables ++ [⟨x.start, x.duration, x.codes.take x.glyphCount, x.trailingSpace⟩]
      lastSyllableStart := some x.start }

/-- The syllables a line record covers (R23). -/
def Bank.covered (b : Bank) (first count : Nat) : List Syllable := (b.syllables.drop first).take count

/-- R23: the start of a line is the start of its first syllable. -/
def startOf (ss : List Syllable) : Nat := (ss.head?.map Syllable.start).getD 0

/-- R23: the end of a line is the greatest start plus duration among its syllables. -/
def finishOf (ss : List Syllable) : Nat := ss.foldl (fun m x => max m (x.start + x.duration)) 0

/-- R29: where the line at the frontier must begin: after the line before it, or at 0. -/
def Bank.nextSyllable (b : Bank) : Nat :=
  match b.lines.getLast? with
  | some l => l.firstSyllable + l.syllableCount
  | none => 0

/-- R29: a line record is checked against the bank and taken with its derived start and end, or none. -/
def takeLine (b : Bank) (x : LineRec) : Option Bank :=
  match partOf x.part with
  | none => none
  | some part =>
    if x.syllableCount < 1 ∨ 64 < x.syllableCount ∨ x.firstSyllable ≠ b.nextSyllable
        ∨ b.syllableFrontier < x.firstSyllable + x.syllableCount ∨ b.lastLineSeen = true
        ∨ x.last ≠ decide (b.lineFrontier + 1 = b.declaredLines) then none
    else
      some { b with
        lines := b.lines ++
          [{ firstSyllable := x.firstSyllable, syllableCount := x.syllableCount, part := part, last := x.last,
             start := startOf (b.covered x.firstSyllable x.syllableCount),
             finish := finishOf (b.covered x.firstSyllable x.syllableCount) }]
        lastLineSeen := x.last }

/-- R30: a guide note is checked against the bank and taken, or none. -/
def takeGuide (b : Bank) (x : GuideRec) : Option Bank :=
  match partOf x.part with
  | none => none
  | some part =>
    if x.start < b.lastGuideStart.getD 0 ∨ x.duration < 1 ∨ x.note < 43 ∨ 84 < x.note
        ∨ (part.hasA = true ∧ x.start < b.lastEndA) ∨ (part.hasB = true ∧ x.start < b.lastEndB) then none
    else
      some { b with
        guide := b.guide ++ [⟨x.start, x.duration, x.note, part⟩]
        lastGuideStart := some x.start
        lastEndA := if part.hasA then x.start + x.duration else b.lastEndA
        lastEndB := if part.hasB then x.start + x.duration else b.lastEndB }

/-- R27, check 5: the records of a cell are checked in order, each against the bank as those before it leave it.
The answer is the bank with all of them, or the place in the cell of the first that fails. -/
def takeRecords {α : Type} (take : Bank → α → Option Bank) (b : Bank) : Nat → List α → Except Nat Bank
  | _, [] => .ok b
  | i, x :: xs =>
    match take b x with
    | none => .error i
    | some b' => takeRecords take b' (i + 1) xs

/-- How an APPEND to a bank section is decided (R27): refused with a code and reply data, or taken with the new
bank record. -/
inductive AppendVerdict where
  | refused (code : ReplyCode) (data : List Byte)
  | taken (bank : Bank)
  deriving DecidableEq, Repr

/-- R27: the checks of an APPEND of `xs` at `first` to the section of `record` whose frontier is `frontier` and
whose declared count is `declared`. -/
def appendVerdict {α : Type} (take : Bank → α → Option Bank) (frontier declared : Bank → Nat) (record : Bank)
    (first : Nat) (xs : List α) : AppendVerdict :=
  if record.state ≠ .filling then
    .refused .wrongState (num 2 (frontier record) ++ num 1 record.state.code)
  else if first ≠ frontier record then .refused .sequence (num 2 (frontier record))
  else if declared record < frontier record + xs.length then .refused .capacity (num 2 (frontier record))
  else
    match takeRecords take record 0 xs with
    | .error i => .refused .sequence (num 2 (frontier record) ++ num 2 (first + i))
    | .ok b => .taken b

/-- R27: an APPEND to a section of bank number `bank` is decided; `after` is what follows an append that is
taken. The reply data of an OK is the new frontier. -/
def appendOrder {α : Type} (take : Bank → α → Option Bank) (frontier declared : Bank → Nat)
    (after : BankId → State → State) (r : RoomId) (bank first : Nat) (xs : List α) (s : State) : Verdict :=
  match bankOf bank with
  | none => refuse s .range
  | some b =>
    match appendVerdict take frontier declared ((s.room r).bank b) first xs with
    | .refused code data => refuse s code data
    | .taken record =>
      accept (after b (s.updRoom r fun rm => rm.updBank b fun _ => record)) (num 2 (frontier record))

/-- R31: a LINES append of at least one record to the current bank of a PLAYING or HELD room is handed to the
Lyric Sequencer, which runs the line test at the standing song clock (R57). -/
def lineAppendEvent (r : RoomId) (count : Nat) (b : BankId) (s : State) : State :=
  let c := (s.room r).ctx
  if 0 < count ∧ c.currentBank = some b ∧ c.singing = true then lineTest r c.songClock s else s

/-- LINES appends (R27, R29, R31). -/
def linesOrder (r : RoomId) (bank first : Nat) (recs : List LineRec) : State → Verdict :=
  appendOrder takeLine Bank.lineFrontier Bank.declaredLines (lineAppendEvent r recs.length) r bank first recs

/-- SYLLABLES appends (R27, R28). -/
def syllablesOrder (r : RoomId) (bank first : Nat) (recs : List SyllableRec) : State → Verdict :=
  appendOrder takeSyllable Bank.syllableFrontier Bank.declaredSyllables (fun _ s => s) r bank first recs

/-- GUIDE appends (R27, R30). -/
def guideOrder (r : RoomId) (bank first : Nat) (recs : List GuideRec) : State → Verdict :=
  appendOrder takeGuide Bank.guideFrontier Bank.declaredNotes (fun _ s => s) r bank first recs

/-- APPEND_LINES (R27, R29). The reply carries the section code 1 (12.1). -/
def execAppendLines (r : RoomId) (tag bank first : Nat) (recs : List LineRec) (s : State) :
    Host.Outcome State Fault Refusal :=
  .next (roomOrder r tag 1 (linesOrder r bank first recs) s)

/-- APPEND_SYLLABLES (R27, R28). -/
def execAppendSyllables (r : RoomId) (tag bank first : Nat) (recs : List SyllableRec) (s : State) :
    Host.Outcome State Fault Refusal :=
  .next (roomOrder r tag 2 (syllablesOrder r bank first recs) s)

/-- APPEND_GUIDE (R27, R30). -/
def execAppendGuide (r : RoomId) (tag bank first : Nat) (recs : List GuideRec) (s : State) :
    Host.Outcome State Fault Refusal :=
  .next (roomOrder r tag 3 (guideOrder r bank first recs) s)

/-! ### The completion of a clearing (R38) -/

/-- R36, R38: the clearing of a bank completes, outside chip mode STOP: the bank is EMPTY as after pin reset and
BANK_FREE is raised. An event for a bank that is not clearing, or is held in standby, is none (log 6). -/
def bankClearingComplete (r : RoomId) (b : BankId) (s : State) : State :=
  if s.mode ≠ .stop ∧ ((s.room r).bank b).state = .clearing then
    (raise (.bankFree r (b == 0) (b == 1)) (s.updRoom r fun rm => rm.updBank b fun _ => {})).sendIfIdle
  else s

/-- BANK_CLEARING_COMPLETE (R38). -/
def execBankClearingComplete (r : RoomId) (b : BankId) (s : State) : Host.Outcome State Fault Refusal :=
  .next (bankClearingComplete r b s)

end Sys2Proof.Machine
end

