-- ==== Sys2Proof/Machine/Font.lean ====
section
/-! DEFINITION. The Glyph Table (chapter 3): FONT_CLEAR, APPEND_FONT and the completion of a font clearing. -/

namespace Sys2Proof.Machine

/-- R46, check 3: the header values are in range. -/
def headerOk (height spaceAdvance missingAdvance : Nat) : Bool :=
  16 ≤ height && height ≤ 64 && spaceAdvance ≤ 80 && missingAdvance ≤ 80

/-- R46: FONT_CLEAR is decided. -/
def fontClearOrder (height spaceAdvance missingAdvance : Nat) (s : State) : Verdict :=
  if s.mode ≠ .config then refuse s .wrongMode
  else if s.font.clearing then refuse s .busy
  else if headerOk height spaceAdvance missingAdvance then
    accept { s with font :=
      { clearing := true, height := height, spaceAdvance := spaceAdvance, missingAdvance := missingAdvance,
        glyphs := [], lastCode := none, coverageUsed := 0 } }
  else refuse s .range

/-- FONT_CLEAR (R46). -/
def execFontClear (tag height spaceAdvance missingAdvance : Nat) (s : State) :
    Host.Outcome State Fault Refusal :=
  .next (chipOrder tag 5 (fontClearOrder height spaceAdvance missingAdvance) s)

/-- The coverage values of bitmap bytes, the first of each byte in bits 4-7 (12.3). -/
def nibbles : List Byte → List Nat
  | [] => []
  | b :: bs => b.toNat / 16 :: b.toNat % 16 :: nibbles bs

/-- 12.3: a glyph record at the front of `bs` under font height `height`, with the bytes behind it; none when the
bytes end within the record. -/
def readGlyph (height : Nat) : List Byte → Option (Glyph × List Byte)
  | c0 :: c1 :: w :: a :: rest =>
    let values := w.toNat * height
    let len := (values + 1) / 2
    if rest.length < len then none
    else
      some ({ code := beNat [c0, c1], width := w.toNat, advance := a.toNat,
              bitmap := (nibbles (rest.take len)).take values }, rest.drop len)
  | _ => none

/-- R48, check 2: `count` glyph records that end exactly at the end of the payload, or none. -/
def readGlyphs (height : Nat) : Nat → List Byte → Option (List Glyph)
  | 0, bs => if bs.isEmpty then some [] else none
  | count + 1, bs =>
    match readGlyph height bs with
    | none => none
    | some (g, rest) => (readGlyphs height count rest).map (g :: ·)

/-- R49: a glyph record is checked against the table and taken, or refused with the code of the first record
check it fails. -/
def takeGlyph (t : GlyphTable) (g : Glyph) : Except ReplyCode GlyphTable :=
  if g.code = 0 ∨ g.code ≤ t.lastCode.getD 0 then .error .sequence
  else if g.width < 1 ∨ 64 < g.width ∨ g.advance < 1 ∨ 80 < g.advance then .error .range
  else if 2097152 < t.coverageUsed + g.width * t.height then .error .capacity
  else
    .ok { t with
      glyphs := t.glyphs ++ [g], lastCode := some g.code, coverageUsed := t.coverageUsed + g.width * t.height }

/-- R49: the records of a cell are checked in order, each against the table as those before it leave it. The
answer is the table with all of them, or the place and code of the first that fails. -/
def takeGlyphs (t : GlyphTable) : Nat → List Glyph → Except (Nat × ReplyCode) GlyphTable
  | _, [] => .ok t
  | i, g :: gs =>
    match takeGlyph t g with
    | .error code => .error (i, code)
    | .ok t' => takeGlyphs t' (i + 1) gs

/-- R50: the reply data of a glyph APPEND: the glyph count and the coverage used. -/
def GlyphTable.position (t : GlyphTable) : List Byte := num 2 t.count ++ num 3 t.coverageUsed

/-- R48, check 2: the first index and the glyph records of a FONT append, where its payload reaches them and divides
into the records it announces under font height `height`. -/
def readFontAppend (height : Nat) (first count : Option Nat) (records : List Byte) : Option (Nat × List Glyph) :=
  match first, count with
  | some f, some n => (readGlyphs height n records).map (f, ·)
  | _, _ => none

/-- R48: a glyph APPEND is decided. Its length is checked here alone (R184): a payload that ends before the record count
is answered as one whose records do not fit. -/
def fontAppendOrder (first count : Option Nat) (records : List Byte) (s : State) : Verdict :=
  let t := s.font
  if t.clearing then refuse s .busy t.position
  else
    match readFontAppend t.height first count records with
    | none => refuse s .malformed t.position
    | some (f, gs) =>
      if f ≠ t.count then refuse s .sequence t.position
      else if 4096 < t.count + gs.length then refuse s .capacity t.position
      else
        match takeGlyphs t 0 gs with
        | .error (i, code) => refuse s code (t.position ++ num 2 (f + i))
        | .ok t' => accept { s with font := t' } t'.position

/-- APPEND_FONT (R48). The reply carries the section code 4 (12.1). -/
def execAppendFont (tag : Nat) (first count : Option Nat) (records : List Byte) (s : State) :
    Host.Outcome State Fault Refusal :=
  .next (chipOrder tag 4 (fontAppendOrder first count records) s)

/-- R47: a font clearing completes, outside chip mode STOP: the table becomes READY. An event with no clearing in
flight, or one held in standby, is none (log 6). -/
def fontClearingComplete (s : State) : State :=
  if s.mode ≠ .stop ∧ s.font.clearing = true then { s with font := { s.font with clearing := false } } else s

/-- FONT_CLEARING_COMPLETE (R47). -/
def execFontClearingComplete (s : State) : Host.Outcome State Fault Refusal := .next (fontClearingComplete s)

end Sys2Proof.Machine
end

