-- ==== Sys2Proof/Machine/Requests.lean ====
section
/-! DEFINITION. The Request Manager (chapter 10): requests and cancellations from panels, the venue server's
answers (REQ_ACCEPT, REQ_POSITION, REQ_REFUSE, REQ_DROP), venue time and the reply timeouts. -/

namespace Sys2Proof.Machine

/-! ### Taking a request (R155) -/

/-- R155, step 3: the tickets after a ticket counter, in the order in which they are tried: 1 after 255. -/
def ticketsAfter (counter : Nat) : List Nat := (List.range 255).map fun i => (counter + i) % 255 + 1

/-- R155, step 3: the ticket that is issued: the first after the counter that no entry of the list holds. -/
def Room.nextTicket (rm : Room) : Nat :=
  ((ticketsAfter rm.ticketCounter).find? fun t => (rm.entry? t).isNone).getD 0

/-- The room with its Request Manager counters changed by `f` (R167). -/
def Room.countRequest (rm : Room) (f : RequestCounters → RequestCounters) : Room :=
  { rm with requestCounters := f rm.requestCounters }

/-- R155, step 3: the entry of a request that is given ticket `t` in state `s`. -/
def State.newEntry (s : State) (e : PanelId) (song : Nat) (keyShift : Int) (tag t : Nat) : Entry :=
  { ticket := t, issue := s.issueCounter + 1, song := song, keyShift := keyShift, singerTag := tag, source := e,
    state := .waiting, position := none, issueTime := s.venueTime, sentTime := none }

/-- R155, step 3: a ticket is issued. -/
def issueTicket (r : RoomId) (e : PanelId) (song : Nat) (keyShift : Int) (tag : Nat) (s : State) : State :=
  let t := (s.room r).nextTicket
  let listed := s.updRoom r fun rm =>
    { rm with
      requests := rm.requests ++ [s.newEntry e song keyShift tag t]
      ticketCounter := t
      requestCounters := { rm.requestCounters with ticketsIssued := bump rm.requestCounters.ticketsIssued 1 } }
  pushResult e (.ticket t song) { listed with issueCounter := s.issueCounter + 1 }

/-- R155: a REQUEST handed on by the Panel Bus Controller is taken. -/
def takeRequest (r : RoomId) (e : PanelId) (song : Nat) (keyShift : Int) (tag : Nat) (s : State) : State :=
  let rm := s.room r
  if 12 ≤ rm.requests.length then
    pushResult e .full (s.updRoom r fun x =>
      x.countRequest fun c => { c with refusedFull := bump c.refusedFull 1 })
  else if rm.params.duplicatesRefuse = true ∧ (rm.requests.any fun x => x.song == song) = true then
    pushResult e .duplicate (s.updRoom r fun x =>
      x.countRequest fun c => { c with refusedDuplicate := bump c.refusedDuplicate 1 })
  else issueTicket r e song keyShift tag s

/-! ### Cancelling from a panel (R162) -/

/-- The reason DROPPED of a REFUSED result (12.5). -/
def reasonDropped : Nat := 254

/-- The reason UNKNOWN of a REFUSED result (12.5). -/
def reasonUnknown : Nat := 255

/-- R162: the entry becomes CANCELLING and its CANCEL item joins the cancel queue. -/
def beginCancel (r : RoomId) (ticket : Nat) (s : State) : State :=
  let moved := s.updRoom r fun rm =>
    rm.updEntry ticket fun x => { x with state := .cancelling, sentTime := none }
  { moved with cancelQueue := s.cancelQueue ++ [⟨r, ticket⟩] }

/-- R162: a CANCEL handed on by the Panel Bus Controller is taken. -/
def takeCancel (r : RoomId) (e : PanelId) (ticket : Nat) (s : State) : State :=
  match (s.room r).entry? ticket with
  | none => pushResult e (.refused ticket reasonUnknown) s
  | some x =>
    if x.source ≠ e then pushResult e .notPermitted s
    else
      match x.state with
      | .waiting => removeWithResult r x (.cancelled ticket) s
      | .sent => beginCancel r ticket s
      | .accepted => beginCancel r ticket s
      | .cancelling => s
      | .cued => pushResult e (.tooLate ticket) s
      | .playing => pushResult e (.tooLate ticket) s

/-! ### The venue server's answers (10.4) -/

/-- The code of "removed" in the reply data of an answering order: after the six states of R153 (DEDUCED). -/
def removedCode : Nat := 6

/-- The reply data of an answering order that leaves its entry in state `st` (10.4). -/
def stateData (st : EntryState) : List Byte := num 1 st.code

/-- 10.4: an answering order finds the entry that holds its ticket, or is answered UNKNOWN_TICKET. -/
def withEntry (r : RoomId) (ticket : Nat) (act : Entry → State → Verdict) (s : State) : Verdict :=
  match (s.room r).entry? ticket with
  | none => refuse s .unknownTicket
  | some e => act e s

/-- R158: REQ_ACCEPT is decided for the entry that holds its ticket. -/
def acceptEntry (r : RoomId) (ticket position : Nat) (e : Entry) (s : State) : Verdict :=
  match e.state with
  | .sent =>
    accept (pushResult e.source (.accepted ticket position)
      (s.updEntry r ticket fun x => { x with state := .accepted, position := some position }))
      (stateData .accepted)
  | .cancelling =>
    accept (s.updEntry r ticket fun x => { x with position := some position }) (stateData .cancelling)
  | .waiting | .accepted | .cued | .playing => refuse s .wrongState

/-- REQ_ACCEPT (R158). -/
def execReqAccept (r : RoomId) (tag ticket position : Nat) (s : State) : Host.Outcome State Fault Refusal :=
  .next (roomOrder r tag 28 (withEntry r ticket (acceptEntry r ticket position)) s)

/-- R159: REQ_POSITION is decided for the entry that holds its ticket. -/
def positionEntry (r : RoomId) (ticket position : Nat) (e : Entry) (s : State) : Verdict :=
  let moved := s.updEntry r ticket fun x => { x with position := some position }
  match e.state with
  | .accepted => accept (pushResult e.source (.position ticket position) moved) (stateData .accepted)
  | .cued => accept (pushResult e.source (.position ticket position) moved) (stateData .cued)
  | .cancelling => accept moved (stateData .cancelling)
  | .waiting | .sent | .playing => refuse s .wrongState

/-- REQ_POSITION (R159). -/
def execReqPosition (r : RoomId) (tag ticket position : Nat) (s : State) : Host.Outcome State Fault Refusal :=
  .next (roomOrder r tag 29 (withEntry r ticket (positionEntry r ticket position)) s)

/-- R160, R161: the entry of a CANCELLING request leaves the list, its CANCEL item is withdrawn if unsent, and its
source panel gets CANCELLED. -/
def confirmCancel (r : RoomId) (e : Entry) (s : State) : State :=
  removeWithResult r e (.cancelled e.ticket) (withdrawCancel r e.ticket s)

/-- R160: REQ_REFUSE with a valid reason is decided for the entry that holds its ticket. -/
def refuseEntry (r : RoomId) (reason : Nat) (e : Entry) (s : State) : Verdict :=
  match e.state with
  | .sent | .accepted => accept (removeWithResult r e (.refused e.ticket reason) s) (num 1 removedCode)
  | .cancelling => accept (confirmCancel r e s) (num 1 removedCode)
  | .cued | .playing => refuse s .inUse
  | .waiting => refuse s .wrongState

/-- R160: REQ_REFUSE is decided: a reason above 253 is answered RANGE before the ticket is looked up. -/
def refuseOrder (r : RoomId) (ticket reason : Nat) (s : State) : Verdict :=
  if 253 < reason then refuse s .range else withEntry r ticket (refuseEntry r reason) s

/-- REQ_REFUSE (R160). -/
def execReqRefuse (r : RoomId) (tag ticket reason : Nat) (s : State) : Host.Outcome State Fault Refusal :=
  .next (roomOrder r tag 30 (refuseOrder r ticket reason) s)

/-- R161: REQ_DROP is decided for the entry that holds its ticket. -/
def dropOrder (r : RoomId) (e : Entry) (s : State) : Verdict :=
  match e.state with
  | .sent | .accepted => accept (removeWithResult r e (.refused e.ticket reasonDropped) s) (num 1 removedCode)
  | .cued =>
    accept (removeWithResult r e (.refused e.ticket reasonDropped) (s.updRoom r Room.withdrawCue))
      (num 1 removedCode)
  | .cancelling => accept (confirmCancel r e s) (num 1 removedCode)
  | .playing => refuse s .inUse
  | .waiting => refuse s .wrongState

/-- REQ_DROP (R161). -/
def execReqDrop (r : RoomId) (tag ticket : Nat) (s : State) : Host.Outcome State Fault Refusal :=
  .next (roomOrder r tag 31 (withEntry r ticket (dropOrder r)) s)

/-! ### Venue time and reply timeouts (R163) -/

/-- R163: an entry times out: it waits for the venue server, and `now` less its sent time, modulo 2^32, is at or
above `timeout` seconds. -/
def Entry.due (e : Entry) (now : VenueTime) (timeout : Nat) : Bool :=
  (e.state == .sent || e.state == .cancelling) &&
    match e.sentTime with
    | none => false
    | some t => timeout * 1000 ≤ (now - t).toNat

/-- R163: what the source panel of an entry that times out gets. -/
def Entry.timeoutResult (e : Entry) : ResultKind :=
  if e.state = .sent then .unanswered e.ticket else .cancelled e.ticket

/-- R163, R167: an entry that times out is removed with its result and counted. -/
def timeOutEntry (r : RoomId) (e : Entry) (s : State) : State :=
  removeWithResult r e e.timeoutResult
    (s.updRoom r fun rm => rm.countRequest fun c => { c with timeouts := bump c.timeouts 1 })

/-- R163: the entries of room `r` that time out are removed one at a time, in list order. -/
def timeOutRoom (s : State) (r : RoomId) : State :=
  ((s.room r).requests.filter fun e => e.due s.venueTime s.timeoutInForce).foldl
    (fun acc e => timeOutEntry r e acc) s

/-- One millisecond of venue time: the count rises by 1 modulo 2^32, in every chip mode (R172), REPLY_TIMEOUT applies
as it stands, and the entries that time out are removed, in ascending order of room (R163). -/
def venueTimeTick (s : State) : State :=
  allRooms.foldl timeOutRoom { s with venueTime := s.venueTime + 1, timeoutInForce := s.chip.replyTimeout }

/-- VENUE_TIME_TICK (R163). -/
def execVenueTimeTick (s : State) : Host.Outcome State Fault Refusal := .next (venueTimeTick s)

/-- R163: the entry that holds a ticket of room `r` times out, where it is due by the REPLY_TIMEOUT that applies in
this millisecond: a value taken since its beginning applies from the next one. -/
def replyTimeout (r : RoomId) (ticket : Nat) (s : State) : State :=
  match (s.room r).entry? ticket with
  | none => s
  | some e => if e.due s.venueTime s.timeoutInForce then timeOutEntry r e s else s

/-- REPLY_TIMEOUT (R163). A millisecond of venue time removes its due entries itself (log 5); delivered alone, the
event removes the entry that holds the ticket if it is due, and is nothing otherwise. -/
def execReplyTimeout (r : RoomId) (ticket : Nat) (s : State) : Host.Outcome State Fault Refusal :=
  .next (replyTimeout r ticket s)

end Sys2Proof.Machine
end

