-- ==== Sys2Proof/Machine/Panels.lean ====
section
/-! DEFINITION. The Panel Bus Controller (chapter 9): POLL_ENTRY, the polling cycle, the four ends of a poll
transaction, and the messages of the panels. -/

namespace Sys2Proof.Machine

/-! ### POLL_ENTRY (R141) -/

/-- R141, check 3: another enabled entry holds the address. -/
def State.addressTaken (s : State) (e : PanelId) (address : Nat) : Bool :=
  allPanels.any fun k => k != e && (s.panel k).enabled && (s.panel k).address == address

/-- R141: the entry as POLL_ENTRY sets it. -/
def setEntry (enabled : Bool) (address : Nat) (room : RoomId) : PollEntry :=
  { enabled := enabled, address := address, room := room }

/-- R141: POLL_ENTRY is decided. An enabled byte other than 0 and 1 is answered RANGE (R184). -/
def pollEntryOrder (entry enabled address room : Nat) (s : State) : Verdict :=
  if s.mode ≠ .config then refuse s .wrongMode
  else
    match panelOf entry, twoWay enabled, roomOf room with
    | some e, some on, some r =>
      if address < 1 ∨ 31 < address then refuse s .range
      else if on = true ∧ s.addressTaken e address = true then refuse s .range
      else accept (s.updPanel e fun _ => setEntry on address r)
    | _, _, _ => refuse s .range

/-- POLL_ENTRY (R141). -/
def execPollEntry (tag entry enabled address room : Nat) (s : State) : Host.Outcome State Fault Refusal :=
  .next (chipOrder tag 4 (pollEntryOrder entry enabled address room) s)

/-! ### The polling cycle (R142, R143) -/

/-- R142: the lowest-numbered enabled entry. -/
def State.lowestEnabled (s : State) : Option PanelId := allPanels.find? fun e => (s.panel e).enabled

/-- R142: the next enabled entry after `e` in ascending order, returning to the lowest-numbered one. -/
def State.enabledAfter (s : State) (e : PanelId) : Option PanelId :=
  match allPanels.find? fun k => e < k && (s.panel k).enabled with
  | some k => some k
  | none => s.lowestEnabled

/-- R143, R149: the entry after its POLL has been sent: the head of its outbox has left. -/
def PollEntry.polled (p : PollEntry) : PollEntry := { p with outbox := p.outbox.tail, polls := bump p.polls 1 }

/-- R143: a poll transaction of entry `e` begins: its POLL is sent, carrying the head of its outbox. -/
def beginPoll (e : PanelId) (s : State) : State :=
  let sent := s.updPanel e PollEntry.polled
  { sent with
    nextEntry := e
    polling := some ⟨(s.panel e).address, s.chip.pollWindow, (s.panel e).outbox.head?⟩ }

/-- R142: polling begins with the lowest-numbered enabled entry, if there is one. -/
def startPolling (s : State) : State :=
  match s.lowestEnabled with
  | none => s
  | some e => beginPoll e s

/-- R142: a transaction has ended, and the next begins at once. -/
def nextPoll (s : State) : State :=
  match s.enabledAfter s.nextEntry with
  | none => { s with polling := none }
  | some e => beginPoll e s

/-- R145: the PANEL_STATE of entry `e` as it stands. -/
def State.panelStateOf (s : State) (e : PanelId) : ReportBody :=
  .panelState e (s.panel e).address (s.panel e).room (s.panel e).present

/-- R145: a good answer of entry `e`: its miss count becomes 0, and an ABSENT entry becomes PRESENT with a
PANEL_STATE. -/
def markGood (e : PanelId) (s : State) : State :=
  let heard := s.updPanel e fun p => { p with good := bump p.good 1, missCount := 0, present := true }
  if (s.panel e).present then heard else raise (heard.panelStateOf e) heard

/-- R145: the state of an entry after a miss, its miss count stopping at 3. -/
def PollEntry.missed (p : PollEntry) : PollEntry :=
  { p with
    missCount := min (p.missCount + 1) 3
    present := p.present && p.missCount + 1 < 3 }

/-- R145: a miss of entry `e`, counted by `count`: a PRESENT entry becomes ABSENT at the third, with a
PANEL_STATE. -/
def markMiss (e : PanelId) (count : PollEntry → PollEntry) (s : State) : State :=
  let missed := s.updPanel e fun p => count p.missed
  if (s.panel e).present = true ∧ 3 ≤ (s.panel e).missCount + 1 then raise (missed.panelStateOf e) missed else missed

/-- R143: the end of the transaction in flight, handled by `act` for the polled entry, and the next poll. With no
transaction in flight no window is open, and bytes on the bus are ignored. -/
def endPoll (act : PanelId → State → State) (s : State) : State :=
  match s.polling with
  | none => s
  | some _ => (nextPoll (act s.nextEntry s)).sendIfIdle

/-- R144: a good answer whose message is handled by `handle`, given the polled entry and its room. -/
def goodAnswer (handle : PanelId → RoomId → State → State) (s : State) : State :=
  endPoll (fun e x => handle e (x.panel e).room (markGood e x)) s

/-- R146: a message of a panel whose room is OFF gets NOT_PERMITTED; otherwise it is handled by `handle`. -/
def roomMessage (handle : PanelId → RoomId → State → State) (e : PanelId) (r : RoomId) (s : State) : State :=
  if (s.room r).ctx.state = .off then pushResult e .notPermitted s else handle e r s

/-! ### Messages (R146 to R148) -/

/-- PANEL_NONE (R146): there is no message, and its payload is ignored. -/
def execPanelNone (_payload : List Byte) (s : State) : Host.Outcome State Fault Refusal :=
  .next (goodAnswer (fun _ _ x => x) s)

/-- R147, step 3: the key shift, clamped to -6 to +6. -/
def clampKey (z : Int) : Int := max (-6) (min z 6)

/-- R147, step 4: the singer tag, a value above 7 becoming 7. -/
def clampTag (n : Nat) : Nat := min n 7

/-- R147: a REQUEST message is checked, prepared and handed to the Request Manager. -/
def requestMessage (payload : List Byte) (e : PanelId) (r : RoomId) (s : State) : State :=
  if payload.length < 5 then pushResult e .format s
  else
    let song := fieldAt payload 0 3
    if song = 0 ∨ 999999 < song then pushResult e .format s
    else takeRequest r e song (clampKey (payload.getD 3 0).toInt) (clampTag (payload.getD 4 0).toNat) s

/-- PANEL_REQUEST (R147). -/
def execPanelRequest (payload : List Byte) (s : State) : Host.Outcome State Fault Refusal :=
  .next (goodAnswer (roomMessage (requestMessage payload)) s)

/-- R147: a CANCEL message is checked and handed to the Request Manager. -/
def cancelMessage (payload : List Byte) (e : PanelId) (r : RoomId) (s : State) : State :=
  match payload with
  | [] => pushResult e .format s
  | t :: _ => takeCancel r e t.toNat s

/-- PANEL_CANCEL (R162). -/
def execPanelCancel (payload : List Byte) (s : State) : Host.Outcome State Fault Refusal :=
  .next (goodAnswer (roomMessage (cancelMessage payload)) s)

/-- R148: a panel STOP message of a room that is not OFF is decided. -/
def stopMessage (e : PanelId) (r : RoomId) (s : State) : State :=
  if (s.room r).params.panelStopPermit = false then pushResult e .notPermitted s
  else if (s.room r).ctx.singing then takeEnding r .panelStop s
  else pushResult e (.tooLate 0) s

/-- PANEL_STOP_MESSAGE (R148): its payload is ignored. -/
def execPanelStopMessage (_payload : List Byte) (s : State) : Host.Outcome State Fault Refusal :=
  .next (goodAnswer (roomMessage stopMessage) s)

/-- PANEL_UNKNOWN_KIND (R146): the entry gets FORMAT, whatever its room's state. -/
def execPanelUnknownKind (_kind : Nat) (_payload : List Byte) (s : State) : Host.Outcome State Fault Refusal :=
  .next (goodAnswer (fun e _ x => pushResult e .format x) s)

/-! ### Misses (R144) -/

/-- WRONG_ECHO (R144): a good frame with another address than the polled one. A frame with the polled address is no
wrong echo. -/
def execWrongEcho (address : Nat) (s : State) : Host.Outcome State Fault Refusal :=
  .next <|
    if (s.polling.map PollTransaction.address) = some address then s
    else endPoll (fun e x => markMiss e (fun p => { p with wrongEcho := bump p.wrongEcho 1 }) x) s

/-- GARBLED (R144). -/
def execGarbled (s : State) : Host.Outcome State Fault Refusal :=
  .next (endPoll (fun e x => markMiss e (fun p => { p with garbled := bump p.garbled 1 }) x) s)

/-- NO_ANSWER (R143, R144): the window has closed with no byte received. -/
def execNoAnswer (s : State) : Host.Outcome State Fault Refusal :=
  .next (endPoll (fun e x => markMiss e (fun p => { p with noAnswer := bump p.noAnswer 1 }) x) s)

end Sys2Proof.Machine
end

