-- ==== Sys2Proof/Machine/Params.lean ====
section
/-! DEFINITION. CHIP_PARAM and ROOM_PARAM: the parameters' range checks and how a value is taken (R174, R175 and
the rules they cite). -/

namespace Sys2Proof.Machine

/-! ### CHIP_PARAM (R174) -/

/-- A value within `lo` to `hi`, or none (RANGE). -/
def within (lo hi v : Nat) : Option Nat := if lo ≤ v ∧ v ≤ hi then some v else none

/-- R174: a chip parameter takes a value in its range; none is RANGE. -/
def ChipParams.take (p : ChipParams) (id : ChipParamId) (v : Nat) : Option ChipParams :=
  match id with
  | .requestOrder => (twoWay v).map fun b => { p with requestOrder := if b then .roomRank else .arrival }
  | .replyTimeout => (within 1 60 v).map fun n => { p with replyTimeout := n }
  | .pollWindow => (within 1 20 v).map fun n => { p with pollWindow := n }
  | .clearReports => (twoWay v).map fun b => { p with clearReports := b }

/-- R174: CHIP_PARAM is decided. -/
def chipParamOrder (id : ChipParamId) (v : Nat) (s : State) : Verdict :=
  match s.chip.take id v with
  | none => refuse s .range
  | some p => accept { s with chip := p }

/-- CHIP_PARAM (R174). -/
def execChipParam (tag : Nat) (id : ChipParamId) (value : Nat) (s : State) : Host.Outcome State Fault Refusal :=
  .next (chipOrder tag 2 (chipParamOrder id value) s)

/-! ### ROOM_PARAM (R175) -/

/-- R79: the BAND_X and BAND_W pair is in range. -/
def bandOk (x w : Nat) : Bool := x ≤ 1919 && 64 ≤ w && w ≤ 1920 && x + w ≤ 1920

/-- R98: the LOW_MARK and HIGH_MARK pair is in range. -/
def marksOk (low high : Nat) : Bool := low ≤ 8192 && high ≤ 8192 && low < high

/-- R175: MIC_ASSIGN of one microphone. -/
def RoomParams.setAssign (p : RoomParams) (m : MicId) (x : Assign) : RoomParams :=
  if m = 0 then { p with micAssign1 := x } else { p with micAssign2 := x }

/-- R175: a room parameter takes a value in its range; none is RANGE. -/
def RoomParams.take (p : RoomParams) : RoomSetting → Option RoomParams
  | .roomEnable v => (twoWay v).map fun b => { p with roomEnable := b }
  | .band x w => if bandOk x w then some { p with bandX := x, bandW := w } else none
  | .bandY v => (within 0 1079 v).map fun n => { p with bandY := n }
  | .rows v => (within 2 3 v).map fun n => { p with rows := n }
  | .rowGap v => (within 0 32 v).map fun n => { p with rowGap := n }
  | .lineOverflow v => (twoWay v).map fun b => { p with lineOverflow := if b then .drop else .clip }
  | .palette q => some { p with palette := q }
  | .advanceLead v => (within 0 750 v).map fun n => { p with advanceLead := n }
  | .scrollTicks v => (within 0 375 v).map fun n => { p with scrollTicks := n }
  | .compMode v => (twoWay v).map fun b => { p with compMode := if b then .offsetOnly else .measuredPlusOffset }
  | .compOffset v => (within 0 188 v).map fun n => { p with compOffset := n }
  | .voiceThreshold v => (within 0 32767 v).map fun n => { p with voiceThreshold := n }
  | .hysteresis v => (within 0 4095 v).map fun n => { p with hysteresis := n }
  | .tolerance v => (within 0 2 v).map fun n => { p with tolerance := n }
  | .octaveFold v => (twoWay v).map fun b => { p with octaveFold := b }
  | .micAssign mic assign =>
    match micOf mic, assignOf assign with
    | some m, some x => some (p.setAssign m x)
    | _, _ => none
  | .panelStopPermit v => (twoWay v).map fun b => { p with panelStopPermit := b }
  | .duplicates v => (twoWay v).map fun b => { p with duplicatesRefuse := b }
  | .marks low high => if marksOk low high then some { p with lowMark := low, highMark := high } else none
  | .calQ v => (within 0 254 v).map fun n => { p with calQ := n }
  | .calAmplitude v => (within 0 32767 v).map fun n => { p with calAmplitude := n }
  | .calCycles v => (within 1 64 v).map fun n => { p with calCycles := n }
  | .calThreshold v => (within 1 32767 v).map fun n => { p with calThreshold := n }
  | .calMic v => (micOf v).map fun m => { p with calMic := m }

/-- R3, R175: the parameter is set in CONFIG mode only. -/
def configOnly : RoomSetting → Bool
  | .roomEnable _ => true
  | _ => false

/-- The parameter is the pair of watermarks, after which the mark test runs (R98). -/
def isMarks : RoomSetting → Bool
  | .marks _ _ => true
  | _ => false

/-- R175: ROOM_PARAM is decided. -/
def roomParamOrder (r : RoomId) (setting : RoomSetting) (s : State) : Verdict :=
  if configOnly setting = true ∧ s.mode ≠ .config then refuse s .wrongMode
  else
    match (s.room r).params.take setting with
    | none => refuse s .range
    | some p =>
      let set := s.updRoom r fun rm => { rm with params := p }
      accept (if isMarks setting then markTest r set else set)

/-- ROOM_PARAM (R175). -/
def execRoomParam (r : RoomId) (tag : Nat) (setting : RoomSetting) (s : State) :
    Host.Outcome State Fault Refusal :=
  .next (roomOrder r tag 24 (roomParamOrder r setting) s)

end Sys2Proof.Machine
end

