-- ==== Sys2Proof/Machine/Reads.lean ====
section
/-! DEFINITION. READ (R176): the records of the chip, a room, a bank, a request list, the scores and the counters,
as reply data (12.2). Numbers take the fewest bytes that hold their range; the flags a rule lists for one group
share one byte, which stands where the first of them is listed (log 9). -/

namespace Sys2Proof.Machine

/-! ### Fields -/

/-- A 32-bit counter. -/
def counter (c : Counter) : List Byte := num 4 c.toNat

/-- An optional bank number. -/
def optBank (b : Option BankId) : List Byte := opt 1 (b.map Fin.val)

/-- A single parameter value, as its ROOM_PARAM value field carries it (12.2). -/
def single (n : Nat) : List Byte := num 2 n

/-- Parts are coded A 0, B 1, BOTH 2; the order of a record's colours is 12.2's. -/
def paletteBytes (p : Palette) : List Byte :=
  p.aUnsung.bytes ++ p.aSung.bytes ++ p.bUnsung.bytes ++ p.bSung.bytes ++ p.bothUnsung.bytes
    ++ p.bothSung.bytes

/-! ### READ of a room (R1, R71, R106, R175, R177) -/

/-- The room context in R1's order; the lyric state stands within it (R71). -/
def RoomContext.record (c : RoomContext) : List Byte :=
  num 1 c.state.code ++ optBank c.currentBank ++ optBank c.cuedBank ++ opt 1 c.currentTicket
    ++ opt 1 c.cuedTicket ++ num 1 (signedByte c.keyShift) ++ num 1 c.epoch.toNat ++ num 4 c.position
    ++ num 4 c.songClock ++ num 1 c.comp
    ++ flags [c.compClamped, c.starvedEver, c.lyric.starved, c.lyric.finished, c.lyric.haltPending, c.draining]
    ++ num 1 c.assign1.code ++ num 1 c.assign2.code ++ opt 1 (c.endReason.map EndReason.code)
    ++ num 2 c.underrunCount ++ num 2 c.starvationCount ++ num 2 c.skipCount
    ++ num 2 c.lyric.current ++ num 4 c.lyric.scrollStart ++ num 2 c.lyric.scrollLength

/-- The room parameters in the order of their numbering, each as the bytes its value field uses (12.2). -/
def RoomParams.record (p : RoomParams) : List Byte :=
  single (flagCode p.roomEnable) ++ single p.bandX ++ single p.bandW ++ single p.bandY ++ single p.rows
    ++ single p.rowGap ++ single p.lineOverflow.code ++ paletteBytes p.palette ++ single p.advanceLead
    ++ single p.scrollTicks ++ single p.compMode.code ++ single p.compOffset ++ single p.voiceThreshold
    ++ single p.hysteresis ++ single p.tolerance ++ single (flagCode p.octaveFold)
    ++ (num 1 1 ++ num 1 p.micAssign1.code) ++ (num 1 2 ++ num 1 p.micAssign2.code)
    ++ single (flagCode p.panelStopPermit) ++ single (flagCode p.duplicatesRefuse) ++ single p.lowMark
    ++ single p.highMark ++ single p.calQ ++ single p.calAmplitude ++ single p.calCycles
    ++ single p.calThreshold ++ single (micNumber p.calMic)

/-- The port fields that no earlier group has sent, in R106's order. The presence byte before the period of a
calibration, and the period sent, that of the next sample period, are the model's reading (DEDUCED, log 17). -/
def Port.record (p : Port) : List Byte :=
  num 2 p.fill ++ flags [p.pendingEnd, p.inUnderrun, p.delayValid] ++ num 1 p.markState.code
    ++ opt 2 (p.calibration.map Calibration.period) ++ num 2 p.delay

/-- Report kinds are coded 1 to 6 (12.1). -/
def ReportBody.code : ReportBody → Nat
  | .lineScore _ => 1
  | .songEnd _ => 2
  | .bankFree _ _ _ => 3
  | .calDone _ _ _ _ _ _ => 4
  | .queueMark _ _ _ => 5
  | .panelState _ _ _ _ => 6

/-- A stack slot: whether it holds a report, its kind and its lost count (R176), laid out as one presence byte, the kind
and the lost count, which is 0 for a kind without one; an empty slot is sent as zeros (DESIGN CHOICE, log 31). -/
def slotRecord : Option Report → List Byte
  | some rep => num 1 1 ++ num 1 rep.body.code ++ num 2 rep.lost
  | none => num 1 0 ++ num 1 0 ++ num 2 0

/-- The slots of a room's report stack, in the order of R179. -/
def RoomStack.record (k : RoomStack) : List Byte :=
  slotRecord k.lineScore ++ slotRecord k.songEnd ++ slotRecord k.bankFree ++ slotRecord k.calDone
    ++ slotRecord k.queueMark

/-- The record of a room (R176). -/
def Room.record (rm : Room) : List Byte :=
  rm.ctx.record ++ rm.params.record ++ rm.port.record ++ rm.stack.record

/-- READ of a room (R176). -/
def execReadRoom (r : RoomId) (tag : Nat) (s : State) : Host.Outcome State Fault Refusal :=
  .next (roomOrder r tag 6 (fun x => accept x (x.room r).record) s)

/-! ### READ of the chip (R53, R106, R120, R152, R167, R174, R176) -/

/-- The chip parameters in the order of their numbering. -/
def ChipParams.record (p : ChipParams) : List Byte :=
  num 1 p.requestOrder.code ++ num 1 p.replyTimeout ++ num 1 p.pollWindow ++ num 1 (flagCode p.clearReports)

/-- The Glyph Table's fields in R43's order; the table states are coded READY 0, CLEARING 1. -/
def GlyphTable.record (t : GlyphTable) : List Byte :=
  num 1 (flagCode t.clearing) ++ num 1 t.height ++ num 1 t.spaceAdvance ++ num 1 t.missingAdvance
    ++ num 2 t.count ++ opt 2 t.lastCode ++ num 3 t.coverageUsed

/-- The slot map (R91, R106), the input slots before the output slots and each in ascending order. An entry is sent as
an optional value of 12.2: a presence byte, then the room and the mic or channel in the bits of a SLOT_MAP target, and
zeros for an entry that holds none. That READ sends it so, and not as SLOT_MAP's target byte with its 255 for none, is
the model's reading (DEDUCED, log 33). -/
def State.slotRecord (s : State) : List Byte :=
  (allPanels.flatMap fun k => opt 1 ((s.slotIn.get k).map MicTarget.code))
    ++ allPanels.flatMap fun k => opt 1 ((s.slotOut.get k).map ChannelTarget.code)

/-- The ladder state, NOT_LOADED 0 or LOADED 1, and the 43 boundaries (R118). -/
def Ladder.record (l : Ladder) : List Byte := num 1 (flagCode l.loaded) ++ l.bounds.flatMap (num 2)

/-- A poll-table entry and the number of results in its outbox (R152); the state is coded as in PANEL_STATE. -/
def PollEntry.record (p : PollEntry) : List Byte :=
  num 1 (flagCode p.enabled) ++ num 1 p.address ++ num 1 p.room.val ++ num 1 (flagCode p.present)
    ++ num 1 p.missCount ++ num 1 p.outbox.length

/-- The controller's state, IDLE 0 or POLLING 1, with the entry being polled (R152). -/
def State.controllerRecord (s : State) : List Byte :=
  num 1 (flagCode s.polling.isSome) ++ opt 1 (s.polling.map fun _ => s.nextEntry.val)

/-- The record of the chip (R176). The reply queue fill is that at the event before the READ's own reply enters the
queue (DESIGN CHOICE, log 30). -/
def State.chipRecord (s : State) : List Byte :=
  num 1 s.mode.code ++ num 4 s.venueTime.toNat ++ s.chip.record ++ num 1 s.replies.length
    ++ num 1 s.reports.length ++ flags (allPanels.map fun e => (s.chipStack.get e).isSome)
    ++ num 1 s.lastServed.index.val ++ s.font.record ++ s.slotRecord ++ s.ladder.record
    ++ num 1 (flagCode s.engine.isSome) ++ num 1 s.frameQueue.length
    ++ (allPanels.flatMap fun e => (s.panel e).record) ++ s.controllerRecord
    ++ num 4 s.issueCounter.toNat ++ num 1 s.cancelQueue.length

/-- READ of the chip (R176). -/
def execReadChip (tag : Nat) (s : State) : Host.Outcome State Fault Refusal :=
  .next (chipOrder tag 6 (fun x => accept x x.chipRecord) s)

/-! ### READ of a bank (R42) -/

/-- The code of a bank's role in the order R25 lists them: current 0, cued 1, no role 2. -/
def Room.roleCode (rm : Room) (b : BankId) : Nat :=
  if rm.ctx.currentBank = some b then 0 else if rm.ctx.cuedBank = some b then 1 else 2

/-- The record of a bank in R42's order. -/
def Room.bankRecord (rm : Room) (b : BankId) : List Byte :=
  let k := rm.bank b
  num 1 k.state.code ++ num 4 k.songId ++ num 2 k.declaredLines ++ num 2 k.declaredSyllables
    ++ num 2 k.declaredNotes ++ num 2 k.lineFrontier ++ num 2 k.syllableFrontier ++ num 2 k.guideFrontier
    ++ opt 3 k.lastSyllableStart ++ opt 3 k.lastGuideStart ++ num 4 k.lastEndA ++ num 4 k.lastEndB
    ++ flags [k.lastLineSeen] ++ num 1 (rm.roleCode b)

/-- R42: READ of a bank is decided. -/
def readBankOrder (r : RoomId) (bank : Nat) (s : State) : Verdict :=
  match bankOf bank with
  | none => refuse s .range
  | some b => accept s ((s.room r).bankRecord b)

/-- READ of a bank (R42). -/
def execReadBank (r : RoomId) (tag bank : Nat) (s : State) : Host.Outcome State Fault Refusal :=
  .next (roomOrder r tag 6 (readBankOrder r bank) s)

/-! ### READ of a request list (R167) -/

/-- A request entry in R153's order. -/
def Entry.record (e : Entry) : List Byte :=
  num 1 e.ticket ++ num 4 e.issue.toNat ++ num 3 e.song ++ num 1 (signedByte e.keyShift) ++ num 1 e.singerTag
    ++ num 1 e.source.val ++ num 1 e.state.code ++ opt 2 e.position ++ num 4 e.issueTime.toNat
    ++ opt 4 (e.sentTime.map BitVec.toNat)

/-- The record of a room's request list (R167). -/
def State.requestRecord (s : State) (r : RoomId) : List Byte :=
  (s.room r).requests.flatMap Entry.record ++ num 1 (s.room r).ticketCounter
    ++ num 1 (s.cancelQueue.filter fun i => i.room == r).length

/-- READ of a request list (R167). -/
def execReadRequestList (r : RoomId) (tag : Nat) (s : State) : Host.Outcome State Fault Refusal :=
  .next (roomOrder r tag 6 (fun x => accept x (x.requestRecord r)) s)

/-! ### READ of scores (R138) -/

/-- S, P and the four grade counts of a set of accumulators (R121). -/
def Accumulators.record (a : Accumulators) : List Byte :=
  num 2 a.s ++ num 3 a.p ++ num 2 a.perfect ++ num 2 a.near ++ num 2 a.off ++ num 2 a.silent

/-- The seven outcome counters (R121). -/
def OutcomeCounters.values (c : OutcomeCounters) : List Byte :=
  num 2 c.perfect ++ num 2 c.near ++ num 2 c.off ++ num 2 c.silent ++ num 2 c.disturbed ++ num 2 c.rest
    ++ num 2 c.unguided

/-- A result record in R120's order. -/
def ResultRecord.record (f : ResultRecord) : List Byte :=
  num 1 f.room.val ++ num 1 (micNumber f.mic) ++ num 1 f.epoch.toNat ++ flags [f.stale, f.voiced]
    ++ num 2 f.consumed ++ num 4 f.pEnd ++ num 2 f.lineIndex ++ num 2 f.mav ++ num 2 f.crossings
    ++ opt 2 f.period ++ opt 1 f.note

/-- A microphone's last result record, sent as zeros when there is none (12.2). -/
def lastResultRecord : Option ResultRecord → List Byte
  | some f => num 1 1 ++ f.record
  | none => num 1 0 ++ List.replicate 21 0

/-- A lane in R138's order, with its latched assignment and last result record. R138 names the scores without their
UNSCORED flags, which R136 and R137 name with them: the model sends both scores' flags in the lane's flags byte (DESIGN
CHOICE, log 32). -/
def Mic.scoreRecord (m : Mic) (assign : Assign) : List Byte :=
  num 1 assign.code ++ m.lane.song.record
    ++ flags [m.lane.song.frozen, m.lane.line.frozen, m.lane.song.score.unscored, m.lane.line.score.unscored]
    ++ m.lane.line.record ++ m.lane.outcomes.values ++ num 2 m.lane.cursorA ++ num 2 m.lane.cursorB
    ++ num 1 m.lane.song.score.value ++ num 1 m.lane.line.score.value ++ lastResultRecord m.lastResult

/-- The record of a room's scores (R138), with the room score's UNSCORED flag in the flags byte (DESIGN CHOICE, log 32). -/
def Room.scoresRecord (rm : Room) : List Byte :=
  rm.mic1.scoreRecord rm.ctx.assign1 ++ rm.mic2.scoreRecord rm.ctx.assign2 ++ num 1 rm.roomScore.value
    ++ flags [rm.roomScore.unscored, rm.ctx.compClamped] ++ num 1 rm.ctx.comp

/-- READ of scores (R138). -/
def execReadScores (r : RoomId) (tag : Nat) (s : State) : Host.Outcome State Fault Refusal :=
  .next (roomOrder r tag 6 (fun x => accept x (x.room r).scoresRecord) s)

/-! ### READ of counters (R88, R94, R107, R152, R167, R182) -/

/-- The five owners, in the order of R179. -/
def allOwners : List (Fin 5) := [0, 1, 2, 3, 4]

/-- The link counters in R182's order. -/
def LinkCounters.record (l : LinkCounters) : List Byte :=
  counter l.cellsIn ++ counter l.badLength ++ counter l.badCrc ++ counter l.standbyDiscarded
    ++ counter l.badKind ++ counter l.mediaDiscarded ++ counter l.ordersLost ++ counter l.repliesSent
    ++ counter l.requestCellsSent ++ counter l.reportsSent
    ++ (allOwners.flatMap fun o => counter (l.reportsStacked.get o))
    ++ allOwners.flatMap fun o => counter (l.reportsReplaced.get o)

/-- The six counters of a poll-table entry (R152). -/
def PollEntry.counters (p : PollEntry) : List Byte :=
  counter p.polls ++ counter p.good ++ counter p.noAnswer ++ counter p.garbled ++ counter p.wrongEcho
    ++ counter p.resultsLost

/-- The chip's counters (R176). -/
def State.chipCounters (s : State) : List Byte :=
  s.link.record ++ allPanels.flatMap fun e => (s.panel e).counters

/-- A room's counters (R176). -/
def Room.counters (rm : Room) : List Byte :=
  counter rm.overlay.frameStarts ++ counter rm.overlay.overlayFrames ++ counter rm.overlay.missingGlyph
    ++ counter rm.overlay.overflowLines ++ counter rm.overlay.videoDiscarded
    ++ counter rm.port.audioDiscarded ++ counter rm.port.overrun ++ counter rm.port.underrunPeriods
    ++ counter rm.port.audioBadCells ++ counter rm.mic1.assembler.dropped ++ counter rm.mic2.assembler.dropped
    ++ counter rm.requestCounters.ticketsIssued ++ counter rm.requestCounters.refusedFull
    ++ counter rm.requestCounters.refusedDuplicate ++ counter rm.requestCounters.timeouts

/-- READ of counters (R176): the chip's or a room's. -/
def execReadCounters (room : Option RoomId) (tag : Nat) (s : State) : Host.Outcome State Fault Refusal :=
  .next <|
    match room with
    | some r => roomOrder r tag 6 (fun x => accept x (x.room r).counters) s
    | none => chipOrder tag 6 (fun x => accept x x.chipCounters) s

end Sys2Proof.Machine
end

