-- ==== Sys2Proof/Machine/Wire.lean ====
section
/-! DEFINITION. What the part sends, as bytes: upstream cells (12.1, 12.4) and POLL frames (12.5). The state holds
what is sent as plain records; these functions read the bytes off them. -/

namespace Sys2Proof.Machine

/-! ### REPORT cells (12.4) -/

/-- A microphone's part of a LINE_SCORE. -/
def LineLane.bytes (l : LineLane) : List Byte :=
  num 1 l.assign.code ++ num 2 l.s ++ num 3 l.p ++ num 1 l.score.value ++ flags [l.score.unscored, l.frozen]

/-- A microphone's part of a SONG_END. -/
def SongLane.bytes (l : SongLane) : List Byte :=
  num 1 l.assign.code ++ num 2 l.s ++ num 3 l.p ++ num 2 l.perfect ++ num 2 l.near ++ num 2 l.off
    ++ num 2 l.silent ++ num 2 l.disturbed ++ num 2 l.rest ++ num 2 l.unguided ++ num 1 l.score.value
    ++ flags [l.score.unscored, l.frozen]

/-- The fields of a LINE_SCORE. -/
def LineScore.bytes (b : LineScore) : List Byte :=
  num 1 b.epoch.toNat ++ num 2 b.line ++ flags [b.skipped] ++ b.mic1.bytes ++ b.mic2.bytes

/-- The fields of a SONG_END. -/
def SongEnd.bytes (b : SongEnd) : List Byte :=
  num 1 b.epoch.toNat ++ num 4 b.songId ++ opt 1 b.ticket ++ opt 1 b.singerTag ++ num 1 (signedByte b.keyShift)
    ++ num 1 b.reason.code ++ num 2 b.finalLine ++ b.mic1.bytes ++ b.mic2.bytes ++ num 1 b.roomScore.value
    ++ num 1 b.comp ++ flags [b.roomScore.unscored, b.compClamped, b.starvedEver, b.finished]
    ++ num 2 b.underrunCount ++ num 2 b.starvationCount ++ num 2 b.skipCount

/-- The kind and the fields of a report. -/
def ReportBody.fields : ReportBody → Nat × List Byte
  | .lineScore b => (1, b.bytes)
  | .songEnd b => (2, b.bytes)
  | .bankFree _ b0 b1 => (3, flags [b0, b1])
  | .calDone _ o j d v m =>
    (4, num 1 o.code ++ num 2 j ++ num 2 d ++ num 1 (flagCode v) ++ num 1 (micNumber m))
  | .queueMark _ k f => (5, num 1 k.code ++ num 2 f)
  | .panelState e a r p => (6, num 1 e.val ++ num 1 a ++ num 1 r.val ++ num 1 (flagCode p))

/-- The header room of a report: its room, or 15 for the chip's PANEL_STATE. -/
def ReportBody.headerRoom : ReportBody → Nat
  | .lineScore b => b.room.val
  | .songEnd b => b.room.val
  | .bankFree r _ _ => r.val
  | .calDone r _ _ _ _ _ => r.val
  | .queueMark r _ _ => r.val
  | .panelState _ _ _ _ => 15

/-! ### Upstream cells (12.1) -/

/-- An upstream cell of the given header kind, room, tag and payload, with its flags byte and CRC (R168). -/
def upstreamCell (kind room tag : Nat) (payload : List Byte) : List Byte :=
  cellBytes kind room tag Config.upstreamFlags.toNat payload

/-- The bytes of an upstream cell. -/
def UpCell.bytes : UpCell → List Byte
  | .reply r => upstreamCell 8 r.room.toNat r.tag.toNat (num 1 r.code.code ++ [r.kind] ++ r.data)
  | .add r t issue song key tag address time =>
    upstreamCell 9 r.val 0 (num 1 1 ++ num 1 t ++ num 4 issue.toNat ++ num 3 song ++ num 1 (signedByte key)
      ++ num 1 tag ++ num 1 address ++ num 4 time.toNat)
  | .cancel r t => upstreamCell 9 r.val 0 (num 1 2 ++ num 1 t)
  | .report rep =>
    upstreamCell 10 rep.body.headerRoom 0
      (num 1 rep.body.fields.1 ++ num 4 rep.raiseTime.toNat ++ num 2 rep.lost ++ rep.body.fields.2)

/-! ### POLL frames (12.5) -/

/-- The code of a result and its fields. -/
def ResultKind.fields : ResultKind → Nat × List Byte
  | .ticket t song => (1, num 1 t ++ num 3 song)
  | .accepted t p => (2, num 1 t ++ num 2 p)
  | .position t p => (3, num 1 t ++ num 2 p)
  | .refused t reason => (4, num 1 t ++ num 1 reason)
  | .cancelled t => (5, num 1 t)
  | .unanswered t => (6, num 1 t)
  | .tooLate t => (7, num 1 t)
  | .full => (8, [])
  | .duplicate => (9, [])
  | .format => (10, [])
  | .notPermitted => (11, [])
  | .score m1 m2 rm =>
    (12, num 1 m1.value ++ num 1 m2.value ++ num 1 rm.value ++ flags [m1.unscored, m2.unscored, rm.unscored])

/-- A result as a POLL carries it: bits 0-6 the kind, bit 7 the LOST mark, then the fields. -/
def PanelResult.bytes (x : PanelResult) : List Byte :=
  num 1 (x.kind.fields.1 + if x.lost then 128 else 0) ++ x.kind.fields.2

/-- The POLL frame of a transaction: kind 1, with the result it carries (R139, R143). -/
def PollTransaction.frame (p : PollTransaction) : List Byte :=
  panelFrame p.address 1 ((p.carried.map PanelResult.bytes).getD [])

end Sys2Proof.Machine
end

