-- ==== Sys2Proof/Machine/Trunk.lean ====
section
/-! DEFINITION. The Trunk Interface (chapter 11): PIN_RESET, CELL_DISCARDED, UNKNOWN_ORDER, SET_MODE and CELL_SENT. -/

namespace Sys2Proof.Machine

/-! ### PIN_RESET (R183) -/

/-- R183: every block takes its pin-reset values. The commands that wait outside the part stay, and the count of
free values drawn goes on. -/
def pinReset (s : State) : State := { State.reset with pending := s.pending, freeDrawn := s.freeDrawn }

/-- PIN_RESET (R183). -/
def execPinReset (s : State) : Host.Outcome State Fault Refusal := .next (pinReset s)

/-! ### CELL_DISCARDED (R169) -/

/-- R169: the checks in their order, the first that fails counting one. Bytes that pass them all are no discarded
cell, and change nothing. -/
def discardCell (bytes : List Byte) (s : State) : State :=
  let c := rawCell bytes
  if cellLengthOk bytes = false then s.count fun l => { l with badLength := bump l.badLength 1 }
  else if cellCrcOk bytes = false then s.count fun l => { l with badCrc := bump l.badCrc 1 }
  else if s.mode = .stop ∧ c.isSetMode = false then s.countStandby
  else if c.kindOk = false then s.count fun l => { l with badKind := bump l.badKind 1 }
  else if c.mediaOk = false then s.count fun l => { l with mediaDiscarded := bump l.mediaDiscarded 1 }
  else if c.answered = true ∧ s.repliesFull = true then s.countOrdersLost
  else s

/-- CELL_DISCARDED (R169). -/
def execCellDiscarded (bytes : List Byte) (s : State) : Host.Outcome State Fault Refusal :=
  .next (discardCell bytes s)

/-! ### UNKNOWN_ORDER (R170) -/

/-- R170: the bytes are an ORDER or APPEND cell that passes checks 1, 2, 4 and 5 of R169 and spells no order. -/
def malformedCell (bytes : List Byte) : Bool :=
  cellLengthOk bytes && cellCrcOk bytes && (rawCell bytes).answered && (decodeBody (rawCell bytes)).isNone

/-- The order kind of an ORDER or the section of an APPEND, where the payload reaches it (12.1). -/
def kindByteOf (c : RawCell) : Option Byte := if c.kind = 4 then c.payload[0]? else c.payload[1]?

/-- The room byte of a reply: the answered cell's, or a free value where chapter 12.1 allows no such room (log 2). -/
def replyRoomOf (c : RawCell) : Byte :=
  if c.room < 4 ∨ c.room = 15 then BitVec.ofNat 8 c.room else Config.replyRoomByte c.room

/-- The MALFORMED reply to a cell; the kind byte is a free value where the cell has none (log 1). -/
def malformedReply (c : RawCell) (drawn : Nat) : Reply :=
  { room := replyRoomOf c, tag := BitVec.ofNat 8 c.tag, kind := (kindByteOf c).getD (Config.replyKindByte drawn),
    code := .malformed, data := [] }

/-- R170: a MALFORMED cell is answered and changes nothing, where checks 3 and 6 of R169 let it through. -/
def answerMalformed (bytes : List Byte) (s : State) : State :=
  let c := rawCell bytes
  if s.mode = .stop ∧ c.isSetMode = false then s.countStandby
  else if s.repliesFull then s.countOrdersLost
  else
    ({ s.countIn.pushReply (malformedReply c s.freeDrawn) with
      freeDrawn := s.freeDrawn + if (kindByteOf c).isSome then 0 else 1 } : State).sendIfIdle

/-- UNKNOWN_ORDER (R170). Bytes that are no such cell are no event of this kind, and change nothing. -/
def execUnknownOrder (bytes : List Byte) (s : State) : Host.Outcome State Fault Refusal :=
  .next (if malformedCell bytes then answerMalformed bytes s else s)

/-! ### SET_MODE (R173) -/

/-- The state with every room changed by `f`. -/
def State.mapRooms (s : State) (f : Room → Room) : State :=
  allRooms.foldl (fun acc r => acc.updRoom r f) s

/-- R3: a room at the move from CONFIG to RUN: with ROOM_ENABLE on it goes to IDLE; only the state changes. -/
def Room.enabled (rm : Room) : Room := if rm.params.roomEnable then rm.setState .idle else rm

/-- R173: the move from CONFIG to RUN. -/
def enterRun (s : State) : State := startPolling ({ s with mode := .run }.mapRooms Room.enabled)

/-- R173: a room keeps the chip in RUN mode: it is neither OFF nor IDLE. -/
def Room.busy (rm : Room) : Bool := rm.ctx.state != .off && rm.ctx.state != .idle

/-- R22, R142, R173: the move from RUN to CONFIG: every room is reset and ends OFF, and polling stops. -/
def leaveRun (s : State) : State :=
  allRooms.foldl (fun acc r => resetRoom r acc) { s with mode := .config, polling := none }

/-- R76, R173: the move from CONFIG to STOP: every frame latch is marked invalid. -/
def enterStop (s : State) : State := { s with mode := .stop }.mapRooms fun rm => { rm with latch := none }

/-- R173: SET_MODE is decided by the present mode and the target. -/
def setModeOrder (mode : Nat) (s : State) : Verdict :=
  match modeOf mode with
  | none => refuse s .range
  | some target =>
    match s.mode, target with
    | .config, .config => accept s
    | .run, .run => accept s
    | .stop, .stop => accept s
    | .config, .run => if s.ladder.loaded then accept (enterRun s) else refuse s .notReady
    | .run, .config =>
      if (allRooms.any fun r => (s.room r).busy) = true then refuse s .busy else accept (leaveRun s)
    | .run, .stop => refuse s .wrongMode
    | .config, .stop => accept (enterStop s)
    | .stop, .config => accept { s with mode := .config }
    | .stop, .run => refuse s .wrongMode

/-- SET_MODE (R173). It is taken in every chip mode (R169, check 3). -/
def execSetMode (tag mode : Nat) (s : State) : Host.Outcome State Fault Refusal :=
  .next (takeOrder true 15 tag 1 (setModeOrder mode) s)

/-! ### CELL_SENT (R180) -/

/-- CELL_SENT (R180): the last byte of the cell on the upstream link has been sent, and the scheduler chooses again. -/
def execCellSent (s : State) : Host.Outcome State Fault Refusal := .next (schedule s)

end Sys2Proof.Machine
end

