-- ==== Sys2Proof/Machine/Video.lean ====
section
/-! DEFINITION. The Overlay Compositor (chapter 5, with 4.3): VIDEO, the frame latch, the layout of a lyric line,
the wipe and the blend. -/

namespace Sys2Proof.Machine

/-! ### The frame latch (R67, R75, R77) -/

/-- R77: the frame class of a latch. -/
def frameClass (m : Mode) (st : RoomState) : FrameClass :=
  match m with
  | .run =>
    match st with
    | .playing | .held => .overlay
    | .cued => .preview
    | .off | .idle | .calibrating | .ending => .pass
  | .config | .stop => .pass

/-- R67: the residual of a scroll begun at `start` of length `len`, at clock `t`, with the given pitch. -/
def residualOf (pitch t start len : Nat) : Nat :=
  if len = 0 then 0 else (max 0 ((pitch : Int) - (pitch : Int) * ((t : Int) - start) / len)).toNat

/-- R75: the bank a frame of a class is drawn from. -/
def Room.latchedBank (rm : Room) : FrameClass → Option BankId
  | .overlay => rm.ctx.currentBank
  | .preview => rm.ctx.cuedBank
  | .pass => none

/-- R75: the frame latch of a room in chip mode `m` under the Glyph Table `t`. The c, FINISHED and residual of
a PASS frame, which nothing reads, are kept 0 and clear as a PREVIEW's are. -/
def Room.frameLatch (rm : Room) (m : Mode) (t : GlyphTable) : FrameLatch :=
  let cls := frameClass m rm.ctx.state
  let overlay := decide (cls = .overlay)
  let bank := rm.latchedBank cls
  let pitch := t.height + rm.params.rowGap
  { mode := m, roomState := rm.ctx.state, cls := cls, bank := bank,
    lineFrontier := ((bank.map rm.bank).map Bank.lineFrontier).getD 0,
    clock := rm.ctx.songClock,
    current := if overlay then rm.ctx.lyric.current else 0,
    finished := overlay && rm.ctx.lyric.finished,
    residual :=
      if overlay then residualOf pitch rm.ctx.songClock rm.ctx.lyric.scrollStart rm.ctx.lyric.scrollLength
      else 0,
    pitch := pitch,
    bandX := rm.params.bandX, bandW := rm.params.bandW, bandY := rm.params.bandY, rows := rm.params.rows,
    rowGap := rm.params.rowGap, lineOverflow := rm.params.lineOverflow, palette := rm.params.palette,
    height := t.height, spaceAdvance := t.spaceAdvance, missingAdvance := t.missingAdvance,
    glyphCount := t.count }

/-- R75, R88: the room takes its frame latch, counted in FRAME_STARTS and, unless it is a PASS, in
OVERLAY_FRAMES. -/
def Room.takeLatch (rm : Room) (m : Mode) (t : GlyphTable) : Room :=
  let latch := rm.frameLatch m t
  { rm with
    latch := some latch
    overlay :=
      { rm.overlay with
        frameStarts := bump rm.overlay.frameStarts 1
        overlayFrames := bump rm.overlay.overlayFrames (if latch.cls = .pass then 0 else 1) } }

/-! ### Lines and rows (R68, R69) -/

/-- R68, R70: the lyric lines drawn in the frame. -/
def FrameLatch.drawnLines (l : FrameLatch) : List Nat :=
  if l.finished then []
  else
    ((if 1 ≤ l.current ∧ 0 < l.residual then [l.current - 1] else []) ++ List.range' l.current l.rows).filter
      fun i => i < l.lineFrontier

/-- R68: the top pixel row of lyric line `i`, which lies above the frame for a line scrolled out of it. -/
def FrameLatch.top (l : FrameLatch) (i : Nat) : Int :=
  (l.bandY : Int) + ((i : Int) - l.current) * l.pitch + l.residual

/-- R69: video line `y` lies within the band rows. -/
def FrameLatch.inBand (l : FrameLatch) (y : Nat) : Bool :=
  l.bandY ≤ y && y < l.bandY + l.rows * l.pitch

/-- R84: the bitmap row of lyric line `i` that falls on video line `y`, if one does. -/
def FrameLatch.rowAt (l : FrameLatch) (i y : Nat) : Option Nat :=
  if l.top i ≤ y ∧ (y : Int) < l.top i + l.height then some ((y : Int) - l.top i).toNat else none

/-! ### The layout of a lyric line (R81, R82, R83) -/

/-- R51: the lookup of a code among the records below the latched glyph count. Code 0 is always missing. -/
def lookupGlyph (glyphs : List Glyph) (code : Nat) : Option Glyph :=
  if code = 0 then none else glyphs.find? fun g => g.code == code

/-- The advance of a code, the missing advance for a missing one (R81). -/
def advanceOf (l : FrameLatch) (glyphs : List Glyph) (code : Nat) : Nat :=
  ((lookupGlyph glyphs code).map Glyph.advance).getD l.missingAdvance

/-- The width of a code, the missing advance for a missing one (R52, R81). -/
def widthOf (l : FrameLatch) (glyphs : List Glyph) (code : Nat) : Nat :=
  ((lookupGlyph glyphs code).map Glyph.width).getD l.missingAdvance

/-- R81: the width w_s of a syllable, the sum of its glyph advances. -/
def syllableWidth (l : FrameLatch) (glyphs : List Glyph) (x : Syllable) : Nat :=
  (x.codes.map (advanceOf l glyphs)).sum

/-- R81: how far a syllable moves the pen, its trailing space included. -/
def syllableAdvance (l : FrameLatch) (glyphs : List Glyph) (x : Syllable) : Nat :=
  syllableWidth l glyphs x + if x.trailingSpace then l.spaceAdvance else 0

/-- R81: the line width W. -/
def lineWidth (l : FrameLatch) (glyphs : List Glyph) (xs : List Syllable) : Nat :=
  (xs.map (syllableAdvance l glyphs)).sum

/-- A glyph at its place in a laid-out line: its position and width, its bitmap (none for a missing glyph), and
its syllable's position and fill. -/
structure Placed where
  x : Nat
  width : Nat
  bitmap : Option (List Nat)
  syllableX : Nat
  fill : Nat
  deriving DecidableEq, Repr

/-- R85: the fill of a syllable of width `w`. -/
def fillOf (l : FrameLatch) (start duration w : Nat) : Nat :=
  if l.cls = .preview then 0
  else if l.clock < start then 0
  else if start + duration ≤ l.clock then w
  else w * (l.clock - start) / duration

/-- The glyphs of one syllable from the pen position `x`. -/
def placeCodes (l : FrameLatch) (glyphs : List Glyph) (syllableX fill : Nat) : Nat → List Nat → List Placed
  | _, [] => []
  | x, c :: cs =>
    { x := x, width := widthOf l glyphs c, bitmap := (lookupGlyph glyphs c).map Glyph.bitmap,
      syllableX := syllableX, fill := fill }
      :: placeCodes l glyphs syllableX fill (x + advanceOf l glyphs c) cs

/-- R81: the glyphs of a line's syllables from the pen position `x`. -/
def placeSyllables (l : FrameLatch) (glyphs : List Glyph) : Nat → List Syllable → List Placed
  | _, [] => []
  | x, sy :: rest =>
    placeCodes l glyphs x (fillOf l sy.start sy.duration (syllableWidth l glyphs sy)) x sy.codes
      ++ placeSyllables l glyphs (x + syllableAdvance l glyphs sy) rest

/-- R82: the line has overflowed the band. -/
def overflowed (l : FrameLatch) (glyphs : List Glyph) (xs : List Syllable) : Bool :=
  l.bandW < lineWidth l glyphs xs

/-- R82: where the pen of a line starts. -/
def lineStart (l : FrameLatch) (glyphs : List Glyph) (xs : List Syllable) : Nat :=
  if overflowed l glyphs xs then l.bandX else l.bandX + (l.bandW - lineWidth l glyphs xs) / 2

/-- R82, R83: the glyphs of a line that are drawn. -/
def drawnGlyphs (l : FrameLatch) (glyphs : List Glyph) (xs : List Syllable) : List Placed :=
  let placed := placeSyllables l glyphs (lineStart l glyphs xs) xs
  if overflowed l glyphs xs then
    match l.lineOverflow with
    | .clip => placed.takeWhile fun g => g.x + g.width ≤ l.bandX + l.bandW
    | .drop => []
  else placed

/-- R88: the missing glyphs of a line. -/
def missingCount (glyphs : List Glyph) (xs : List Syllable) : Nat :=
  ((xs.flatMap Syllable.codes).filter fun c => (lookupGlyph glyphs c).isNone).length

/-! ### Colour and blend (R84, R86, R87) -/

/-- The unsung colour of a part (R80). -/
def Palette.unsung (p : Palette) : Part → Rgb
  | .a => p.aUnsung
  | .b => p.bUnsung
  | .both => p.bothUnsung

/-- The sung colour of a part (R80). -/
def Palette.sung (p : Palette) : Part → Rgb
  | .a => p.aSung
  | .b => p.bSung
  | .both => p.bothSung

/-- R87: the blend of one channel. -/
def blendChannel (a : Nat) (fg bg : Byte) : Byte :=
  BitVec.ofNat 8 ((fg.toNat * a + bg.toNat * (15 - a) + 7) / 15)

/-- R87: the blend of a pixel. -/
def blend (a : Nat) (fg bg : Rgb) : Rgb :=
  ⟨blendChannel a fg.red bg.red, blendChannel a fg.green bg.green, blendChannel a fg.blue bg.blue⟩

/-- R86: the foreground colour of a glyph pixel in column `x`. -/
def glyphColour (p : Palette) (part : Part) (g : Placed) (x : Nat) : Rgb :=
  if x < g.syllableX + g.fill then Palette.sung p part else Palette.unsung p part

/-- R84: the coverage value of a glyph in column `x` of its bitmap row `row`; 0 where it draws nothing. -/
def coverageAt (g : Placed) (row x : Nat) : Nat :=
  match g.bitmap with
  | none => 0
  | some bits => if g.x ≤ x ∧ x < g.x + g.width then bits.getD (row * g.width + (x - g.x)) 0 else 0

/-- R84, R86, R87: a line's drawn glyphs are blended in their order onto the pixel in column `x`, which passes
outside the band columns. -/
def blendAt (l : FrameLatch) (part : Part) (row : Nat) (gs : List Placed) (x : Nat) (px : Rgb) : Rgb :=
  if l.bandX ≤ x ∧ x < l.bandX + l.bandW then
    gs.foldl (fun bg g => blend (coverageAt g row x) (glyphColour l.palette part g x) bg) px
  else px

/-- The pixels of a video line, the first in column `x`, each changed by `f` of its column. -/
def mapColumns (f : Nat → Rgb → Rgb) : Nat → List Rgb → List Rgb
  | _, [] => []
  | x, p :: ps => f x p :: mapColumns f (x + 1) ps

/-! ### A video line -/

/-- R78: the bank whose lines are drawn on a line that arrives in chip mode `m`, if any: the latched bank of a
frame that is not a PASS, while it is FILLING or CLOSED and has not gone to CLEARING in the frame. -/
def Room.drawnBank (rm : Room) (m : Mode) (l : FrameLatch) : Option Bank :=
  if m = .run ∧ l.bandOff = false then
    match l.bank with
    | none => none
    | some b => if (rm.bank b).loaded then some (rm.bank b) else none
  else none

/-- The lyric lines whose glyph rows meet video line `y` within the band, with their bitmap rows (R84). -/
def FrameLatch.crossing (l : FrameLatch) (y : Nat) : List (Nat × Nat) :=
  if l.inBand y then l.drawnLines.filterMap fun i => (l.rowAt i y).map fun row => (i, row) else []

/-- One lyric line is drawn on the pixels of a video line. -/
def drawLine (l : FrameLatch) (glyphs : List Glyph) (bank : Bank) (pixels : List Rgb) (at_ : Nat × Nat) :
    List Rgb :=
  match bank.lines[at_.1]? with
  | none => pixels
  | some line =>
    mapColumns
      (blendAt l line.part at_.2 (drawnGlyphs l glyphs (bank.covered line.firstSyllable line.syllableCount)))
      0 pixels

/-- R88: the counters and the latch once lyric line `i` is laid out in the frame. -/
def Room.layOut (glyphs : List Glyph) (bank : Bank) (rm : Room) (i : Nat) : Room :=
  match rm.latch, bank.lines[i]? with
  | some l, some line =>
    if i ∈ l.laidOut then rm
    else
      let xs := bank.covered line.firstSyllable line.syllableCount
      { rm with
        latch := some { l with laidOut := l.laidOut ++ [i] }
        overlay :=
          { rm.overlay with
            missingGlyph := bump rm.overlay.missingGlyph (missingCount glyphs xs)
            overflowLines := bump rm.overlay.overflowLines (if overflowed l glyphs xs then 1 else 0) } }
  | _, _ => rm

/-- R84, R88: the compositor draws on video line `y`: the pixels sent, and the room with the lines laid out. -/
def Room.drawVideo (rm : Room) (m : Mode) (t : GlyphTable) (y : Nat) (pixels : List Rgb) : List Rgb × Room :=
  match rm.latch with
  | none => (pixels, rm)
  | some l =>
    match rm.drawnBank m l with
    | none => (pixels, rm)
    | some bank =>
      let glyphs := t.glyphs.take l.glyphCount
      let lines := l.crossing y
      (lines.foldl (drawLine l glyphs bank) pixels, (lines.map Prod.fst).foldl (Room.layOut glyphs bank) rm)

/-- R74: the compositor of a room takes an accepted line: the frame latch at a frame start, then the drawing, then
the sending on the room's video output port. -/
def Room.videoLine (rm : Room) (m : Mode) (t : GlyphTable) (line : Nat) (frameStart : Bool)
    (pixels : List Rgb) : Room :=
  let latched := if frameStart then rm.takeLatch m t else rm
  let drawn := latched.drawVideo m t line pixels
  { drawn.2 with videoOut := some ⟨line, frameStart, drawn.1⟩ }

/-- R74: the compositor takes a VIDEO cell of room `r`. -/
def videoCell (r : RoomId) (line : Nat) (frameStart : Bool) (pixels : List Rgb) (s : State) : State :=
  s.updRoom r fun rm =>
    if 1079 < line ∨ 1920 < pixels.length then
      { rm with overlay := { rm.overlay with videoDiscarded := bump rm.overlay.videoDiscarded 1 } }
    else rm.videoLine s.mode s.font line frameStart pixels

/-- VIDEO (R74). -/
def execVideo (r : RoomId) (line : Nat) (frameStart : Bool) (pixels : List Rgb) (s : State) :
    Host.Outcome State Fault Refusal :=
  .next (takeMedia (videoCell r line frameStart pixels) s)

end Sys2Proof.Machine
end

