-- ==== Sys2Proof/Machine/Dispatch.lean ====
section
/-! DEFINITION. The dispatch of a command to its meaning, one arm per row of spec/opcode_table.json. -/

namespace Sys2Proof.Machine

/-- The effect of a command on everything but the queue of waiting commands. -/
def exec (i : Instr) (s : State) : Host.Outcome State Fault Refusal :=
  match i with
  | .pinReset => Sys2Proof.Machine.execPinReset s
  | .cellDiscarded bytes => Sys2Proof.Machine.execCellDiscarded bytes s
  | .unknownOrder bytes => Sys2Proof.Machine.execUnknownOrder bytes s
  | .video room line frameStart pixels => Sys2Proof.Machine.execVideo room line frameStart pixels s
  | .audio room endFlag samples => Sys2Proof.Machine.execAudio room endFlag samples s
  | .appendLines room tag bank first recs => Sys2Proof.Machine.execAppendLines room tag bank first recs s
  | .appendSyllables room tag bank first recs => Sys2Proof.Machine.execAppendSyllables room tag bank first recs s
  | .appendGuide room tag bank first recs => Sys2Proof.Machine.execAppendGuide room tag bank first recs s
  | .appendFont tag first count records => Sys2Proof.Machine.execAppendFont tag first count records s
  | .appendLadder tag first bounds => Sys2Proof.Machine.execAppendLadder tag first bounds s
  | .setMode tag mode => Sys2Proof.Machine.execSetMode tag mode s
  | .chipParam tag param value => Sys2Proof.Machine.execChipParam tag param value s
  | .slotMap tag direction slot target => Sys2Proof.Machine.execSlotMap tag direction slot target s
  | .pollEntry tag entry enabled address room => Sys2Proof.Machine.execPollEntry tag entry enabled address room s
  | .fontClear tag height spaceAdvance missingAdvance => Sys2Proof.Machine.execFontClear tag height spaceAdvance missingAdvance s
  | .readChip tag => Sys2Proof.Machine.execReadChip tag s
  | .readRoom room tag => Sys2Proof.Machine.execReadRoom room tag s
  | .readBank room tag bank => Sys2Proof.Machine.execReadBank room tag bank s
  | .readRequestList room tag => Sys2Proof.Machine.execReadRequestList room tag s
  | .readScores room tag => Sys2Proof.Machine.execReadScores room tag s
  | .readCounters room tag => Sys2Proof.Machine.execReadCounters room tag s
  | .cue room tag bank ticket => Sys2Proof.Machine.execCue room tag bank ticket s
  | .start room tag => Sys2Proof.Machine.execStart room tag s
  | .pause room tag => Sys2Proof.Machine.execPause room tag s
  | .resume room tag => Sys2Proof.Machine.execResume room tag s
  | .stop room tag => Sys2Proof.Machine.execStop room tag s
  | .haltAtLine room tag => Sys2Proof.Machine.execHaltAtLine room tag s
  | .roomReset room tag => Sys2Proof.Machine.execRoomReset room tag s
  | .calibrate room tag => Sys2Proof.Machine.execCalibrate room tag s
  | .roomParam room tag setting => Sys2Proof.Machine.execRoomParam room tag setting s
  | .bankOpen room tag bank songId lines syllables notes => Sys2Proof.Machine.execBankOpen room tag bank songId lines syllables notes s
  | .bankClose room tag bank => Sys2Proof.Machine.execBankClose room tag bank s
  | .bankClear room tag bank => Sys2Proof.Machine.execBankClear room tag bank s
  | .reqAccept room tag ticket position => Sys2Proof.Machine.execReqAccept room tag ticket position s
  | .reqPosition room tag ticket position => Sys2Proof.Machine.execReqPosition room tag ticket position s
  | .reqRefuse room tag ticket reason => Sys2Proof.Machine.execReqRefuse room tag ticket reason s
  | .reqDrop room tag ticket => Sys2Proof.Machine.execReqDrop room tag ticket s
  | .samplePeriod inputs roomOrder offerOrder => Sys2Proof.Machine.execSamplePeriod inputs roomOrder offerOrder s
  | .songPositionLimit room => Sys2Proof.Machine.execSongPositionLimit room s
  | .songTick room => Sys2Proof.Machine.execSongTick room s
  | .analysisComplete => Sys2Proof.Machine.execAnalysisComplete s
  | .calTimeout room => Sys2Proof.Machine.execCalTimeout room s
  | .bankClearingComplete room bank => Sys2Proof.Machine.execBankClearingComplete room bank s
  | .fontClearingComplete => Sys2Proof.Machine.execFontClearingComplete s
  | .panelNone payload => Sys2Proof.Machine.execPanelNone payload s
  | .panelRequest payload => Sys2Proof.Machine.execPanelRequest payload s
  | .panelCancel payload => Sys2Proof.Machine.execPanelCancel payload s
  | .panelStopMessage payload => Sys2Proof.Machine.execPanelStopMessage payload s
  | .panelUnknownKind kind payload => Sys2Proof.Machine.execPanelUnknownKind kind payload s
  | .wrongEcho address => Sys2Proof.Machine.execWrongEcho address s
  | .garbled => Sys2Proof.Machine.execGarbled s
  | .noAnswer => Sys2Proof.Machine.execNoAnswer s
  | .venueTimeTick => Sys2Proof.Machine.execVenueTimeTick s
  | .replyTimeout room ticket => Sys2Proof.Machine.execReplyTimeout room ticket s
  | .cellSent => Sys2Proof.Machine.execCellSent s

end Sys2Proof.Machine
end

