-- ==== Sys2Proof/Machine/Step.lean ====
section
/-! DEFINITION. One step of the block: the command at the front of the queue, or idling. -/

namespace Sys2Proof.Machine

/-- The block takes the command at the front of its queue. With no command waiting it idles (log 7): every event
of the part, its own completions included, is a command. -/
def step (s : State) : Host.Outcome State Fault Refusal :=
  match s.pending with
  | [] => .next s
  | c :: rest => exec c { s with pending := rest }

/-- The state with a command put at the front of its queue. -/
def State.withCommand (s : State) (c : Instr) : State := { s with pending := c :: s.pending }

/-- The state with the command that a word of the opcode table's bits spells put at the front of its queue; the
state unchanged where the word spells none, as every word does (the table gives no bits). -/
def State.withFetchWord (s : State) (nbits w : Nat) : State :=
  match decodeTableWord nbits w with
  | some c => s.withCommand c
  | none => s

/-- A downstream cell arrives: the command its bytes spell waits behind those that came before it (R168). -/
def State.receiveCell (s : State) (bytes : List Byte) : State :=
  { s with pending := s.pending ++ [decodeCell bytes] }

/-- The answer bytes of the poll in flight have arrived: the command they spell waits (R143, R144). With no poll in
flight they are ignored. -/
def State.receiveAnswer (s : State) (bytes : List Byte) : State :=
  match s.polling with
  | some p => { s with pending := s.pending ++ [decodeAnswer p.address bytes] }
  | none => s

end Sys2Proof.Machine
end

