-- ==== Sys2Proof/Safety.lean ====
section
/-! DEFINITION. The terms the statements use: when the part takes an order, the state an answered order leaves,
and the laws of the device as predicates on a state. -/

namespace Sys2Proof.Machine

/-! ### Taking and answering an order -/

/-- Checks 3 and 6 of R169 let an ORDER or APPEND cell through: the chip is not in chip mode STOP and the reply queue
has a free place. -/
abbrev State.takes (s : State) : Prop := s.mode ≠ .stop ∧ s.replies.length < 16

/-- The state with one more cell counted in CELLS_IN and one REPLY at the tail of the reply queue (R169, R171), the event
ending with an idle link taking a cell (R180, `State.sendIfIdle`, log 11). That the header room of a REPLY is the room of
the cell it answers is the model's reading of 12.1 (DEDUCED, log 14). -/
def State.replied (s : State) (room tag kind : Nat) (code : ReplyCode) (data : List Byte := []) : State :=
  State.sendIfIdle
    { s with
      link := { s.link with cellsIn := s.link.cellsIn + 1 }
      replies := s.replies ++
        [{ room := BitVec.ofNat 8 room, tag := BitVec.ofNat 8 tag, kind := BitVec.ofNat 8 kind, code := code,
           data := data }] }

/-- The state an order taken with OK leaves: the cell is counted, the order's effect `act` follows, and the REPLY
enters the tail of the reply queue (R171), an idle link taking a cell at the end of the event (R180, log 11). The room of
the REPLY is log 14's. -/
def State.accepted (s : State) (room tag kind : Nat) (act : State → State) (data : List Byte := []) : State :=
  State.sendIfIdle ((act s.countIn).pushReply
    { room := BitVec.ofNat 8 room, tag := BitVec.ofNat 8 tag, kind := BitVec.ofNat 8 kind, code := .ok, data := data })

/-- The header room, the tag, and the order kind or section of the cell a command arrives in, for the commands that
arrive as an ORDER or APPEND cell (12.1, 12.2). -/
def orderHeader : Instr → Option (Nat × Nat × Nat)
  | .appendLines r tag _ _ _ => some (r.val, tag, 1)
  | .appendSyllables r tag _ _ _ => some (r.val, tag, 2)
  | .appendGuide r tag _ _ _ => some (r.val, tag, 3)
  | .appendFont tag _ _ _ => some (15, tag, 4)
  | .appendLadder tag _ _ => some (15, tag, 5)
  | .setMode tag _ => some (15, tag, 1)
  | .chipParam tag _ _ => some (15, tag, 2)
  | .slotMap tag _ _ _ => some (15, tag, 3)
  | .pollEntry tag _ _ _ _ => some (15, tag, 4)
  | .fontClear tag _ _ _ => some (15, tag, 5)
  | .readChip tag => some (15, tag, 6)
  | .readRoom r tag => some (r.val, tag, 6)
  | .readBank r tag _ => some (r.val, tag, 6)
  | .readRequestList r tag => some (r.val, tag, 6)
  | .readScores r tag => some (r.val, tag, 6)
  | .readCounters (some r) tag => some (r.val, tag, 6)
  | .readCounters none tag => some (15, tag, 6)
  | .cue r tag _ _ => some (r.val, tag, 16)
  | .start r tag => some (r.val, tag, 17)
  | .pause r tag => some (r.val, tag, 18)
  | .resume r tag => some (r.val, tag, 19)
  | .stop r tag => some (r.val, tag, 20)
  | .haltAtLine r tag => some (r.val, tag, 21)
  | .roomReset r tag => some (r.val, tag, 22)
  | .calibrate r tag => some (r.val, tag, 23)
  | .roomParam r tag _ => some (r.val, tag, 24)
  | .bankOpen r tag _ _ _ _ _ => some (r.val, tag, 25)
  | .bankClose r tag _ => some (r.val, tag, 26)
  | .bankClear r tag _ => some (r.val, tag, 27)
  | .reqAccept r tag _ _ => some (r.val, tag, 28)
  | .reqPosition r tag _ _ => some (r.val, tag, 29)
  | .reqRefuse r tag _ _ => some (r.val, tag, 30)
  | .reqDrop r tag _ => some (r.val, tag, 31)
  | .pinReset | .cellDiscarded _ | .unknownOrder _ | .video _ _ _ _ | .audio _ _ _ | .samplePeriod _ _ _
  | .songPositionLimit _ | .songTick _ | .analysisComplete | .calTimeout _ | .bankClearingComplete _ _
  | .fontClearingComplete | .panelNone _ | .panelRequest _ | .panelCancel _ | .panelStopMessage _
  | .panelUnknownKind _ _ | .wrongEcho _ | .garbled | .noAnswer | .venueTimeTick | .replyTimeout _ _
  | .cellSent => none

/-- An APPEND to a section of a bank is decided as R27 gives: `section_` is the section's code, `take` its record check,
`frontier` and `declared` its frontier and declared count, and `after` what follows an append that is taken. The records
of a cell are taken one after another by `foldlM`. -/
def AppendsLikeR27 {α : Type} (command : RoomId → Nat → Nat → Nat → List α → Instr) (section_ : Nat)
    (take : Bank → α → Option Bank) (frontier declared : Bank → Nat)
    (after : RoomId → BankId → List α → State → State) : Prop :=
  ∀ (r : RoomId) (tag first : Nat) (xs : List α) (s : State), s.takes →
    (∀ bank, 2 ≤ bank → exec (command r tag bank first xs) s = .next (s.replied r.val tag section_ .range))
    ∧ ∀ b : BankId,
      let bank := (s.room r).bank b
      (bank.state ≠ .filling → exec (command r tag b.val first xs) s
        = .next (s.replied r.val tag section_ .wrongState
            (beBytes 2 (frontier bank) ++ beBytes 1 bank.state.code)))
      ∧ (bank.state = .filling → first ≠ frontier bank → exec (command r tag b.val first xs) s
        = .next (s.replied r.val tag section_ .sequence (beBytes 2 (frontier bank))))
      ∧ (bank.state = .filling → first = frontier bank → declared bank < frontier bank + xs.length →
          exec (command r tag b.val first xs) s
            = .next (s.replied r.val tag section_ .capacity (beBytes 2 (frontier bank))))
      ∧ (bank.state = .filling → first = frontier bank → frontier bank + xs.length ≤ declared bank →
          (∀ i x before, xs[i]? = some x → (xs.take i).foldlM take bank = some before → take before x = none →
            exec (command r tag b.val first xs) s = .next (s.replied r.val tag section_ .sequence
              (beBytes 2 (frontier bank) ++ beBytes 2 (first + i))))
          ∧ ∀ loaded, xs.foldlM take bank = some loaded →
            exec (command r tag b.val first xs) s = .next (s.accepted r.val tag section_
              (fun x => after r b xs (x.updRoom r fun rm => rm.updBank b fun _ => loaded))
              (beBytes 2 (frontier loaded))))

/-! ### Capacities (R94, R111, R149, R153, R171, R177) -/

/-- Every queue is within its capacity, and while any stack holds a report the report queue holds 16. -/
structure State.CapacityLaw (s : State) : Prop where
  replies : s.replies.length ≤ 16
  reports : s.reports.length ≤ 16
  frames : s.frameQueue.length ≤ 8
  queues : ∀ r, (s.room r).port.queue.length ≤ 8192
  outboxes : ∀ e, (s.panel e).outbox.length ≤ 4
  lists : ∀ r, (s.room r).requests.length ≤ 12
  fullQueue : ∀ o, s.stackEmpty o = false → s.reports.length = 16

/-! ### Banks (R26, R29, R31, R34) -/

/-- Two parts have a singer in common (R31). -/
def Part.shares (p q : Part) : Bool := (p.hasA && q.hasA) || (p.hasB && q.hasB)

/-- A song bank: empty but for its song id unless FILLING or CLOSED; its frontiers within the declared counts, and equal
to them once CLOSED; syllable and guide starts non-decreasing, no two guide notes of a part overlapping; every line over
loaded syllables and LAST exactly at the last declared index. The last starts and lastEnd are those of the records. -/
structure Bank.Lawful (b : Bank) : Prop where
  unloaded : b.loaded = false → b = { state := b.state, songId := b.songId }
  declared : b.loaded = true → 1 ≤ b.declaredLines ∧ b.declaredLines ≤ 512 ∧ b.declaredLines ≤ b.declaredSyllables
    ∧ b.declaredSyllables ≤ 8192 ∧ b.declaredNotes ≤ 4096
  frontiers : b.lines.length ≤ b.declaredLines ∧ b.syllables.length ≤ b.declaredSyllables
    ∧ b.guide.length ≤ b.declaredNotes
  closed : b.state = .closed → b.lines.length = b.declaredLines ∧ b.syllables.length = b.declaredSyllables
    ∧ b.guide.length = b.declaredNotes
  syllables : b.syllables.Pairwise fun x y => x.start ≤ y.start
  guide : b.guide.Pairwise fun x y =>
    x.start ≤ y.start ∧ (x.part.shares y.part = true → x.start + x.duration ≤ y.start)
  lastSyllable : b.lastSyllableStart = b.syllables.getLast?.map Syllable.start
  lastGuide : b.lastGuideStart = b.guide.getLast?.map GuideNote.start
  ends : ∀ g ∈ b.guide, (g.part.hasA = true → g.start + g.duration ≤ b.lastEndA)
    ∧ (g.part.hasB = true → g.start + g.duration ≤ b.lastEndB)
  covered : ∀ l ∈ b.lines, 1 ≤ l.syllableCount ∧ l.firstSyllable + l.syllableCount ≤ b.syllables.length
  last : ∀ k l, b.lines[k]? = some l → (l.last = true ↔ k + 1 = b.declaredLines)

/-! ### Rooms, songs and cues (R1, R3, R8, R18, R25, R94, R101, R108) -/

/-- The room states in which nothing is queued, cued or played. -/
def RoomState.quiet : RoomState → Bool
  | .off | .idle | .calibrating => true
  | .cued | .playing | .held | .ending => false

/-- An assembler collects only where `singing`; it is empty while IDLE and never holds a whole frame (R107, R108). -/
structure Assembler.Lawful (a : Assembler) (singing : Bool) : Prop where
  assembling : a.assembling = true → singing = true
  empty : a.assembling = false → a.samples = []
  partialFrame : a.samples.length < 1024

/-- Each slot of room `r`'s report stack is empty or holds a report of the slot's own kind that names the room (R177,
R178). -/
structure RoomStack.Lawful (r : RoomId) (k : RoomStack) : Prop where
  lineScore : ∀ x, k.lineScore = some x → ∃ b, x.body = .lineScore b ∧ b.room = r
  songEnd : ∀ x, k.songEnd = some x → ∃ b, x.body = .songEnd b ∧ b.room = r
  bankFree : ∀ x, k.bankFree = some x → ∃ b0 b1, x.body = .bankFree r b0 b1
  calDone : ∀ x, k.calDone = some x → ∃ outcome j delay valid mic, x.body = .calDone r outcome j delay valid mic
  queueMark : ∀ x, k.queueMark = some x → ∃ mark fill, x.body = .queueMark r mark fill

/-- A room of a part in chip mode `m` agrees with its room state: its banks are lawful, a cued bank has a line loaded
(R40), and in a song the current line lies below the line frontier (R54) and no guide cursor beyond the guide frontier
(R127). -/
structure Room.Lawful (m : Mode) (rm : Room) : Prop where
  off : m ≠ .run → rm.ctx.state = .off
  calibration : rm.port.calibration.isSome = true ↔ rm.ctx.state = .calibrating
  songEnd : rm.stack.songEnd.isSome = true ↔ rm.ctx.state = .ending
  queue : rm.ctx.state.quiet = true → rm.port.queue = [] ∧ rm.port.pendingEnd = false
  current : rm.ctx.currentBank.isSome = true ↔ (rm.ctx.singing = true ∨ rm.ctx.state = .ending)
  cued : rm.ctx.state = .cued → rm.ctx.cuedBank.isSome = true
  uncued : rm.ctx.state.quiet = true → rm.ctx.cuedBank = none
  currentTicket : rm.ctx.currentTicket.isSome = true → rm.ctx.singing = true
  cuedTicket : rm.ctx.cuedTicket.isSome = true → rm.ctx.cuedBank.isSome = true
  roles : ∀ b, rm.ctx.currentBank = some b → rm.ctx.cuedBank ≠ some b
  cuedLoaded : ∀ b, rm.ctx.cuedBank = some b → (rm.bank b).loaded = true
  currentLoaded : ∀ b, rm.ctx.singing = true → rm.ctx.currentBank = some b → (rm.bank b).loaded = true
  banks : ∀ b, (rm.bank b).Lawful
  cuedLine : ∀ b, rm.ctx.cuedBank = some b → 1 ≤ (rm.bank b).lines.length
  currentLine : ∀ b, rm.ctx.singing = true → rm.ctx.currentBank = some b →
    rm.ctx.lyric.current < (rm.bank b).lines.length
  cursors : ∀ b m, rm.ctx.singing = true → rm.ctx.currentBank = some b →
    (rm.mic m).lane.cursorA ≤ (rm.bank b).guide.length ∧ (rm.mic m).lane.cursorB ≤ (rm.bank b).guide.length
  mic1 : rm.mic1.assembler.Lawful rm.ctx.singing
  mic2 : rm.mic2.assembler.Lawful rm.ctx.singing

/-- Every room agrees with its room state and the chip mode, and its report stack holds each kind of report in the slot
of that kind. -/
def State.RoomLaw (s : State) : Prop := ∀ r, (s.room r).Lawful s.mode ∧ (s.room r).stack.Lawful r

/-! ### Scores (R133) -/

/-- S is the sum of the grade counts, P at most 4 times S, S at most 65535, and the set is frozen at 65535. -/
structure Accumulators.Lawful (a : Accumulators) : Prop where
  sum : a.s = a.perfect + a.near + a.off + a.silent
  points : a.p ≤ 4 * a.s
  bound : a.s ≤ 65535
  frozen : a.frozen = true ↔ a.s = 65535

/-- Both sets of accumulators of every microphone are lawful. -/
def State.ScoreLaw (s : State) : Prop :=
  ∀ r m, ((s.room r).mic m).lane.song.Lawful ∧ ((s.room r).mic m).lane.line.Lawful

/-! ### Requests (R153, R156, R164) -/

/-- A room's request list: its tickets are 1 to 255 and pairwise distinct, an entry is CUED exactly when the cue
names its ticket, and PLAYING exactly when the song in progress was cued with it. -/
structure Room.RequestsLawful (rm : Room) : Prop where
  counter : rm.ticketCounter ≤ 255
  length : rm.requests.length ≤ 12
  range : ∀ e ∈ rm.requests, 1 ≤ e.ticket ∧ e.ticket ≤ 255
  distinct : (rm.requests.map Entry.ticket).Nodup
  cued : ∀ e ∈ rm.requests, e.state = .cued ↔ rm.ctx.cuedTicket = some e.ticket
  playing : ∀ e ∈ rm.requests,
    e.state = .playing ↔ (rm.ctx.currentTicket = some e.ticket ∧ rm.ctx.singing = true)
  cuedHeld : ∀ t, rm.ctx.cuedTicket = some t → ∃ e ∈ rm.requests, e.ticket = t
  playingHeld : ∀ t, rm.ctx.currentTicket = some t → rm.ctx.singing = true ∧ ∃ e ∈ rm.requests, e.ticket = t

/-- Every request list is lawful, and each item of the cancel queue names a CANCELLING entry with no sent time, none
of them twice. -/
structure State.RequestLaw (s : State) : Prop where
  lists : ∀ r, (s.room r).RequestsLawful
  items : ∀ i ∈ s.cancelQueue,
    ∃ e ∈ (s.room i.room).requests, e.ticket = i.ticket ∧ e.state = .cancelling ∧ e.sentTime = none
  once : s.cancelQueue.Nodup

/-! ### The Glyph Table (R43, R44) -/

/-- A glyph record of a font of height `height` (R44). -/
structure Glyph.Lawful (height : Nat) (g : Glyph) : Prop where
  code : 1 ≤ g.code ∧ g.code ≤ 65535
  width : 1 ≤ g.width ∧ g.width ≤ 64
  advance : 1 ≤ g.advance ∧ g.advance ≤ 80
  bitmap : g.bitmap.length = g.width * height ∧ ∀ v ∈ g.bitmap, v ≤ 15

/-- The Glyph Table: its header in range, its records lawful and of strictly ascending codes, its last code and coverage
used those of the records, both capacities kept, and no record while CLEARING. -/
structure GlyphTable.Lawful (t : GlyphTable) : Prop where
  header : 16 ≤ t.height ∧ t.height ≤ 64 ∧ t.spaceAdvance ≤ 80 ∧ t.missingAdvance ≤ 80
  glyphs : ∀ g ∈ t.glyphs, g.Lawful t.height
  ascending : t.glyphs.Pairwise fun x y => x.code < y.code
  lastCode : t.lastCode = t.glyphs.getLast?.map Glyph.code
  coverage : t.coverageUsed = (t.glyphs.map fun g => g.width * t.height).sum
  capacity : t.glyphs.length ≤ 4096 ∧ t.coverageUsed ≤ 2097152
  clearing : t.clearing = true → t.glyphs = []

/-! ### Tables (R43, R91, R140, R142, R145, R149) -/

/-- A poll-table entry: its miss count is at most 3 and below 3 while PRESENT, its outbox holds at most 4 results and
none while it is disabled, and an enabled one has an address of 1 to 31. -/
structure PollEntry.Lawful (p : PollEntry) : Prop where
  misses : p.missCount ≤ 3
  present : p.present = true → p.missCount < 3
  outbox : p.outbox.length ≤ 4
  disabled : p.enabled = false → p.outbox = []
  address : p.enabled = true → 1 ≤ p.address ∧ p.address ≤ 31

/-- The Glyph Table, the poll table and the slot map keep their tables' rules, and the controller polls only in RUN mode,
an enabled entry at its own address. -/
structure State.TableLaw (s : State) : Prop where
  font : s.font.Lawful
  entries : ∀ e, (s.panel e).Lawful
  addresses : ∀ e k, (s.panel e).enabled = true → (s.panel k).enabled = true →
    (s.panel e).address = (s.panel k).address → e = k
  polling : ∀ p, s.polling = some p →
    s.mode = .run ∧ (s.panel s.nextEntry).enabled = true ∧ p.address = (s.panel s.nextEntry).address
  inputs : ∀ i k t, s.slotIn.get i = some t → s.slotIn.get k = some t → i = k
  outputs : ∀ i k t, s.slotOut.get i = some t → s.slotOut.get k = some t → i = k

/-! ### The upstream link (R180) -/

/-- Beside an idle link no reply waits, and outside chip mode STOP nothing else that the scheduler could take: no CANCEL
item, no WAITING entry and no report. -/
def State.LinkLaw (s : State) : Prop :=
  s.upstream = none →
    s.replies = []
      ∧ (s.mode ≠ .stop →
        s.cancelQueue = [] ∧ (∀ r, ∀ e ∈ (s.room r).requests, e.state ≠ .waiting) ∧ s.reports = [])

/-! ### The bytes of a glyph record (12.3) -/

/-- The bytes of a glyph's coverage values, the first of each byte in bits 4-7; an odd last value shares its byte with a
padding nibble, which the part does not read (R184). -/
def coverageBytes (padding : Nat) : List Nat → List Byte
  | [] => []
  | [a] => [BitVec.ofNat 8 (16 * a + padding)]
  | a :: b :: rest => BitVec.ofNat 8 (16 * a + b) :: coverageBytes padding rest

/-- The bytes of a glyph record: code 2, width 1, advance 1, then the bitmap. -/
def Glyph.bytes (padding : Nat) (g : Glyph) : List Byte :=
  beBytes 2 g.code ++ beBytes 1 g.width ++ beBytes 1 g.advance ++ coverageBytes padding g.bitmap

end Sys2Proof.Machine
end

