-- ==== Sys2Proof/Certificates/Slice0/Obligations.lean ====
section
/-! DEFINITION. The statements for the provers, family by family of the command table. Each says what its docstring
says of every state, reachable or not, unless it names an invariant as a premise. -/

open Sys2Proof Sys2Proof.Machine

/-! ### The machine -/

/-- A step takes the command at the front of the queue and runs it on the state with the rest of the queue; with no
command waiting the block idles (the model's choice, log 7). -/
def Obligations.StepTakesTheFrontCommand : Prop :=
  ∀ (c : Instr) (rest : List Instr) (s : State),
    step { s with pending := c :: rest } = exec c { s with pending := rest }
      ∧ step { s with pending := [] } = .next { s with pending := [] }

/-- Every command answers a next state in every state. That every command, PIN_RESET among them, leaves the queue of
waiting commands as it is, is the model's choice (log 7). -/
def Obligations.EveryCommandHasANextState : Prop :=
  ∀ (c : Instr) (s : State), ∃ t, exec c s = .next t ∧ t.pending = s.pending

/-- R2: PIN_RESET leaves every room context, ROOM_ENABLE, the validity of the measured delay and the chip mode at their
pin-reset values. -/
def Obligations.PinResetRoomContext : Prop :=
  ∀ s : State, ∃ t, exec .pinReset s = .next t ∧ t.mode = .config ∧ ∀ r : RoomId,
    (t.room r).ctx.state = .off
      ∧ (t.room r).ctx.currentBank = none ∧ (t.room r).ctx.cuedBank = none
      ∧ (t.room r).ctx.currentTicket = none ∧ (t.room r).ctx.cuedTicket = none
      ∧ (t.room r).ctx.keyShift = 0 ∧ (t.room r).ctx.epoch = 0
      ∧ (t.room r).ctx.position = 0 ∧ (t.room r).ctx.songClock = 0
      ∧ (t.room r).ctx.comp = 0 ∧ (t.room r).ctx.compClamped = false
      ∧ (t.room r).ctx.assign1 = .all ∧ (t.room r).ctx.assign2 = .off
      ∧ (t.room r).ctx.endReason = none ∧ (t.room r).ctx.starvedEver = false
      ∧ (t.room r).ctx.underrunCount = 0 ∧ (t.room r).ctx.starvationCount = 0 ∧ (t.room r).ctx.skipCount = 0
      ∧ (t.room r).ctx.lyric.current = 0 ∧ (t.room r).ctx.lyric.scrollStart = 0
      ∧ (t.room r).ctx.lyric.scrollLength = 0 ∧ (t.room r).ctx.lyric.starved = false
      ∧ (t.room r).ctx.lyric.finished = false ∧ (t.room r).ctx.lyric.haltPending = false
      ∧ (t.room r).ctx.draining = false
      ∧ (t.room r).port.delayValid = false
      ∧ (t.room r).params.roomEnable = false

/-- What PIN_RESET leaves of the chip's tables, queues, stacks and counters, and of every room's banks, compositor, audio
port, microphones, request list, report stack and parameters (R24, R45, R76, R88, R91, R94, R105, R107, R111, R112, R118,
R122, R140, R142, R152, R154, R163, R167, R171, R177, R182, R183, and the defaults of R79, R80, R98, R101, R117, R123,
R130, R148, R174 and R175). That the commands waiting outside the part stay is the model's choice (log 7). -/
def Obligations.PinResetBlocks : Prop :=
  ∀ s : State, ∃ t, exec .pinReset s = .next t ∧ t.pending = s.pending
    ∧ t.venueTime = 0 ∧ t.replies = [] ∧ t.reports = [] ∧ t.lastServed = .chip ∧ t.cancelQueue = []
    ∧ t.issueCounter = 0 ∧ t.frameQueue = [] ∧ t.engine = none ∧ t.nextEntry = 0 ∧ t.polling = none
    ∧ t.ladder.loaded = false ∧ t.ladder.bounds = List.replicate 43 0
    ∧ t.chip.requestOrder = .arrival ∧ t.chip.replyTimeout = 5 ∧ t.chip.pollWindow = 4 ∧ t.chip.clearReports = true
    ∧ t.font.clearing = false ∧ t.font.height = 16 ∧ t.font.spaceAdvance = 8 ∧ t.font.missingAdvance = 8
    ∧ t.font.glyphs = [] ∧ t.font.lastCode = none ∧ t.font.coverageUsed = 0
    ∧ t.link.cellsIn = 0 ∧ t.link.badLength = 0 ∧ t.link.badCrc = 0 ∧ t.link.standbyDiscarded = 0
    ∧ t.link.badKind = 0 ∧ t.link.mediaDiscarded = 0 ∧ t.link.ordersLost = 0 ∧ t.link.repliesSent = 0
    ∧ t.link.requestCellsSent = 0 ∧ t.link.reportsSent = 0
    ∧ (∀ o : Fin 5, t.link.reportsStacked.get o = 0 ∧ t.link.reportsReplaced.get o = 0)
    ∧ (∀ k : SlotId, t.slotIn.get k = none ∧ t.slotOut.get k = none)
    ∧ (∀ e : PanelId, t.chipStack.get e = none ∧ t.panel e = setEntry false 1 0)
    ∧ t.timeoutInForce = 5
    ∧ ∀ r : RoomId,
      let white : Rgb := ⟨255, 255, 255⟩
      (∀ b : BankId, (t.room r).bank b =
        { state := .empty, songId := 0, declaredLines := 0, declaredSyllables := 0, declaredNotes := 0, lines := [],
          syllables := [], guide := [], lastSyllableStart := none, lastGuideStart := none, lastEndA := 0,
          lastEndB := 0, lastLineSeen := false })
      ∧ (∀ m : MicId,
        let empty : Accumulators :=
          { s := 0, p := 0, perfect := 0, near := 0, off := 0, silent := 0, frozen := false }
        (t.room r).mic m =
          { assembler := { assembling := false, samples := [], consumed := 0, dropped := 0 }
            lane :=
              { song := empty, line := empty
                outcomes := { perfect := 0, near := 0, off := 0, silent := 0, disturbed := 0, rest := 0, unguided := 0 }
                cursorA := 0, cursorB := 0 }
            lastResult := none })
      ∧ (t.room r).latch = none
      ∧ (t.room r).overlay =
        { frameStarts := 0, overlayFrames := 0, missingGlyph := 0, overflowLines := 0, videoDiscarded := 0 }
      ∧ (t.room r).port =
        { queue := [], pendingEnd := false, markState := .none, inUnderrun := false, audioDiscarded := 0, overrun := 0,
          underrunPeriods := 0, audioBadCells := 0, calibration := none, delay := 0, delayValid := false }
      ∧ (t.room r).requests = [] ∧ (t.room r).ticketCounter = 0
      ∧ (t.room r).requestCounters = { ticketsIssued := 0, refusedFull := 0, refusedDuplicate := 0, timeouts := 0 }
      ∧ (t.room r).stack = { lineScore := none, songEnd := none, bankFree := none, calDone := none, queueMark := none }
      ∧ (t.room r).params =
        { roomEnable := false, bandX := 320, bandW := 1280, bandY := 840, rows := 2, rowGap := 8, lineOverflow := .clip
          palette :=
            { aUnsung := white, aSung := ⟨0, 128, 255⟩, bUnsung := white, bSung := ⟨255, 64, 96⟩
              bothUnsung := white, bothSung := ⟨64, 200, 64⟩ }
          advanceLead := 90, scrollTicks := 60, compMode := .measuredPlusOffset, compOffset := 0
          voiceThreshold := 400, hysteresis := 256, tolerance := 1, octaveFold := true, micAssign1 := .all
          micAssign2 := .off, panelStopPermit := false, duplicatesRefuse := false, lowMark := 1024, highMark := 6144
          calQ := 22, calAmplitude := 8000, calCycles := 8, calThreshold := 2000, calMic := 0 }

/-! ### The downstream link (chapter 11) -/

/-- R169, the table of checks: the first check that fails counts one, and the cell changes nothing else. Bytes that pass
every check are no discarded cell and change nothing (the model's choice, log 12). -/
def Obligations.DiscardedCellsAreCounted : Prop :=
  ∀ (bytes : List Byte) (s : State),
    let kind := fieldAt bytes 0 1
    let room := fieldAt bytes 1 1
    let len := fieldAt bytes 4 2
    let payload := (bytes.drop 6).take (bytes.length - 8)
    exec (.cellDiscarded bytes) s = .next (
      if bytes.length < 8 ∨ len ≠ bytes.length - 8 ∨ 8192 < len then
        { s with link := { s.link with badLength := s.link.badLength + 1 } }
      else if fieldAt bytes (bytes.length - 2) 2 ≠ (crc16 (bytes.take (bytes.length - 2))).toNat then
        { s with link := { s.link with badCrc := s.link.badCrc + 1 } }
      else if s.mode = .stop ∧ ¬(kind = 4 ∧ payload.head? = some 1) then
        { s with link := { s.link with standbyDiscarded := s.link.standbyDiscarded + 1 } }
      else if kind ≠ 1 ∧ kind ≠ 2 ∧ kind ≠ 3 ∧ kind ≠ 4 then
        { s with link := { s.link with badKind := s.link.badKind + 1 } }
      else if (kind = 1 ∧ (4 ≤ room ∨ payload.length < 4 ∨ payload.length ≠ 4 + 3 * fieldAt payload 2 2))
          ∨ (kind = 2 ∧ (4 ≤ room ∨ payload.length < 2 ∨ payload.length ≠ 2 + 4 * fieldAt payload 0 2)) then
        { s with link := { s.link with mediaDiscarded := s.link.mediaDiscarded + 1 } }
      else if (kind = 3 ∨ kind = 4) ∧ 16 ≤ s.replies.length then
        { s with link := { s.link with ordersLost := s.link.ordersLost + 1 } }
      else s)

/-- R170: an ORDER or APPEND cell that spells no order is answered MALFORMED with its own tag and changes nothing else;
then each of the rule's conditions, under which a cell spells none, and the FONT append, whose length is left to the Glyph
Table (R184). The model's readings: a cell of room 16 to 255 or an APPEND that ends before its section or its record count
spells none (log 13); the REPLY's header room is the cell's (log 14); a link that is idle takes a cell at the end of the
event (log 11). The kind byte of a cell that ends before it, and the room byte of a cell whose room no header allows, are
free values (logs 1 and 2). -/
def Obligations.MalformedCellsAreAnswered : Prop :=
  (∀ (bytes : List Byte) (s : State), malformedCell bytes = true →
    (s.mode ≠ .stop ∨ (rawCell bytes).isSetMode = true) →
    (s.replies.length < 16 → ∃ reply n,
      exec (.unknownOrder bytes) s = .next (State.sendIfIdle
          { s with
            link := { s.link with cellsIn := s.link.cellsIn + 1 }
            replies := s.replies ++ [reply]
            freeDrawn := n })
        ∧ reply.code = .malformed ∧ reply.tag = BitVec.ofNat 8 (fieldAt bytes 2 1) ∧ reply.data = []
        ∧ (fieldAt bytes 1 1 < 4 ∨ fieldAt bytes 1 1 = 15 → reply.room = BitVec.ofNat 8 (fieldAt bytes 1 1))
        ∧ (∀ b, kindByteOf (rawCell bytes) = some b → reply.kind = b ∧ n = s.freeDrawn))
    ∧ (16 ≤ s.replies.length → exec (.unknownOrder bytes) s = .next
        { s with link := { s.link with ordersLost := s.link.ordersLost + 1 } }))
  ∧ (∀ bytes : List Byte, malformedCell bytes = true ↔
      8 ≤ bytes.length ∧ fieldAt bytes 4 2 = bytes.length - 8 ∧ fieldAt bytes 4 2 ≤ 8192
        ∧ fieldAt bytes (bytes.length - 2) 2 = (crc16 (bytes.take (bytes.length - 2))).toNat
        ∧ (fieldAt bytes 0 1 = 3 ∨ fieldAt bytes 0 1 = 4) ∧ decodeBody (rawCell bytes) = none)
  ∧ ∀ c : RawCell,
    (c.kind = 3 ∨ c.kind = 4 → 4 ≤ c.room → c.room ≠ 15 → decodeBody c = none)
    ∧ (c.kind = 4 → c.payload = [] → decodeBody c = none)
    ∧ (∀ k fields, c.kind = 4 → c.payload = k :: fields →
      let length : Nat := match k.toNat with
        | 1 => 1 | 2 => 3 | 3 => 3 | 4 => 4 | 5 => 3 | 6 => 2 | 16 => 2 | 24 => 19 | 25 => 11 | 26 => 1 | 27 => 1
        | 28 => 3 | 29 => 3 | 30 => 2 | 31 => 1 | _ => 0
      (k.toNat = 0 ∨ (7 ≤ k.toNat ∧ k.toNat ≤ 15) ∨ 32 ≤ k.toNat → decodeBody c = none)
      ∧ (c.room = 15 → 16 ≤ k.toNat → decodeBody c = none)
      ∧ (c.room < 4 → 1 ≤ k.toNat → k.toNat ≤ 5 → decodeBody c = none)
      ∧ (fields.length ≠ length → decodeBody c = none)
      ∧ (∀ x y, k.toNat = 6 → fields = [x, y] →
          5 < x.toNat ∨ (c.room = 15 ∧ x.toNat ≠ 0 ∧ x.toNat ≠ 5) ∨ (c.room ≠ 15 ∧ x.toNat = 0) → decodeBody c = none)
      ∧ (∀ p v, fields = p :: v →
          (k.toNat = 2 → p.toNat = 0 ∨ 4 < p.toNat → decodeBody c = none)
          ∧ (k.toNat = 24 → p.toNat = 0 ∨ 24 < p.toNat → decodeBody c = none)))
    ∧ (c.kind = 3 →
      let section_ := fieldAt c.payload 1 1
      (c.payload.length < 2 ∨ section_ = 0 ∨ 5 < section_ → decodeBody c = none)
      ∧ (c.room = 15 → section_ ≤ 3 → decodeBody c = none) ∧ (c.room < 4 → 4 ≤ section_ → decodeBody c = none)
      ∧ (∀ w, (section_, w) ∈ [(1, 4), (2, 22), (3, 7), (5, 2)] →
          c.payload.length < 6 ∨ c.payload.length ≠ 6 + w * fieldAt c.payload 4 2 → decodeBody c = none)
      ∧ (c.room = 15 → section_ = 4 → decodeBody c = some (.appendFont c.tag
          (if 4 ≤ c.payload.length then some (fieldAt c.payload 2 2) else none)
          (if 6 ≤ c.payload.length then some (fieldAt c.payload 4 2) else none)
          (c.payload.drop (if 6 ≤ c.payload.length then 6 else if 4 ≤ c.payload.length then 4 else 2)))))

/-- Every ORDER and APPEND that is taken puts exactly one REPLY, with the room, tag and kind of its cell, at the tail of
the reply queue (R171), from which an idle link takes it at once (R180); and one whose code is not OK changes nothing else
(R4). That the header room of a REPLY is the room of the answered cell is the model's reading of 12.1 (log 14), and that
an idle link looks for a cell when the whole order has been handled is its reading of R180 (log 11). -/
def Obligations.EveryOrderIsAnsweredOnce : Prop :=
  ∀ (c : Instr) (h : Nat × Nat × Nat) (s : State), orderHeader c = some h → s.takes →
    ∃ (t : State) (code : ReplyCode) (data : List Byte),
      let reply : Reply :=
        { room := BitVec.ofNat 8 h.1, tag := BitVec.ofNat 8 h.2.1, kind := BitVec.ofNat 8 h.2.2, code := code,
          data := data }
      exec c s = .next t.sendIfIdle
      ∧ t.upstream = s.upstream ∧ t.replies = s.replies ++ [reply] ∧ t.link.cellsIn = s.link.cellsIn + 1
      ∧ t.link.repliesSent = s.link.repliesSent
      ∧ (s.upstream ≠ none → t.sendIfIdle = t)
      ∧ (s.upstream = none → s.replies = [] → t.sendIfIdle =
          { t with
            replies := [], upstream := some (.reply reply)
            link := { t.link with repliesSent := t.link.repliesSent + 1 } })
      ∧ (code ≠ .ok → exec c s = .next (s.replied h.1 h.2.1 h.2.2 code data))

/-- Checks 3 and 6 of R169: in chip mode STOP every VIDEO, AUDIO, ORDER and APPEND cell but SET_MODE is discarded and
counted in STANDBY_DISCARDED; with a full reply queue an ORDER or APPEND is discarded and counted in ORDERS_LOST. -/
def Obligations.OrdersDiscardedInStandbyOrFull : Prop :=
  ∀ (c : Instr) (s : State),
    (s.mode = .stop → (∀ tag mode, c ≠ .setMode tag mode) →
      ((orderHeader c).isSome = true ∨ (∃ r line fs px, c = .video r line fs px) ∨ (∃ r e xs, c = .audio r e xs)) →
      exec c s = .next { s with link := { s.link with standbyDiscarded := s.link.standbyDiscarded + 1 } })
    ∧ (16 ≤ s.replies.length → (orderHeader c).isSome = true →
      (s.mode ≠ .stop ∨ ∃ tag mode, c = .setMode tag mode) →
      exec c s = .next { s with link := { s.link with ordersLost := s.link.ordersLost + 1 } })

/-- Every downstream cell of a command that fits its fields decodes to that command: no bit of an operand is dropped,
whatever the operands (12.1 to 12.3). -/
def Obligations.EncodedCellsDecodeToTheirCommand : Prop :=
  ∀ (c : Instr) (bytes : List Byte), c.wellFormed = true → encodeCell c = some bytes → decodeCell bytes = c

/-! ### Chip modes (11.3) -/

/-- R173, the answers: SET_MODE is taken in every chip mode while the reply queue has a place. The modes are coded CONFIG
0, RUN 1, STOP 2 (12.2). A refused SET_MODE, one naming the present mode, and the return from STOP to CONFIG change
nothing but the mode. -/
def Obligations.SetModeAnswers : Prop :=
  ∀ (tag : Nat) (s : State), s.replies.length < 16 →
    (∀ mode, 3 ≤ mode → exec (.setMode tag mode) s = .next (s.replied 15 tag 1 .range))
    ∧ (s.mode = .config → exec (.setMode tag 0) s = .next (s.replied 15 tag 1 .ok))
    ∧ (s.mode = .run → exec (.setMode tag 1) s = .next (s.replied 15 tag 1 .ok))
    ∧ (s.mode = .stop → exec (.setMode tag 2) s = .next (s.replied 15 tag 1 .ok))
    ∧ (s.mode = .config → s.ladder.loaded = false →
        exec (.setMode tag 1) s = .next (s.replied 15 tag 1 .notReady))
    ∧ (s.mode = .run → (∃ r, (s.room r).ctx.state ≠ .off ∧ (s.room r).ctx.state ≠ .idle) →
        exec (.setMode tag 0) s = .next (s.replied 15 tag 1 .busy))
    ∧ (s.mode = .run → exec (.setMode tag 2) s = .next (s.replied 15 tag 1 .wrongMode))
    ∧ (s.mode = .stop → exec (.setMode tag 1) s = .next (s.replied 15 tag 1 .wrongMode))
    ∧ (s.mode = .stop → exec (.setMode tag 0) s = .next (({ s with mode := .config } : State).replied 15 tag 1 .ok))

/-- R3, R76, R142, R173, the moves: from CONFIG to RUN every room with ROOM_ENABLE on goes to IDLE, nothing else of a room
changes and polling begins with the lowest-numbered enabled entry; from CONFIG to STOP every frame latch becomes invalid
and nothing else changes; from RUN to CONFIG every room is reset as by ROOM_RESET (R20, R21, R154: its banks, queue,
microphones, requests and report stack, its frame records stale, its CANCEL items withdrawn, its panels' outboxes emptied)
and ends OFF, and polling stops. -/
def Obligations.SetModeMovesTheChip : Prop :=
  ∀ (tag : Nat) (s : State), s.replies.length < 16 →
    (s.mode = .config → s.ladder.loaded = true → ∃ t, exec (.setMode tag 1) s = .next t ∧ t.mode = .run
      ∧ (∀ r, t.room r = if (s.room r).params.roomEnable then (s.room r).setState .idle else s.room r)
      ∧ t.font = s.font ∧ t.ladder = s.ladder ∧ t.reports = s.reports ∧ t.frameQueue = s.frameQueue
      ∧ ((∀ e, (s.panel e).enabled = false) → t.polling = s.polling ∧ t.panels = s.panels)
      ∧ (∀ e, (s.panel e).enabled = true → (∀ k, k < e → (s.panel k).enabled = false) →
          t.nextEntry = e
            ∧ t.polling = some ⟨(s.panel e).address, s.chip.pollWindow, (s.panel e).outbox.head?⟩
            ∧ t.panel e = { s.panel e with
                outbox := (s.panel e).outbox.tail, polls := (s.panel e).polls + 1 }
            ∧ ∀ k, k ≠ e → t.panel k = s.panel k))
    ∧ (s.mode = .config → exec (.setMode tag 2) s = .next
        (({ s with mode := .stop, rooms := s.rooms.map fun rm => { rm with latch := none } } : State).replied 15 tag 1 .ok))
    ∧ (s.mode = .run → (∀ r, (s.room r).ctx.state = .off ∨ (s.room r).ctx.state = .idle) →
        ∃ t, exec (.setMode tag 0) s = .next t ∧ t.mode = .config ∧ t.polling = none
          ∧ t.font = s.font ∧ t.ladder = s.ladder ∧ t.chip = s.chip ∧ t.slotIn = s.slotIn ∧ t.slotOut = s.slotOut
          ∧ t.cancelQueue = [] ∧ t.issueCounter = s.issueCounter ∧ t.engine = s.engine
          ∧ t.frameQueue = s.frameQueue.map (fun f => { f with stale := true })
          ∧ (∀ e, t.panel e = if (s.panel e).enabled = true then { s.panel e with outbox := [] } else s.panel e)
          ∧ ((∀ r, (s.room r).port.calibration = none) → t.reports = s.reports ∧ ∀ r, (t.room r).stack =
              if s.chip.clearReports then {} else { (s.room r).stack with songEnd := none })
          ∧ ∀ r, (t.room r).ctx =
              { state := .off, epoch := (s.room r).ctx.epoch + 1, assign1 := (s.room r).params.micAssign1,
                assign2 := (s.room r).params.micAssign2 }
            ∧ (t.room r).params = (s.room r).params ∧ (t.room r).latch = none
            ∧ (t.room r).port = { (s.room r).port with
                queue := [], pendingEnd := false, markState := .none, inUnderrun := false, calibration := none
                audioDiscarded := (s.room r).port.audioDiscarded + BitVec.ofNat 32 (s.room r).port.queue.length }
            ∧ (t.room r).requests = [] ∧ (t.room r).ticketCounter = 0
            ∧ (t.room r).overlay = (s.room r).overlay ∧ (t.room r).videoOut = (s.room r).videoOut
            ∧ (t.room r).requestCounters = (s.room r).requestCounters
            ∧ (∀ m, (t.room r).mic m = { (s.room r).mic m with
                lane := {}
                assembler := { assembling := false, samples := [], consumed := 0
                               dropped := ((s.room r).mic m).assembler.dropped } })
            ∧ ∀ b, (t.room r).bank b =
                if ((s.room r).bank b).state = .filling ∨ ((s.room r).bank b).state = .closed then
                  { state := .clearing, songId := ((s.room r).bank b).songId }
                else (s.room r).bank b)

/-! ### The upstream link (R157, R179, R180) -/

/-- R180: when the upstream link becomes free, the head of the reply queue goes first, in every chip mode; with no reply
the link stays idle in chip mode STOP, and when nothing waits. R157: else, outside chip mode STOP, the oldest CANCEL item
is sent, and its entry's sent time is now; with none, one WAITING entry is sent as an ADD and becomes SENT: of the
lowest-numbered room with REQUEST_ORDER ROOM_RANK, and with ARRIVAL the one whose issue number is older than that of every
other room's oldest WAITING entry. A link that is idle at the end of an event that may have made a cell available takes a
cell as if it had just become free, and a busy one goes on with its cell (R180, log 11). -/
def Obligations.CellsAreSentByTheirClass : Prop :=
  (∀ s : State,
    (s.upstream = none → exec .cellSent s = .next s.sendIfIdle) ∧ (s.upstream ≠ none → s.sendIfIdle = s))
  ∧ (∀ s : State,
    (∀ reply rest, s.replies = reply :: rest → exec .cellSent s = .next
      { s with
        replies := rest
        upstream := some (.reply reply)
        link := { s.link with repliesSent := s.link.repliesSent + 1 } })
    ∧ (s.replies = [] → s.mode = .stop → exec .cellSent s = .next { s with upstream := none })
    ∧ (s.replies = [] → s.cancelQueue = [] → (∀ r, ∀ e ∈ (s.room r).requests, e.state ≠ .waiting) →
        s.reports = [] → exec .cellSent s = .next { s with upstream := none }))
  ∧ ∀ s : State, s.replies = [] → s.mode ≠ .stop →
    (∀ i rest, s.cancelQueue = i :: rest → exec .cellSent s = .next
      { s.updRoom i.room (fun rm => { rm with
          requests := rm.requests.map fun e => if e.ticket = i.ticket then { e with sentTime := some s.venueTime } else e }) with
        cancelQueue := rest
        upstream := some (.cancel i.room i.ticket)
        link := { s.link with requestCellsSent := s.link.requestCellsSent + 1 } })
    ∧ (s.cancelQueue = [] → ∀ r e, (s.room r).requests.find? (fun x => x.state == .waiting) = some e →
        (s.chip.requestOrder = .roomRank ∧ (∀ k, k < r → ∀ x ∈ (s.room k).requests, x.state ≠ .waiting)
          ∨ s.chip.requestOrder = .arrival ∧ ∀ k x, k ≠ r →
              (s.room k).requests.find? (fun x => x.state == .waiting) = some x →
              e.issue ≠ x.issue ∧ (x.issue - e.issue).toNat < 2147483648) →
        exec .cellSent s = .next
          { s.updRoom r (fun rm => { rm with
              requests := rm.requests.map fun x =>
                if x.ticket = e.ticket then { x with state := .sent, sentTime := some s.venueTime } else x }) with
            upstream := some (.add r e.ticket e.issue e.song e.keyShift e.singerTag (s.panel e.source).address
              e.issueTime)
            link := { s.link with requestCellsSent := s.link.requestCellsSent + 1 } })

/-- R179, R180: with no reply and no request cell waiting, outside chip mode STOP, the head report is sent, and the place it
frees goes to the first owner after the one last served, in the cyclic order room 0 to room 3, chip, whose stack is not
empty: a room gives up its first occupied slot (LINE_SCORE, SONG_END, BANK_FREE, CAL_DONE, QUEUE_MARK), and leaves ENDING when
that is its SONG_END (R18); the chip gives up its lowest-numbered PANEL_STATE. With every stack empty the place stays
free. A room leaves ENDING without a current bank, for CUED with its queue and the mark test where it holds a cue, and else
for IDLE with its queue emptied (R8); a frame latch of a bank that is not the cued one is dropped (R78). -/
def Obligations.FreedPlacesGoToTheStacks : Prop :=
  (∀ (s : State) (rep : Report) (rest : List Report), s.replies = [] → s.mode ≠ .stop → s.cancelQueue = [] →
     (∀ r, ∀ e ∈ (s.room r).requests, e.state ≠ .waiting) → s.reports = rep :: rest →
     let sent : State :=
       { s with
         reports := rest
         upstream := some (.report rep)
         link := { s.link with reportsSent := s.link.reportsSent + 1 } }
     let owner (n : Nat) : Owner := [Owner.room 0, .room 1, .room 2, .room 3, .chip].getD (n % 5) .chip
     let last : Nat := match s.lastServed with
       | .room r => r.val
       | .chip => 4
     ((∀ o, s.stackEmpty o = true) → exec .cellSent s = .next sent)
     ∧ ∀ n, n < 5 → (∀ k, k < n → s.stackEmpty (owner (last + 1 + k)) = true) →
       (∀ r, owner (last + 1 + n) = .room r → ∀ first k, (s.room r).stack.takeFirst = some (first, k) →
         let given : State :=
           { sent.updRoom r (fun rm => { rm with stack := k }) with reports := rest ++ [first], lastServed := .room r }
         exec .cellSent s = .next (
           if first.body.fields.1 = 2 ∧ (s.room r).ctx.state = .ending then leaveEnding r given else given))
       ∧ (owner (last + 1 + n) = .chip → ∀ e first, s.chipStack.get e = some first →
           (∀ k, k < e → s.chipStack.get k = none) →
           exec .cellSent s = .next
             { sent with reports := rest ++ [first], chipStack := s.chipStack.set e none, lastServed := .chip }))
  ∧ (∀ (r : RoomId) (s : State),
    let rm := s.room r
    let left (st : RoomState) : Room := { rm with
      ctx := { rm.ctx with state := st, currentBank := none }
      latch := rm.latch.filter fun l => l.bank = none ∨ l.bank = rm.ctx.cuedBank }
    leaveEnding r s =
      if rm.ctx.cuedBank = none then s.setRoom r { left .idle with port := { rm.port with
        queue := [], pendingEnd := false, markState := .none
        audioDiscarded := rm.port.audioDiscarded + BitVec.ofNat 32 rm.port.queue.length } }
      else markTest r (s.setRoom r (left .cued)))
  ∧ ∀ k : RoomStack,
    (k.isEmpty = true → k.takeFirst = none)
    ∧ (∀ x, k.lineScore = some x → k.takeFirst = some (x, { k with lineScore := none }))
    ∧ (∀ x, k.lineScore = none → k.songEnd = some x → k.takeFirst = some (x, { k with songEnd := none }))
    ∧ (∀ x, k.lineScore = none → k.songEnd = none → k.bankFree = some x →
        k.takeFirst = some (x, { k with bankFree := none }))
    ∧ (∀ x, k.lineScore = none → k.songEnd = none → k.bankFree = none → k.calDone = some x →
        k.takeFirst = some (x, { k with calDone := none }))
    ∧ (∀ x, k.lineScore = none → k.songEnd = none → k.bankFree = none → k.calDone = none → k.queueMark = some x →
        k.takeFirst = some (x, { k with queueMark := none }))

/-! ### Invariants that every step keeps -/

/-- Every step keeps every queue within its capacity and the report queue full while any stack holds a report (R94, R111,
R149, R153, R171, R177). -/
def Obligations.StepKeepsTheCapacities : Prop :=
  ∀ s t : State, s.CapacityLaw → step s = .next t → t.CapacityLaw

/-- Every step keeps every room in agreement with its room state and the chip mode: a calibration in flight exactly in
CALIBRATING, a stacked SONG_END exactly in ENDING, an empty backing queue outside the four states of a cue or song, a
current bank exactly in a song or its ending, a loaded and distinct cued and current bank, assemblers that collect only in
a song, and a report stack each slot of which is empty or holds a report of the slot's own kind that names the room. Every
bank keeps R31's laws: its frontiers within the declared counts and all it holds gone while EMPTY or CLEARING, starts
non-decreasing, no two guide notes of a part overlapping, lines over loaded syllables (R29, R32). A cued bank has a line
loaded (R40); in a song the current line is below the line frontier (R54) and no cursor beyond the guide frontier. (R3, R7,
R8, R18, R35, R101, R107, R108, R177, R178.) -/
def Obligations.StepKeepsTheRoomLaw : Prop :=
  ∀ s t : State, s.RoomLaw → step s = .next t → t.RoomLaw

/-- R133: every step keeps, in the song and line accumulators of every microphone, S the sum of the grade counts, P between
0 and 4 times S, S at most 65535, and the set frozen exactly at 65535. -/
def Obligations.StepKeepsTheScoreLaw : Prop :=
  ∀ s t : State, s.ScoreLaw → step s = .next t → t.ScoreLaw

/-- Every step, from a state whose rooms are lawful, keeps every request list lawful: at most 12 entries with distinct
tickets of 1 to 255, CUED exactly for the cued ticket and PLAYING exactly for the ticket of the song in progress, and
every cancel item naming a CANCELLING entry with no sent time, none of them twice (R153, R156, R164). -/
def Obligations.StepKeepsTheRequestLaw : Prop :=
  ∀ s t : State, s.RoomLaw → s.RequestLaw → step s = .next t → t.RequestLaw

/-- Every step keeps the Glyph Table, the poll table and the slot map lawful: the font header and every glyph record stay
in range, the codes ascend, at most 4096 records and 2,097,152 coverage values are loaded and none while CLEARING, last code
and coverage used are those of the records (R43, R44); no two enabled entries share an address, no two slots of a direction a
target, miss counts and outboxes stay in range, and only an enabled entry is polled, in RUN mode (R91, R140, R142, R145,
R149). -/
def Obligations.StepKeepsTheTableLaw : Prop :=
  ∀ s t : State, s.TableLaw → step s = .next t → t.TableLaw

/-- Every step leaves no cell beside an idle link: while the link is idle the reply queue is empty, and outside chip mode
STOP no CANCEL item, no WAITING entry and no report waits either (R157, R180). -/
def Obligations.StepLeavesNoCellBesideAnIdleLink : Prop :=
  ∀ s t : State, s.LinkLaw → step s = .next t → t.LinkLaw

/-- The state after pin reset meets the six laws that every step keeps. -/
def Obligations.ResetMeetsTheLaws : Prop :=
  State.reset.CapacityLaw ∧ State.reset.RoomLaw ∧ State.reset.ScoreLaw ∧ State.reset.RequestLaw
    ∧ State.reset.TableLaw ∧ State.reset.LinkLaw

/-! ### The overlay (chapter 5) -/

/-- R74: VIDEO outside chip mode STOP. A line above 1079 or with more than 1920 pixels is counted in VIDEO_DISCARDED and
changes nothing else. Every other line takes the frame latch first where its frame-start flag is set (R75, R88), and is
sent on the room's port with its number, flag and pixel count. Its pixels pass as they arrived, latch and counters
unchanged, in CONFIG mode, without a valid latch, under a latch without a bank, once the latched bank has gone to CLEARING
or holds no song, and outside the band rows (R77, R78, R84); outside the band columns they pass on every line. -/
def Obligations.VideoLinesPassOutsideTheBand : Prop :=
  ∀ (r : RoomId) (line : Nat) (frameStart : Bool) (pixels : List Rgb) (s : State), s.mode ≠ .stop →
    let rm := s.room r
    let taken := rm.frameLatch s.mode s.font
    let inForce : Room := if frameStart then
        { rm with
          latch := some taken
          overlay := { rm.overlay with
            frameStarts := rm.overlay.frameStarts + 1
            overlayFrames := rm.overlay.overlayFrames + (if taken.cls = .pass then 0 else 1) } }
      else rm
    let sent (x : Room) (out : List Rgb) : State :=
      s.countIn.setRoom r { x with videoOut := some ⟨line, frameStart, out⟩ }
    (1079 < line ∨ 1920 < pixels.length →
      exec (.video r line frameStart pixels) s = .next (s.countIn.setRoom r { rm with
        overlay := { rm.overlay with videoDiscarded := rm.overlay.videoDiscarded + 1 } }))
    ∧ (line ≤ 1079 → pixels.length ≤ 1920 →
      (s.mode = .config ∨ inForce.latch = none → exec (.video r line frameStart pixels) s = .next (sent inForce pixels))
      ∧ (∀ l, inForce.latch = some l →
          l.bank = none ∨ l.bandOff = true ∨ line < l.bandY ∨ l.bandY + l.rows * l.pitch ≤ line
            ∨ (∃ b, l.bank = some b ∧ ((rm.bank b).state = .empty ∨ (rm.bank b).state = .clearing)) →
          exec (.video r line frameStart pixels) s = .next (sent inForce pixels))
      ∧ ∃ latch overlay out,
          exec (.video r line frameStart pixels) s = .next (sent { inForce with latch := latch, overlay := overlay } out)
          ∧ out.length = pixels.length
          ∧ ∀ l, inForce.latch = some l → ∀ x, x < l.bandX ∨ l.bandX + l.bandW ≤ x → out[x]? = pixels[x]?)

/-- R67, R75, R77, R88: an accepted line with the frame-start flag takes the frame latch: its class by chip mode and room
state, its bank, clock, current line, residual and geometry as they stand, counted in FRAME_STARTS and, unless it is a
PASS, in OVERLAY_FRAMES. (The values kept for a PASS frame, which nothing reads, are the model's choice, log 26.) -/
def Obligations.FrameStartTakesTheLatch : Prop :=
  ∀ (r : RoomId) (line : Nat) (pixels : List Rgb) (s : State), s.mode ≠ .stop → line ≤ 1079 → pixels.length ≤ 1920 →
    ∃ t l, exec (.video r line true pixels) s = .next t ∧ (t.room r).latch = some l
      ∧ l.mode = s.mode ∧ l.roomState = (s.room r).ctx.state ∧ l.bandOff = false
      ∧ l.clock = (s.room r).ctx.position / 64 ∧ l.pitch = s.font.height + (s.room r).params.rowGap
      ∧ l.bandX = (s.room r).params.bandX ∧ l.bandW = (s.room r).params.bandW ∧ l.bandY = (s.room r).params.bandY
      ∧ l.rows = (s.room r).params.rows ∧ l.lineOverflow = (s.room r).params.lineOverflow
      ∧ l.palette = (s.room r).params.palette ∧ l.height = s.font.height ∧ l.spaceAdvance = s.font.spaceAdvance
      ∧ l.missingAdvance = s.font.missingAdvance ∧ l.glyphCount = s.font.glyphs.length
      ∧ (t.room r).overlay.frameStarts = (s.room r).overlay.frameStarts + 1
      ∧ (s.mode = .run → (s.room r).ctx.singing = true →
          l.cls = .overlay ∧ l.bank = (s.room r).ctx.currentBank
            ∧ (∀ b, l.bank = some b → l.lineFrontier = ((s.room r).bank b).lines.length)
            ∧ l.current = (s.room r).ctx.lyric.current ∧ l.finished = (s.room r).ctx.lyric.finished
            ∧ l.residual = residualOf l.pitch l.clock (s.room r).ctx.lyric.scrollStart (s.room r).ctx.lyric.scrollLength
            ∧ (t.room r).overlay.overlayFrames = (s.room r).overlay.overlayFrames + 1)
      ∧ (s.mode = .run → (s.room r).ctx.state = .cued →
          l.cls = .preview ∧ l.bank = (s.room r).ctx.cuedBank
            ∧ (∀ b, l.bank = some b → l.lineFrontier = ((s.room r).bank b).lines.length)
            ∧ l.current = 0 ∧ l.finished = false ∧ l.residual = 0
            ∧ (t.room r).overlay.overlayFrames = (s.room r).overlay.overlayFrames + 1)
      ∧ (s.mode = .config ∨ (s.room r).ctx.state = .off ∨ (s.room r).ctx.state = .idle
          ∨ (s.room r).ctx.state = .calibrating ∨ (s.room r).ctx.state = .ending →
          l.cls = .pass ∧ l.bank = none ∧ (t.room r).overlay.overlayFrames = (s.room r).overlay.overlayFrames)

/-- R68, R70, R78, R84, R86, R88: in RUN mode, on a line within the band rows under a latch whose bank is FILLING or CLOSED,
the lyric line drawn is the one whose Hf glyph rows the video line meets: of the lines c to c + ROWS - 1, and c - 1 while
the residual is above 0, below the latched line frontier and with FINISHED clear, each with its top at BAND_Y + (i - c) *
pitch + residual. Within the band columns its drawn glyphs are blended in order onto each pixel, in the sung colour of the
line's part left of the syllable's fill and else in the unsung one, and the first time in a frame that a line is met its
missing glyphs and its overflow are counted. With no such line the pixels pass and nothing is counted. -/
def Obligations.LyricLinesAreDrawn : Prop :=
  ∀ (r : RoomId) (line : Nat) (frameStart : Bool) (pixels : List Rgb) (l : FrameLatch) (b : BankId) (s : State),
    let rm := s.room r
    let taken := rm.frameLatch s.mode s.font
    let inForce : Room := if frameStart then
        { rm with
          latch := some taken
          overlay := { rm.overlay with
            frameStarts := rm.overlay.frameStarts + 1
            overlayFrames := rm.overlay.overlayFrames + (if taken.cls = .pass then 0 else 1) } }
      else rm
    let sent (x : Room) (out : List Rgb) : State :=
      s.countIn.setRoom r { x with videoOut := some ⟨line, frameStart, out⟩ }
    let bank := rm.bank b
    let top (i : Nat) : Int := (l.bandY : Int) + ((i : Int) - l.current) * l.pitch + l.residual
    let drawn (i : Nat) : Prop := l.finished = false ∧ i < l.lineFrontier
      ∧ (l.current ≤ i ∧ i < l.current + l.rows ∨ i + 1 = l.current ∧ 0 < l.residual)
    let met (i : Nat) : Prop := top i ≤ line ∧ (line : Int) < top i + l.height
    s.mode = .run → line ≤ 1079 → pixels.length ≤ 1920 → inForce.latch = some l → l.bank = some b →
    l.bandOff = false → bank.state = .filling ∨ bank.state = .closed → l.pitch = l.height + l.rowGap →
    l.bandY ≤ line → line < l.bandY + l.rows * l.pitch →
    ((∀ i, drawn i → ¬ met i) → exec (.video r line frameStart pixels) s = .next (sent inForce pixels))
    ∧ ∀ i record, drawn i → met i → bank.lines[i]? = some record →
      let glyphs := s.font.glyphs.take l.glyphCount
      let syllables := (bank.syllables.drop record.firstSyllable).take record.syllableCount
      let row := (line - top i).toNat
      let coverage (g : Placed) (x : Nat) : Nat := match g.bitmap with
        | none => 0
        | some values => if g.x ≤ x ∧ x < g.x + g.width then values.getD (row * g.width + (x - g.x)) 0 else 0
      let sung : Rgb := match record.part with
        | .a => l.palette.aSung
        | .b => l.palette.bSung
        | .both => l.palette.bothSung
      let unsung : Rgb := match record.part with
        | .a => l.palette.aUnsung
        | .b => l.palette.bUnsung
        | .both => l.palette.bothUnsung
      let pixel (x : Nat) (p : Rgb) : Rgb := if l.bandX ≤ x ∧ x < l.bandX + l.bandW then
          (drawnGlyphs l glyphs syllables).foldl
            (fun bg g => blend (coverage g x) (if x < g.syllableX + g.fill then sung else unsung) bg) p
        else p
      let missing := ((syllables.flatMap Syllable.codes).filter fun c =>
        decide (c = 0) || glyphs.all fun g => g.code != c).length
      exec (.video r line frameStart pixels) s = .next (sent
        (if i ∈ l.laidOut then inForce else { inForce with
          latch := some { l with laidOut := l.laidOut ++ [i] }
          overlay := { inForce.overlay with
            missingGlyph := inForce.overlay.missingGlyph + BitVec.ofNat 32 missing
            overflowLines := inForce.overlay.overflowLines
              + (if l.bandW < lineWidth l glyphs syllables then 1 else 0) } })
        (pixels.mapIdx pixel))

/-- R51, R52, R81, R82, R83: the layout of a lyric line of syllables. Each code stands at the pen position that the codes and
spaces before it have reached, with the width and bitmap of its record, or the missing advance and no bitmap where the
code is 0 or no record has it, and with its syllable's position and fill. A line that fits is centred with any odd pixel
on its right; one that overflows begins at the band's left edge, and in CLIP mode the first glyph that reaches past the
band's right edge is left out with every glyph after it, while in DROP mode nothing of the line is drawn. -/
def Obligations.LyricLinesAreLaidOut : Prop :=
  ∀ (l : FrameLatch) (glyphs : List Glyph) (syllables : List Syllable),
    let found (code : Nat) : Option Glyph := if code = 0 then none else glyphs.find? fun g => g.code == code
    let advance (code : Nat) : Nat := match found code with
      | some g => g.advance
      | none => l.missingAdvance
    let width (code : Nat) : Nat := match found code with
      | some g => g.width
      | none => l.missingAdvance
    let moved (x : Syllable) : Nat := (x.codes.map advance).sum + if x.trailingSpace then l.spaceAdvance else 0
    let total := (syllables.map moved).sum
    let left := if l.bandW < total then l.bandX else l.bandX + (l.bandW - total) / 2
    lineWidth l glyphs syllables = total
    ∧ ∃ placed : List Placed,
      placed.length = (syllables.flatMap Syllable.codes).length
      ∧ (∀ before x rest codes c later, syllables = before ++ x :: rest → x.codes = codes ++ c :: later →
          let begin_ := left + (before.map moved).sum
          placed[(before.flatMap Syllable.codes).length + codes.length]? = some
            { x := begin_ + (codes.map advance).sum, width := width c, bitmap := (found c).map Glyph.bitmap,
              syllableX := begin_, fill := fillOf l x.start x.duration (x.codes.map advance).sum })
      ∧ (total ≤ l.bandW → drawnGlyphs l glyphs syllables = placed)
      ∧ (l.bandW < total → l.lineOverflow = .drop → drawnGlyphs l glyphs syllables = [])
      ∧ (l.bandW < total → l.lineOverflow = .clip → ∃ n, drawnGlyphs l glyphs syllables = placed.take n
          ∧ (∀ g ∈ placed.take n, g.x + g.width ≤ l.bandX + l.bandW)
          ∧ ∀ g, placed[n]? = some g → l.bandX + l.bandW < g.x + g.width)

/-- R87: the blend of every coverage value 0 to 15 on each channel, which never wraps; coverage 0 keeps the background and
coverage 15 gives the foreground. R85: the fill of a syllable of width `w` is 0 before its start and in a PREVIEW frame, `w`
from its end on, proportional between, and never above `w`. The residual of R67: the whole pitch at a scroll's start,
pitch - floor(pitch * (t - s) / L) until its end, 0 from then on, and never above the pitch. -/
def Obligations.BlendFillAndResidual : Prop :=
  (∀ (a : Nat) (fg bg : Rgb), a ≤ 15 →
    (blend a fg bg).red.toNat = (fg.red.toNat * a + bg.red.toNat * (15 - a) + 7) / 15
    ∧ (blend a fg bg).green.toNat = (fg.green.toNat * a + bg.green.toNat * (15 - a) + 7) / 15
    ∧ (blend a fg bg).blue.toNat = (fg.blue.toNat * a + bg.blue.toNat * (15 - a) + 7) / 15
    ∧ blend 0 fg bg = bg ∧ blend 15 fg bg = fg)
  ∧ (∀ (l : FrameLatch) (start duration w : Nat),
    fillOf l start duration w ≤ w
    ∧ (l.cls = .preview → fillOf l start duration w = 0)
    ∧ (l.cls = .overlay → l.clock < start → fillOf l start duration w = 0)
    ∧ (l.cls = .overlay → start ≤ l.clock → l.clock < start + duration →
        fillOf l start duration w = w * (l.clock - start) / duration)
    ∧ (l.cls = .overlay → start ≤ l.clock → start + duration ≤ l.clock → fillOf l start duration w = w))
  ∧ ∀ pitch t start len : Nat, start ≤ t →
    residualOf pitch t start len ≤ pitch
    ∧ (1 ≤ len → residualOf pitch start start len = pitch)
    ∧ (t < start + len → residualOf pitch t start len = pitch - pitch * (t - start) / len)
    ∧ (start + len ≤ t → residualOf pitch t start len = 0)

/-! ### Reports (R98, R177, R178) -/

/-- R177, R178, R182: a raised report enters the tail of the report queue, with the venue time and lost count 0, when the
queue holds fewer than 16 reports and its owner's stack is empty. Otherwise its owner counts one in REPORTS_STACKED and it
meets the slot of its kind, and nothing else changes: a LINE_SCORE, QUEUE_MARK or PANEL_STATE takes it, or replaces the
stacked one with its lost count plus 1, counted in REPORTS_REPLACED; a BANK_FREE takes it, or merges into the stacked one
(R41), whose raise time stays and which counts no replacement (the model's reading, log 15); a SONG_END or CAL_DONE takes
it (of an occupied slot, which no run meets, the model's choice is log 16). -/
def Obligations.RaisedReportsEnterOrStack : Prop :=
  ∀ (body : ReportBody) (s : State),
    let added (c : Vector Counter 5) (o : Fin 5) : Vector Counter 5 := c.set o (c.get o + 1)
    let counted (o : Fin 5) (replaced : Bool) : LinkCounters :=
      { s.link with
        reportsStacked := added s.link.reportsStacked o
        reportsReplaced := if replaced then added s.link.reportsReplaced o else s.link.reportsReplaced }
    let stacked (r : RoomId) (replaced : Bool) (k : RoomStack) : State :=
      { s.setRoom r { s.room r with stack := k } with link := counted r.castSucc replaced }
    let fresh : Report := ⟨body, s.venueTime, 0⟩
    let replacing (old : Option Report) : Report := match old with
      | none => fresh
      | some x => { fresh with lost := min (x.lost + 1) 65535 }
    (s.reports.length < 16 → s.stackEmpty body.owner = true → raise body s = { s with reports := s.reports ++ [fresh] })
    ∧ (16 ≤ s.reports.length ∨ s.stackEmpty body.owner = false →
      (∀ x, body = .lineScore x → let k := (s.room x.room).stack
        raise body s = stacked x.room k.lineScore.isSome { k with lineScore := some (replacing k.lineScore) })
      ∧ (∀ r mark fill, body = .queueMark r mark fill → let k := (s.room r).stack
        raise body s = stacked r k.queueMark.isSome { k with queueMark := some (replacing k.queueMark) })
      ∧ (∀ e address r present, body = .panelState e address r present → raise body s =
        { s with
          chipStack := s.chipStack.set e (some (replacing (s.chipStack.get e)))
          link := counted 4 (s.chipStack.get e).isSome })
      ∧ (∀ r b0 b1, body = .bankFree r b0 b1 → let k := (s.room r).stack
        (k.bankFree = none → raise body s = stacked r false { k with bankFree := some fresh })
        ∧ ∀ old q c0 c1, k.bankFree = some old → old.body = .bankFree q c0 c1 →
          raise body s = stacked r false { k with
            bankFree := some { old with body := .bankFree r (c0 || b0) (c1 || b1) } })
      ∧ (∀ x, body = .songEnd x →
        raise body s = stacked x.room false { (s.room x.room).stack with songEnd := some fresh })
      ∧ ∀ r outcome j delay valid mic, body = .calDone r outcome j delay valid mic →
        raise body s = stacked r false { (s.room r).stack with calDone := some fresh })

/-- R98: the mark test, in a room that is CUED, PLAYING or HELD: a fill below LOW_MARK raises LOW unless LOW was the last
mark, else a fill above HIGH_MARK raises HIGH unless HIGH was, and the mark state follows; elsewhere nothing happens. -/
def Obligations.MarkTestRaisesOnce : Prop :=
  ∀ (r : RoomId) (s : State),
    let rm := s.room r
    let tested : Prop := rm.ctx.state = .cued ∨ rm.ctx.state = .playing ∨ rm.ctx.state = .held
    let marked (m : MarkState) : State := s.setRoom r { rm with port := { rm.port with markState := m } }
    (¬ tested → markTest r s = s)
    ∧ (tested → rm.port.queue.length < rm.params.lowMark → rm.port.markState ≠ .low →
        markTest r s = raise (.queueMark r .low rm.port.queue.length) (marked .low))
    ∧ (tested → ¬(rm.port.queue.length < rm.params.lowMark ∧ rm.port.markState ≠ .low) →
        rm.params.highMark < rm.port.queue.length → rm.port.markState ≠ .high →
        markTest r s = raise (.queueMark r .high rm.port.queue.length) (marked .high))
    ∧ (tested → ¬(rm.port.queue.length < rm.params.lowMark ∧ rm.port.markState ≠ .low) →
        ¬(rm.params.highMark < rm.port.queue.length ∧ rm.port.markState ≠ .high) → markTest r s = s)

/-! ### The backing queue (R95, R96) -/

/-- R95, R96: AUDIO outside chip mode STOP. A cell of more than 256 samples is counted in AUDIO_BAD_CELLS; while DRAINING
is set, or in OFF, IDLE and CALIBRATING, its samples are discarded and counted; in CUED, PLAYING, HELD and ENDING they
join the queue up to 8192, the others counting in OVERRUN, the END flag marks the tail sample or sets pending END on an
empty queue, the mark test runs, and an idle link takes the report it may have raised (R180, log 11). -/
def Obligations.AudioCellsAreQueued : Prop :=
  ∀ (r : RoomId) (endFlag : Bool) (xs : List Stereo) (s : State), s.mode ≠ .stop →
    let rm := s.room r
    let discarded : Port := { rm.port with audioDiscarded := rm.port.audioDiscarded + BitVec.ofNat 32 xs.length }
    let quiet : Prop := rm.ctx.state = .off ∨ rm.ctx.state = .idle ∨ rm.ctx.state = .calibrating
    (256 < xs.length → exec (.audio r endFlag xs) s = .next (s.countIn.setRoom r
      { rm with port := { rm.port with audioBadCells := rm.port.audioBadCells + 1 } }))
    ∧ (xs.length ≤ 256 → rm.ctx.draining = true → exec (.audio r endFlag xs) s = .next (s.countIn.setRoom r
        { rm with port := discarded, ctx := { rm.ctx with draining := !endFlag } }))
    ∧ (xs.length ≤ 256 → rm.ctx.draining = false → quiet →
        exec (.audio r endFlag xs) s = .next (s.countIn.setRoom r { rm with port := discarded }))
    ∧ (xs.length ≤ 256 → rm.ctx.draining = false → ¬ quiet → ∃ q p,
        exec (.audio r endFlag xs) s = .next (State.sendIfIdle (markTest r (s.countIn.setRoom r { rm with
          port := { rm.port with
            queue := q, pendingEnd := p
            overrun := rm.port.overrun + BitVec.ofNat 32 (xs.length - (8192 - rm.port.queue.length)) } })))
        ∧ (endFlag = false → p = rm.port.pendingEnd
            ∧ q = rm.port.queue ++ (xs.take (8192 - rm.port.queue.length)).map fun x => ⟨x.left, x.right, false⟩)
        ∧ (endFlag = true → rm.port.queue = [] → xs = [] → p = true ∧ q = [])
        ∧ (endFlag = true → ∀ front x,
            rm.port.queue ++ ((xs.take (8192 - rm.port.queue.length)).map fun x => ⟨x.left, x.right, false⟩)
              = front ++ [x] →
            p = rm.port.pendingEnd ∧ q = front ++ [{ x with endMark := true }]))

/-! ### Loading a bank (chapter 2) -/

/-- R26: BANK_OPEN. -/
def Obligations.BankOpenChecksAndOpens : Prop :=
  ∀ (r : RoomId) (tag songId lines syllables notes : Nat) (s : State), s.takes →
    (∀ bank, 2 ≤ bank → exec (.bankOpen r tag bank songId lines syllables notes) s
      = .next (s.replied r.val tag 25 .range))
    ∧ ∀ b : BankId, exec (.bankOpen r tag b.val songId lines syllables notes) s = .next (
      if ((s.room r).bank b).state = .clearing then s.replied r.val tag 25 .busy
      else if ((s.room r).bank b).state = .filling ∨ ((s.room r).bank b).state = .closed then
        s.replied r.val tag 25 .notEmpty
      else if lines < 1 ∨ 512 < lines ∨ syllables < 1 ∨ 8192 < syllables ∨ 4096 < notes ∨ syllables < lines then
        s.replied r.val tag 25 .range
      else (s.updRoom r fun rm => rm.updBank b fun _ =>
        { state := .filling, songId := songId, declaredLines := lines, declaredSyllables := syllables,
          declaredNotes := notes, lines := [], syllables := [], guide := [], lastSyllableStart := none,
          lastGuideStart := none, lastEndA := 0, lastEndB := 0, lastLineSeen := false }).replied r.val tag 25 .ok)

/-- R27 for the three sections of a bank: the checks in their order with their reply data, and the effect of an append that
is taken: the records join one after another, each checked against the bank as those before it leave it, or the cell is
refused whole at the first that fails. A LINES append of at least one record to the current bank of a PLAYING or HELD
room runs the line test at the standing song clock (R31). -/
def Obligations.AppendsAreTakenWholeOrRefused : Prop :=
  AppendsLikeR27 (fun r tag bank first xs => .appendLines r tag bank first xs) 1 takeLine
      (fun b => b.lines.length) Bank.declaredLines
      (fun r b xs s => if 1 ≤ xs.length ∧ (s.room r).ctx.currentBank = some b ∧ (s.room r).ctx.singing = true then
        lineTest r ((s.room r).ctx.position / 64) s else s)
  ∧ AppendsLikeR27 (fun r tag bank first xs => .appendSyllables r tag bank first xs) 2 takeSyllable
      (fun b => b.syllables.length) Bank.declaredSyllables (fun _ _ _ s => s)
  ∧ AppendsLikeR27 (fun r tag bank first xs => .appendGuide r tag bank first xs) 3 takeGuide
      (fun b => b.guide.length) Bank.declaredNotes (fun _ _ _ s => s)

/-- R28, R29, R30: the checks of a syllable record, of a line record and of a guide note, and the bank with it. A line's
start is its first syllable's, and its end is the greatest start plus duration among its syllables (R23). -/
def Obligations.BankRecordChecks : Prop :=
  (∀ (b : Bank) (x : SyllableRec),
    ((takeSyllable b x).isSome = true ↔
      (∀ last, b.lastSyllableStart = some last → last ≤ x.start) ∧ 1 ≤ x.duration ∧ 1 ≤ x.glyphCount ∧ x.glyphCount ≤ 8)
    ∧ ∀ b', takeSyllable b x = some b' → b' = { b with
        syllables := b.syllables ++ [⟨x.start, x.duration, x.codes.take x.glyphCount, x.trailingSpace⟩]
        lastSyllableStart := some x.start })
  ∧ (∀ (b : Bank) (x : LineRec),
    let expected := match b.lines.getLast? with
      | none => 0
      | some before => before.firstSyllable + before.syllableCount
    let covered := (b.syllables.drop x.firstSyllable).take x.syllableCount
    ((takeLine b x).isSome = true ↔
      1 ≤ x.syllableCount ∧ x.syllableCount ≤ 64 ∧ x.firstSyllable = expected
        ∧ x.firstSyllable + x.syllableCount ≤ b.syllables.length ∧ b.lastLineSeen = false
        ∧ (x.last = true ↔ b.lines.length + 1 = b.declaredLines) ∧ x.part ≤ 2)
    ∧ ∀ b', takeLine b x = some b' → ∃ line, b' = { b with lines := b.lines ++ [line], lastLineSeen := x.last }
        ∧ line.firstSyllable = x.firstSyllable ∧ line.syllableCount = x.syllableCount ∧ line.last = x.last
        ∧ (x.part = 0 → line.part = .a) ∧ (x.part = 1 → line.part = .b) ∧ (x.part = 2 → line.part = .both)
        ∧ (∀ y, covered.head? = some y → line.start = y.start)
        ∧ (∀ y ∈ covered, y.start + y.duration ≤ line.finish)
        ∧ ∃ y ∈ covered, y.start + y.duration = line.finish)
  ∧ ∀ (b : Bank) (x : GuideRec),
    ((takeGuide b x).isSome = true ↔
      (∀ last, b.lastGuideStart = some last → last ≤ x.start) ∧ 1 ≤ x.duration ∧ 43 ≤ x.note ∧ x.note ≤ 84
        ∧ x.part ≤ 2 ∧ (x.part ≠ 1 → b.lastEndA ≤ x.start) ∧ (x.part ≠ 0 → b.lastEndB ≤ x.start))
    ∧ ∀ b', takeGuide b x = some b' → ∃ part, b' = { b with
          guide := b.guide ++ [⟨x.start, x.duration, x.note, part⟩]
          lastGuideStart := some x.start
          lastEndA := if x.part = 1 then b.lastEndA else x.start + x.duration
          lastEndB := if x.part = 0 then b.lastEndB else x.start + x.duration }
        ∧ (x.part = 0 → part = .a) ∧ (x.part = 1 → part = .b) ∧ (x.part = 2 → part = .both)

/-- R34 and R35: BANK_CLOSE and BANK_CLEAR. A clearing keeps the song id alone; the clearing of the cued bank withdraws the
cue, whose entry goes back to ACCEPTED, and a CUED room goes to IDLE with its preroll discarded. R78: a frame latch of the
cleared bank draws no lyric line from then on, and with the cue withdrawn it is dropped unless its bank is current. -/
def Obligations.BankCloseAndClear : Prop :=
  ∀ (r : RoomId) (tag : Nat) (s : State), s.takes →
    (∀ bank, 2 ≤ bank → exec (.bankClose r tag bank) s = .next (s.replied r.val tag 26 .range)
      ∧ exec (.bankClear r tag bank) s = .next (s.replied r.val tag 27 .range))
    ∧ ∀ b : BankId,
      let bank := (s.room r).bank b
      let data := beBytes 2 bank.lines.length ++ beBytes 2 bank.syllables.length ++ beBytes 2 bank.guide.length
      exec (.bankClose r tag b.val) s = .next (
        if bank.state ≠ .filling then s.replied r.val tag 26 .wrongState
        else if bank.lines.length = bank.declaredLines ∧ bank.syllables.length = bank.declaredSyllables
            ∧ bank.guide.length = bank.declaredNotes then
          (s.updRoom r fun rm => rm.updBank b fun x => { x with state := .closed }).replied r.val tag 26 .ok data
        else s.replied r.val tag 26 .countMismatch data)
      ∧ ((s.room r).ctx.currentBank = some b → (s.room r).ctx.singing = true →
          exec (.bankClear r tag b.val) s = .next (s.replied r.val tag 27 .inUse))
      ∧ (¬((s.room r).ctx.currentBank = some b ∧ (s.room r).ctx.singing = true) →
          bank.state = .empty ∨ bank.state = .clearing →
          exec (.bankClear r tag b.val) s = .next (s.replied r.val tag 27 .ok))
      ∧ (¬((s.room r).ctx.currentBank = some b ∧ (s.room r).ctx.singing = true) →
          bank.state = .filling ∨ bank.state = .closed →
          ∃ rm, exec (.bankClear r tag b.val) s = .next ((s.setRoom r rm).replied r.val tag 27 .ok)
            ∧ rm.bank b =
                { state := .clearing, songId := bank.songId, declaredLines := 0, declaredSyllables := 0,
                  declaredNotes := 0, lines := [], syllables := [], guide := [], lastSyllableStart := none,
                  lastGuideStart := none, lastEndA := 0, lastEndB := 0, lastLineSeen := false }
            ∧ (∀ c, c ≠ b → rm.bank c = (s.room r).bank c)
            ∧ rm.mic1 = (s.room r).mic1 ∧ rm.mic2 = (s.room r).mic2 ∧ rm.params = (s.room r).params
            ∧ rm.stack = (s.room r).stack ∧ rm.overlay = (s.room r).overlay ∧ rm.videoOut = (s.room r).videoOut
            ∧ rm.ticketCounter = (s.room r).ticketCounter ∧ rm.requestCounters = (s.room r).requestCounters
            ∧ rm.latch = ((s.room r).latch.filter fun l =>
                (s.room r).ctx.cuedBank ≠ some b ∨ l.bank = none ∨ l.bank = (s.room r).ctx.currentBank).map
                (fun l => if l.bank = some b then { l with bandOff := true } else l)
            ∧ ((s.room r).ctx.cuedBank ≠ some b → rm.ctx = (s.room r).ctx ∧ rm.port = (s.room r).port
                ∧ rm.requests = (s.room r).requests)
            ∧ ((s.room r).ctx.cuedBank = some b →
                rm.ctx = { (s.room r).ctx with
                  cuedBank := none, cuedTicket := none
                  state := if (s.room r).ctx.state = .cued then .idle else (s.room r).ctx.state }
                ∧ rm.requests = (s.room r).requests.map (fun e =>
                    if some e.ticket = (s.room r).ctx.cuedTicket then { e with state := .accepted } else e)
                ∧ ((s.room r).ctx.state = .cued → rm.port = { (s.room r).port with
                    queue := [], pendingEnd := false, markState := .none
                    audioDiscarded :=
                      (s.room r).port.audioDiscarded + BitVec.ofNat 32 (s.room r).port.queue.length })
                ∧ ((s.room r).ctx.state ≠ .cued → rm.port = (s.room r).port)))

/-- R46: FONT_CLEAR. R36, R38, R47: outside chip mode STOP, a clearing bank becomes EMPTY as after pin reset and BANK_FREE
naming it is raised, which an idle link takes at once (R180, log 11), and a clearing font becomes READY. An event of a bank
or font that is not clearing, or one held in standby, changes nothing (the model's choice, log 6). -/
def Obligations.FontClearAndTheClearings : Prop :=
  (∀ (tag height space missing : Nat) (s : State),
    (s.mode = .stop → exec (.fontClear tag height space missing) s
      = .next { s with link := { s.link with standbyDiscarded := s.link.standbyDiscarded + 1 } })
    ∧ (s.takes → exec (.fontClear tag height space missing) s = .next (
        if s.mode ≠ .config then s.replied 15 tag 5 .wrongMode
        else if s.font.clearing = true then s.replied 15 tag 5 .busy
        else if height < 16 ∨ 64 < height ∨ 80 < space ∨ 80 < missing then s.replied 15 tag 5 .range
        else ({ s with font := { clearing := true, height := height, spaceAdvance := space, missingAdvance := missing,
                                 glyphs := [], lastCode := none, coverageUsed := 0 } } : State).replied 15 tag 5 .ok)))
  ∧ ∀ (r : RoomId) (b : BankId) (s : State),
    (s.mode ≠ .stop → ((s.room r).bank b).state = .clearing →
      exec (.bankClearingComplete r b) s = .next (State.sendIfIdle (raise (.bankFree r (b == 0) (b == 1))
        (s.updRoom r fun rm => rm.updBank b fun _ =>
          { state := .empty, songId := 0, declaredLines := 0, declaredSyllables := 0, declaredNotes := 0, lines := [],
            syllables := [], guide := [], lastSyllableStart := none, lastGuideStart := none, lastEndA := 0,
            lastEndB := 0, lastLineSeen := false }))))
    ∧ (s.mode = .stop ∨ ((s.room r).bank b).state ≠ .clearing → exec (.bankClearingComplete r b) s = .next s)
    ∧ (s.mode ≠ .stop → s.font.clearing = true →
        exec .fontClearingComplete s = .next { s with font := { s.font with clearing := false } })
    ∧ (s.mode = .stop ∨ s.font.clearing = false → exec .fontClearingComplete s = .next s)

/-! ### The font and the chip tables (chapters 3, 6, 7, 9 and R174) -/

/-- R48, R49, R50: the checks of a glyph APPEND in their order, each answer carrying the glyph count and the coverage used,
and its effect: the records join one after another, each checked against the table as those before it leave it, or the
cell is refused whole with the code of the first that fails and the index that record would have had. A payload that ends
before its first index or its record count is refused as one whose length does not fit (R184). That a refusal at every
check carries the position is the model's reading of R50 (log 19). -/
def Obligations.FontAppendsAreTakenWholeOrRefused : Prop :=
  ∀ (tag : Nat) (first count : Option Nat) (records : List Byte) (s : State), s.takes →
    let position (t : GlyphTable) := beBytes 2 t.glyphs.length ++ beBytes 3 t.coverageUsed
    let refused (code : ReplyCode) (more : List Byte) : Prop :=
      exec (.appendFont tag first count records) s = .next (s.replied 15 tag 4 code (position s.font ++ more))
    (s.font.clearing = true → refused .busy [])
    ∧ (s.font.clearing = false → first = none ∨ count = none → refused .malformed [])
    ∧ ∀ f n, first = some f → count = some n →
      (s.font.clearing = false → readGlyphs s.font.height n records = none → refused .malformed [])
      ∧ ∀ gs, s.font.clearing = false → readGlyphs s.font.height n records = some gs →
        (f ≠ s.font.glyphs.length → refused .sequence [])
        ∧ (f = s.font.glyphs.length → 4096 < s.font.glyphs.length + n → refused .capacity [])
        ∧ (f = s.font.glyphs.length → s.font.glyphs.length + n ≤ 4096 →
            (∀ i g before code, gs[i]? = some g → (gs.take i).foldlM takeGlyph s.font = .ok before →
              takeGlyph before g = .error code → refused code (beBytes 2 (f + i)))
            ∧ ∀ loaded, gs.foldlM takeGlyph s.font = .ok loaded →
              exec (.appendFont tag first count records) s
                = .next (({ s with font := loaded } : State).replied 15 tag 4 .ok (position loaded)))

/-- R49 and R50: the checks of a glyph record in their order, and the table with it. 12.3 and R48, check 2: the bytes of any
list of glyphs (code 2, width 1, advance 1, then width times Hf coverage values, the first of each byte in bits 4-7) are
read back as that list, whatever the padding nibble of an odd bitmap holds (R184); and the records of a cell that are read
are as many as it announces, each with width times Hf coverage values of 0 to 15, in exactly the bytes of the payload. A
table that takes them grows by them, by their coverage, and to the last one's code. -/
def Obligations.GlyphRecordChecks : Prop :=
  (∀ (t : GlyphTable) (g : Glyph),
    (g.code = 0 ∨ (∃ last, t.lastCode = some last ∧ g.code ≤ last) → takeGlyph t g = .error .sequence)
    ∧ (g.code ≠ 0 → (∀ last, t.lastCode = some last → last < g.code) →
        (g.width < 1 ∨ 64 < g.width ∨ g.advance < 1 ∨ 80 < g.advance → takeGlyph t g = .error .range)
        ∧ (1 ≤ g.width → g.width ≤ 64 → 1 ≤ g.advance → g.advance ≤ 80 →
          (2097152 < t.coverageUsed + g.width * t.height → takeGlyph t g = .error .capacity)
          ∧ (t.coverageUsed + g.width * t.height ≤ 2097152 → takeGlyph t g = .ok
            { t with glyphs := t.glyphs ++ [g], lastCode := some g.code,
                     coverageUsed := t.coverageUsed + g.width * t.height }))))
  ∧ (∀ (height count : Nat) (bytes : List Byte) (gs : List Glyph), readGlyphs height count bytes = some gs →
      gs.length = count
      ∧ bytes.length = (gs.map fun g => 4 + (g.width * height + 1) / 2).sum
      ∧ ∀ g ∈ gs, g.bitmap.length = g.width * height ∧ ∀ a ∈ g.bitmap, a ≤ 15)
  ∧ (∀ (height padding : Nat) (gs : List Glyph), padding < 16 →
      (∀ g ∈ gs, g.code < 65536 ∧ g.width < 256 ∧ g.advance < 256 ∧ g.bitmap.length = g.width * height
        ∧ ∀ a ∈ g.bitmap, a ≤ 15) →
      readGlyphs height gs.length (gs.flatMap (Glyph.bytes padding)) = some gs)
  ∧ ∀ (t u : GlyphTable) (gs : List Glyph), gs.foldlM takeGlyph t = .ok u →
      u.glyphs = t.glyphs ++ gs ∧ u.coverageUsed = t.coverageUsed + (gs.map fun g => g.width * t.height).sum
      ∧ (∀ g, gs.getLast? = some g → u.lastCode = some g.code)
      ∧ u.clearing = t.clearing ∧ u.height = t.height ∧ u.spaceAdvance = t.spaceAdvance
      ∧ u.missingAdvance = t.missingAdvance

/-- R118: a LADDER append; pin reset leaves the ladder NOT_LOADED with every boundary 0. -/
def Obligations.LadderAppends : Prop :=
  ∀ (tag first : Nat) (bounds : List Nat) (s : State),
    (∃ t, exec .pinReset s = .next t ∧ t.ladder = ⟨false, List.replicate 43 0⟩)
    ∧ (s.mode = .stop → exec (.appendLadder tag first bounds) s
        = .next { s with link := { s.link with standbyDiscarded := s.link.standbyDiscarded + 1 } })
    ∧ (s.takes → s.mode ≠ .config → exec (.appendLadder tag first bounds) s = .next (s.replied 15 tag 5 .wrongMode))
    ∧ (s.takes → s.mode = .config →
        (first ≠ 0 ∨ bounds.length ≠ 43 → exec (.appendLadder tag first bounds) s = .next (s.replied 15 tag 5 .range))
        ∧ (first = 0 → bounds.length = 43 →
          (∀ k, k ≤ 41 → bounds.getD k 0 ≤ bounds.getD (k + 1) 0 →
            (∀ j, j < k → bounds.getD (j + 1) 0 < bounds.getD j 0) →
            exec (.appendLadder tag first bounds) s = .next (s.replied 15 tag 5 .sequence (beBytes 1 (k + 1))))
          ∧ ((∀ k, k ≤ 41 → bounds.getD (k + 1) 0 < bounds.getD k 0) →
            exec (.appendLadder tag first bounds) s
              = .next (({ s with ladder := ⟨true, bounds⟩ } : State).replied 15 tag 5 .ok))))

/-- R91: SLOT_MAP. A direction is coded input 0 and output 1; a target is 255 for none, else its room plus 4 for mic 2 or
for channel R (12.2). A target that another entry of the same direction holds is answered RANGE. A direction byte of 2 to
255 is answered RANGE (R184), which the model decides with R91's check 2, after the mode check: WRONG_MODE in RUN mode (the
model's reading, log 29). -/
def Obligations.SlotMapSetsOneEntry : Prop :=
  ∀ (tag direction slot target : Nat) (s : State), s.takes →
    (s.mode ≠ .config → exec (.slotMap tag direction slot target) s = .next (s.replied 15 tag 3 .wrongMode))
    ∧ (s.mode = .config →
      (2 ≤ direction ∨ 8 ≤ slot ∨ (8 ≤ target ∧ target ≠ 255) →
        exec (.slotMap tag direction slot target) s = .next (s.replied 15 tag 3 .range))
      ∧ ∀ k : SlotId,
        exec (.slotMap tag 0 k.val 255) s
          = .next (({ s with slotIn := s.slotIn.set k none } : State).replied 15 tag 3 .ok)
        ∧ exec (.slotMap tag 1 k.val 255) s
          = .next (({ s with slotOut := s.slotOut.set k none } : State).replied 15 tag 3 .ok)
        ∧ (∀ (r : RoomId) (m : MicId),
          ((∃ j, j ≠ k ∧ s.slotIn.get j = some ⟨r, m⟩) →
            exec (.slotMap tag 0 k.val (r.val + 4 * m.val)) s = .next (s.replied 15 tag 3 .range))
          ∧ ((∀ j, j ≠ k → s.slotIn.get j ≠ some ⟨r, m⟩) →
            exec (.slotMap tag 0 k.val (r.val + 4 * m.val)) s
              = .next (({ s with slotIn := s.slotIn.set k (some ⟨r, m⟩) } : State).replied 15 tag 3 .ok)))
        ∧ ∀ (r : RoomId) (c : Channel),
          let code := r.val + (match c with | .left => 0 | .right => 4)
          ((∃ j, j ≠ k ∧ s.slotOut.get j = some ⟨r, c⟩) →
            exec (.slotMap tag 1 k.val code) s = .next (s.replied 15 tag 3 .range))
          ∧ ((∀ j, j ≠ k → s.slotOut.get j ≠ some ⟨r, c⟩) →
            exec (.slotMap tag 1 k.val code) s
              = .next (({ s with slotOut := s.slotOut.set k (some ⟨r, c⟩) } : State).replied 15 tag 3 .ok)))

/-- R141 and R184: POLL_ENTRY. Enabled is coded 0 for no and 1 for yes (12.2); another value of its byte is answered RANGE
(R184), which the model decides with R141's check 2, after the mode check (the model's reading, log 29). -/
def Obligations.PollEntrySetsOneEntry : Prop :=
  ∀ (tag entry enabled address room : Nat) (s : State), s.takes →
    let order := Instr.pollEntry tag entry enabled address room
    (s.mode ≠ .config → exec order s = .next (s.replied 15 tag 4 .wrongMode))
    ∧ (s.mode = .config →
      (7 < entry ∨ 1 < enabled ∨ address < 1 ∨ 31 < address ∨ 3 < room →
        exec order s = .next (s.replied 15 tag 4 .range))
      ∧ ∀ (e : PanelId) (r : RoomId), entry = e.val → room = r.val → enabled ≤ 1 → 1 ≤ address → address ≤ 31 →
        (enabled = 1 → (∃ k, k ≠ e ∧ (s.panel k).enabled = true ∧ (s.panel k).address = address) →
          exec order s = .next (s.replied 15 tag 4 .range))
        ∧ ((enabled = 1 → ∀ k, k ≠ e → (s.panel k).enabled = true → (s.panel k).address ≠ address) →
          exec order s = .next ((s.updPanel e fun _ =>
            { enabled := decide (enabled = 1), address := address, room := r, present := false, missCount := 0,
              outbox := [], polls := 0, good := 0, noAnswer := 0, garbled := 0, wrongEcho := 0,
              resultsLost := 0 }).replied 15 tag 4 .ok)))

/-- R79, R80, R98, R101, R123, R130, R174, R175: CHIP_PARAM and ROOM_PARAM. Each parameter with its range, a two-way value
coded 0 for the first-named and 1 for the second (12.2); a value or pair out of range is answered RANGE and the parameter
keeps its value; a new pair of watermarks runs the mark test; ROOM_ENABLE is taken in CONFIG mode only (that its mode is
checked before its value is the model's choice, log 28). -/
def Obligations.ParametersAreChecked : Prop :=
  (∀ (tag v : Nat) (s : State), s.takes →
     let set (c : ChipParams) : State := ({ s with chip := c } : State).replied 15 tag 2 .ok
     exec (.chipParam tag .requestOrder v) s = .next (
       if v = 0 then set { s.chip with requestOrder := .arrival }
       else if v = 1 then set { s.chip with requestOrder := .roomRank }
       else s.replied 15 tag 2 .range)
     ∧ exec (.chipParam tag .replyTimeout v) s = .next (
       if 1 ≤ v ∧ v ≤ 60 then set { s.chip with replyTimeout := v } else s.replied 15 tag 2 .range)
     ∧ exec (.chipParam tag .pollWindow v) s = .next (
       if 1 ≤ v ∧ v ≤ 20 then set { s.chip with pollWindow := v } else s.replied 15 tag 2 .range)
     ∧ exec (.chipParam tag .clearReports v) s = .next (
       if v = 0 then set { s.chip with clearReports := false }
       else if v = 1 then set { s.chip with clearReports := true }
       else s.replied 15 tag 2 .range))
  ∧ ∀ (r : RoomId) (tag v : Nat) (s : State), s.takes →
    let p := (s.room r).params
    let gives (setting : RoomSetting) (ok : Prop) (q : RoomParams) : Prop :=
      (ok → exec (.roomParam r tag setting) s
        = .next ((s.setRoom r { s.room r with params := q }).replied r.val tag 24 .ok))
      ∧ (¬ ok → exec (.roomParam r tag setting) s = .next (s.replied r.val tag 24 .range))
    (s.mode ≠ .config → exec (.roomParam r tag (.roomEnable v)) s = .next (s.replied r.val tag 24 .wrongMode))
    ∧ (s.mode = .config → gives (.roomEnable v) (v ≤ 1) { p with roomEnable := decide (v = 1) })
    ∧ (∀ x w, gives (.band x w) (x ≤ 1919 ∧ 64 ≤ w ∧ w ≤ 1920 ∧ x + w ≤ 1920) { p with bandX := x, bandW := w })
    ∧ gives (.bandY v) (v ≤ 1079) { p with bandY := v }
    ∧ gives (.rows v) (v = 2 ∨ v = 3) { p with rows := v }
    ∧ gives (.rowGap v) (v ≤ 32) { p with rowGap := v }
    ∧ gives (.lineOverflow v) (v ≤ 1) { p with lineOverflow := if v = 0 then .clip else .drop }
    ∧ (∀ c, gives (.palette c) True { p with palette := c })
    ∧ gives (.advanceLead v) (v ≤ 750) { p with advanceLead := v }
    ∧ gives (.scrollTicks v) (v ≤ 375) { p with scrollTicks := v }
    ∧ gives (.compMode v) (v ≤ 1) { p with compMode := if v = 0 then .measuredPlusOffset else .offsetOnly }
    ∧ gives (.compOffset v) (v ≤ 188) { p with compOffset := v }
    ∧ gives (.voiceThreshold v) (v ≤ 32767) { p with voiceThreshold := v }
    ∧ gives (.hysteresis v) (v ≤ 4095) { p with hysteresis := v }
    ∧ gives (.tolerance v) (v ≤ 2) { p with tolerance := v }
    ∧ gives (.octaveFold v) (v ≤ 1) { p with octaveFold := decide (v = 1) }
    ∧ (∀ mic n, n ≠ 0 → n ≠ 1 → n ≠ 2 → n ≠ 3 → gives (.micAssign mic n) False p)
    ∧ (∀ mic, mic ≠ 1 → mic ≠ 2 → ∀ n, gives (.micAssign mic n) False p)
    ∧ (∀ x : Assign, gives (.micAssign 1 x.code) True { p with micAssign1 := x }
        ∧ gives (.micAssign 2 x.code) True { p with micAssign2 := x })
    ∧ gives (.panelStopPermit v) (v ≤ 1) { p with panelStopPermit := decide (v = 1) }
    ∧ gives (.duplicates v) (v ≤ 1) { p with duplicatesRefuse := decide (v = 1) }
    ∧ gives (.calQ v) (v ≤ 254) { p with calQ := v }
    ∧ gives (.calAmplitude v) (v ≤ 32767) { p with calAmplitude := v }
    ∧ gives (.calCycles v) (1 ≤ v ∧ v ≤ 64) { p with calCycles := v }
    ∧ gives (.calThreshold v) (1 ≤ v ∧ v ≤ 32767) { p with calThreshold := v }
    ∧ gives (.calMic v) (v = 1 ∨ v = 2) { p with calMic := if v = 1 then 0 else 1 }
    ∧ ∀ low high,
      (low ≤ 8192 ∧ high ≤ 8192 ∧ low < high → exec (.roomParam r tag (.marks low high)) s
        = .next (s.accepted r.val tag 24 fun x =>
            markTest r (x.setRoom r { s.room r with params := { p with lowMark := low, highMark := high } })))
      ∧ (¬(low ≤ 8192 ∧ high ≤ 8192 ∧ low < high) → exec (.roomParam r tag (.marks low high)) s
        = .next (s.replied r.val tag 24 .range))

/-! ### READ (R42, R53, R71, R106, R120, R138, R152, R167, R176) -/

/-- R176: READ is answered OK with the record of its object as it stands, and changes nothing; a bank number above 1 is
answered RANGE. Every record is spelled byte by byte in the codes of 12.2: the chip's, with the font (R53), the slot map and
the poll table; a room's, with its context, lyric state (R71), parameters (R175), port (R106) and report stack; a bank's
(R42); a request list with its entries (R153, R167); the scores of a room with each lane and last result (R120, R138); and
the counters of a room (R88, R94, R107, R167) and of the chip (R152, R182), which show the READ's own cell already counted.
The model's readings: where a flags byte stands (log 9), the calibration's presence byte and the period j it shows (log 17),
the codes of a role and the like (log 18), a reply queue fill without the READ's own reply (log 30), the layout of a stack
slot (log 31), the UNSCORED flags (log 32), the layout of a slot-map entry (log 33). -/
def Obligations.ReadsAnswerTheRecords : Prop :=
  ∀ (r : RoomId) (tag : Nat) (s : State), s.takes →
    let rm := s.room r
    let c := rm.ctx
    let one (n : Nat) : List Byte := beBytes 1 n
    let two (n : Nat) : List Byte := beBytes 2 n
    let bit (f : Bool) : Nat := if f then 1 else 0
    let bits (fs : List Bool) : List Byte := one (fs.foldr (fun f n => bit f + 2 * n) 0)
    let signed (z : Int) : List Byte := one (z % 256).toNat
    let optional (w : Nat) (n : Option Nat) : List Byte := match n with
      | none => one 0 ++ beBytes w 0
      | some x => one 1 ++ beBytes w x
    let assign (x : Assign) : List Byte := one ([Assign.a, .b, .all, .off].idxOf x)
    (let p := s.chip
      let f := s.font
      exec (.readChip tag) s = .next (s.replied 15 tag 6 .ok
        (one ([Mode.config, .run, .stop].idxOf s.mode) ++ beBytes 4 s.venueTime.toNat
          ++ one ([RequestOrder.arrival, .roomRank].idxOf p.requestOrder) ++ one p.replyTimeout ++ one p.pollWindow
          ++ one (bit p.clearReports) ++ one s.replies.length ++ one s.reports.length
          ++ bits (s.chipStack.toList.map Option.isSome)
          ++ one (match s.lastServed with
            | .room k => k.val
            | .chip => 4)
          ++ one (bit f.clearing) ++ one f.height ++ one f.spaceAdvance ++ one f.missingAdvance ++ two f.glyphs.length
          ++ optional 2 f.lastCode ++ beBytes 3 f.coverageUsed
          ++ (s.slotIn.toList.flatMap fun x => optional 1 (x.map fun y => y.room.val + 4 * y.mic.val))
          ++ (s.slotOut.toList.flatMap fun x =>
            optional 1 (x.map fun y => y.room.val + if y.channel = .left then 0 else 4))
          ++ one (bit s.ladder.loaded) ++ s.ladder.bounds.flatMap two
          ++ one (bit s.engine.isSome) ++ one s.frameQueue.length
          ++ (s.panels.toList.flatMap fun e => one (bit e.enabled) ++ one e.address ++ one e.room.val
            ++ one (bit e.present) ++ one e.missCount ++ one e.outbox.length)
          ++ one (bit s.polling.isSome) ++ optional 1 (s.polling.map fun _ => s.nextEntry.val)
          ++ beBytes 4 s.issueCounter.toNat ++ one s.cancelQueue.length)))
    ∧ (let context : List Byte :=
        one ([RoomState.off, .idle, .calibrating, .cued, .playing, .held, .ending].idxOf c.state)
          ++ optional 1 (c.currentBank.map Fin.val) ++ optional 1 (c.cuedBank.map Fin.val) ++ optional 1 c.currentTicket
          ++ optional 1 c.cuedTicket ++ signed c.keyShift ++ one c.epoch.toNat ++ beBytes 4 c.position
          ++ beBytes 4 (c.position / 64) ++ one c.comp
          ++ bits [c.compClamped, c.starvedEver, c.lyric.starved, c.lyric.finished, c.lyric.haltPending, c.draining]
          ++ assign c.assign1 ++ assign c.assign2
          ++ optional 1 (c.endReason.map fun x => [EndReason.complete, .stopped, .halted, .panelStop].idxOf x)
          ++ two c.underrunCount ++ two c.starvationCount ++ two c.skipCount
          ++ two c.lyric.current ++ beBytes 4 c.lyric.scrollStart ++ two c.lyric.scrollLength
      let q := rm.params
      let params : List Byte :=
        [bit q.roomEnable, q.bandX, q.bandW, q.bandY, q.rows, q.rowGap,
            [Overflow.clip, .drop].idxOf q.lineOverflow].flatMap two
          ++ ([q.palette.aUnsung, q.palette.aSung, q.palette.bUnsung, q.palette.bSung, q.palette.bothUnsung,
            q.palette.bothSung].flatMap fun x => [x.red, x.green, x.blue])
          ++ [q.advanceLead, q.scrollTicks, [CompMode.measuredPlusOffset, .offsetOnly].idxOf q.compMode, q.compOffset,
            q.voiceThreshold, q.hysteresis, q.tolerance, bit q.octaveFold].flatMap two
          ++ one 1 ++ assign q.micAssign1 ++ one 2 ++ assign q.micAssign2
          ++ [bit q.panelStopPermit, bit q.duplicatesRefuse, q.lowMark, q.highMark, q.calQ, q.calAmplitude, q.calCycles,
            q.calThreshold, q.calMic.val + 1].flatMap two
      let p := rm.port
      let kind (x : Report) : Nat := match x.body with
        | .lineScore _ => 1
        | .songEnd _ => 2
        | .bankFree _ _ _ => 3
        | .calDone _ _ _ _ _ _ => 4
        | .queueMark _ _ _ => 5
        | .panelState _ _ _ _ => 6
      let slot (x : Option Report) : List Byte := match x with
        | none => [0, 0, 0, 0]
        | some rep => one 1 ++ one (kind rep) ++ two rep.lost
      let k := rm.stack
      exec (.readRoom r tag) s = .next (s.replied r.val tag 6 .ok
        (context ++ params ++ two p.queue.length ++ bits [p.pendingEnd, p.inUnderrun, p.delayValid]
          ++ one ([MarkState.none, .low, .high].idxOf p.markState)
          ++ optional 2 (p.calibration.map Calibration.period) ++ two p.delay
          ++ [k.lineScore, k.songEnd, k.bankFree, k.calDone, k.queueMark].flatMap slot)))
    ∧ (∀ bank, 2 ≤ bank → exec (.readBank r tag bank) s = .next (s.replied r.val tag 6 .range))
    ∧ (∀ b : BankId,
        let bank := rm.bank b
        exec (.readBank r tag b.val) s = .next (s.replied r.val tag 6 .ok
          (one ([BankState.empty, .filling, .closed, .clearing].idxOf bank.state) ++ beBytes 4 bank.songId
            ++ [bank.declaredLines, bank.declaredSyllables, bank.declaredNotes, bank.lines.length,
              bank.syllables.length, bank.guide.length].flatMap two
            ++ optional 3 bank.lastSyllableStart ++ optional 3 bank.lastGuideStart
            ++ beBytes 4 bank.lastEndA ++ beBytes 4 bank.lastEndB ++ one (bit bank.lastLineSeen)
            ++ one (if c.currentBank = some b then 0 else if c.cuedBank = some b then 1 else 2))))
    ∧ (let entry (e : Entry) : List Byte :=
        one e.ticket ++ beBytes 4 e.issue.toNat ++ beBytes 3 e.song ++ signed e.keyShift
          ++ one e.singerTag ++ one e.source.val
          ++ one ([EntryState.waiting, .sent, .accepted, .cued, .playing, .cancelling].idxOf e.state)
          ++ optional 2 e.position ++ beBytes 4 e.issueTime.toNat ++ optional 4 (e.sentTime.map BitVec.toNat)
      exec (.readRequestList r tag) s = .next (s.replied r.val tag 6 .ok
        (rm.requests.flatMap entry ++ one rm.ticketCounter ++ one (s.cancelQueue.countP fun i => i.room = r))))
    ∧ (let set (a : Accumulators) : List Byte :=
        two a.s ++ beBytes 3 a.p ++ [a.perfect, a.near, a.off, a.silent].flatMap two
      let result (x : Option ResultRecord) : List Byte := match x with
        | none => List.replicate 22 0
        | some f => one 1 ++ one f.room.val ++ one (f.mic.val + 1) ++ one f.epoch.toNat ++ bits [f.stale, f.voiced]
          ++ two f.consumed ++ beBytes 4 f.pEnd ++ two f.lineIndex ++ two f.mav ++ two f.crossings
          ++ optional 2 f.period ++ optional 1 f.note
      let lane (m : Mic) (x : Assign) : List Byte :=
        let y := m.lane
        let o := y.outcomes
        assign x ++ set y.song
          ++ bits [y.song.frozen, y.line.frozen, decide (y.song.s = 0), decide (y.line.s = 0)] ++ set y.line
          ++ [o.perfect, o.near, o.off, o.silent, o.disturbed, o.rest, o.unguided, y.cursorA, y.cursorB].flatMap two
          ++ one (scoreOf y.song.s y.song.p).value ++ one (scoreOf y.line.s y.line.p).value ++ result m.lastResult
      let assigned (x : Assign) (n : Nat) : Nat := if x = .off then 0 else n
      let total (f : Accumulators → Nat) : Nat :=
        assigned c.assign1 (f rm.mic1.lane.song) + assigned c.assign2 (f rm.mic2.lane.song)
      exec (.readScores r tag) s = .next (s.replied r.val tag 6 .ok
        (lane rm.mic1 c.assign1 ++ lane rm.mic2 c.assign2
          ++ one (scoreOf (total Accumulators.s) (total Accumulators.p)).value
          ++ bits [decide (total Accumulators.s = 0), c.compClamped] ++ one c.comp)))
    ∧ exec (.readCounters (some r) tag) s = .next (s.replied r.val tag 6 .ok
        ([rm.overlay.frameStarts, rm.overlay.overlayFrames, rm.overlay.missingGlyph, rm.overlay.overflowLines,
          rm.overlay.videoDiscarded, rm.port.audioDiscarded, rm.port.overrun, rm.port.underrunPeriods,
          rm.port.audioBadCells, rm.mic1.assembler.dropped, rm.mic2.assembler.dropped,
          rm.requestCounters.ticketsIssued, rm.requestCounters.refusedFull, rm.requestCounters.refusedDuplicate,
          rm.requestCounters.timeouts].flatMap fun n => beBytes 4 n.toNat))
    ∧ (let l := s.link
      exec (.readCounters none tag) s = .next (s.replied 15 tag 6 .ok
        (([l.cellsIn + 1, l.badLength, l.badCrc, l.standbyDiscarded, l.badKind, l.mediaDiscarded, l.ordersLost,
            l.repliesSent, l.requestCellsSent, l.reportsSent] ++ l.reportsStacked.toList ++ l.reportsReplaced.toList
          ++ s.panels.toList.flatMap fun p => [p.polls, p.good, p.noAnswer, p.garbled, p.wrongEcho, p.resultsLost]
          ).flatMap fun n => beBytes 4 n.toNat)))

/-! ### Room orders (chapter 1) -/

/-- R5 and R40: the codes CUE is refused with, by the first check that fails. (A ticket names the entry of the room's list
that holds it.) -/
def Obligations.CueIsChecked : Prop :=
  ∀ (r : RoomId) (tag bank ticket : Nat) (s : State), s.takes →
    let rm := s.room r
    let refused (code : ReplyCode) : Prop := exec (.cue r tag bank ticket) s = .next (s.replied r.val tag 16 code)
    (rm.ctx.state = .off → refused .wrongState)
    ∧ (rm.ctx.state = .calibrating → refused .busy)
    ∧ (rm.ctx.state ≠ .off → rm.ctx.state ≠ .calibrating →
      (2 ≤ bank → refused .range)
      ∧ ∀ b : BankId, bank = b.val →
        let eligible : Prop := (rm.bank b).state = .closed ∨ (rm.bank b).state = .filling ∧ 1 ≤ (rm.bank b).lines.length
        let named := rm.requests.find? fun e => e.ticket == ticket
        (rm.ctx.currentBank = some b → refused .inUse)
        ∧ (rm.ctx.currentBank ≠ some b → ¬ eligible → refused .notReady)
        ∧ (rm.ctx.currentBank ≠ some b → eligible → ticket ≠ 0 →
          (∀ e, named = some e → e.state = .cancelling → refused .cancelled)
          ∧ (named = none → refused .noTicket)
          ∧ (∀ e, named = some e → e.state = .waiting ∨ e.state = .sent ∨ e.state = .playing
                ∨ e.state = .cued ∧ rm.ctx.cuedTicket ≠ some ticket → refused .noTicket)))

/-- R6: the effect of a CUE that passes its checks, which runs the mark test when the room enters CUED (R98): the cue and
the entries it links change, a frame latch whose bank loses its role is dropped (R78), and nothing else of the room does. -/
def Obligations.CueTakesEffect : Prop :=
  ∀ (r : RoomId) (tag ticket : Nat) (b : BankId) (s : State), s.takes →
    let rm := s.room r
    rm.ctx.state ≠ .off → rm.ctx.state ≠ .calibrating → rm.ctx.currentBank ≠ some b →
    ((rm.bank b).state = .closed ∨ (rm.bank b).state = .filling ∧ 1 ≤ (rm.bank b).lines.length) →
    (ticket ≠ 0 → ∃ e, rm.requests.find? (fun e => e.ticket == ticket) = some e
      ∧ (e.state = .accepted ∨ e.state = .cued ∧ rm.ctx.cuedTicket = some ticket)) →
    ∃ after : Room,
      exec (.cue r tag b.val ticket) s = .next (s.accepted r.val tag 16 fun x =>
        if rm.ctx.state = .idle then markTest r (x.setRoom r after) else x.setRoom r after)
      ∧ after.ctx = { rm.ctx with
          cuedBank := some b, cuedTicket := if ticket = 0 then none else some ticket
          state := if rm.ctx.state = .idle then .cued else rm.ctx.state }
      ∧ after.requests = rm.requests.map (fun e =>
          if ticket ≠ 0 ∧ e.ticket = ticket then { e with state := .cued }
          else if rm.ctx.cuedTicket = some e.ticket then { e with state := .accepted } else e)
      ∧ (∀ l, rm.latch = some l → l.bank = none ∨ l.bank = rm.ctx.currentBank ∨ l.bank = some b →
          after.latch = some l)
      ∧ (∀ l k, rm.latch = some l → l.bank = some k → rm.ctx.currentBank ≠ some k → k ≠ b → after.latch = none)
      ∧ (rm.latch = none → after.latch = none)
      ∧ after.port = rm.port ∧ after.params = rm.params ∧ after.bank0 = rm.bank0 ∧ after.bank1 = rm.bank1
      ∧ after.mic1 = rm.mic1 ∧ after.mic2 = rm.mic2 ∧ after.overlay = rm.overlay
      ∧ after.videoOut = rm.videoOut ∧ after.ticketCounter = rm.ticketCounter
      ∧ after.requestCounters = rm.requestCounters ∧ after.stack = rm.stack

/-- R9, R12, R13, R108, R122, R124: START. The room context after it, the linked entry, the microphones' lanes and
assemblers, the compensation latched from the parameters and the measured delay, and the room's frame records marked
stale; the backing queue keeps its samples and in underrun is cleared (R97). -/
def Obligations.StartBeginsTheSong : Prop :=
  ∀ (r : RoomId) (tag : Nat) (s : State), s.takes →
    let rm := s.room r
    (rm.ctx.state = .calibrating → exec (.start r tag) s = .next (s.replied r.val tag 17 .busy))
    ∧ (rm.ctx.state ≠ .cued → rm.ctx.state ≠ .calibrating →
        exec (.start r tag) s = .next (s.replied r.val tag 17 .wrongState))
    ∧ (rm.ctx.state = .cued → ∃ (after : Room) (shift : Int) (c : Nat) (clamped : Bool),
        exec (.start r tag) s = .next (({ s.setRoom r after with
            frameQueue := s.frameQueue.map fun f => if f.room = r then { f with stale := true } else f } :
          State).replied r.val tag 17 .ok)
        ∧ after.ctx =
          { state := .playing, currentBank := rm.ctx.cuedBank, cuedBank := none, currentTicket := rm.ctx.cuedTicket,
            cuedTicket := none, keyShift := shift, epoch := rm.ctx.epoch + 1, position := 0, comp := c,
            compClamped := clamped, assign1 := rm.params.micAssign1, assign2 := rm.params.micAssign2,
            endReason := none, starvedEver := false, underrunCount := 0, starvationCount := 0, skipCount := 0,
            lyric := { current := 0, scrollStart := 0, scrollLength := 0, starved := false, finished := false,
                       haltPending := false },
            draining := rm.ctx.draining }
        ∧ (rm.ctx.cuedTicket = none → shift = 0)
        ∧ (∀ t e, rm.ctx.cuedTicket = some t → rm.requests.find? (fun e => e.ticket == t) = some e →
            shift = e.keyShift)
        ∧ (let sum := ((if rm.port.delayValid then rm.port.delay else 0) + 32) / 64 + rm.params.compOffset;
            (rm.params.compMode = .measuredPlusOffset → c = min sum 188 ∧ (clamped = true ↔ 188 < sum))
            ∧ (rm.params.compMode = .offsetOnly → c = rm.params.compOffset ∧ clamped = false))
        ∧ after.requests = rm.requests.map (fun e =>
            if rm.ctx.cuedTicket = some e.ticket then { e with state := .playing } else e)
        ∧ (∀ m x, (m = 0 ∧ x = rm.params.micAssign1 ∨ m = 1 ∧ x = rm.params.micAssign2) →
            (after.mic m).lane = { song := {}, line := {}, outcomes := {}, cursorA := 0, cursorB := 0 }
            ∧ (after.mic m).assembler.samples = [] ∧ (after.mic m).assembler.consumed = 0
            ∧ ((after.mic m).assembler.assembling = true ↔ x ≠ .off)
            ∧ (after.mic m).assembler.dropped = (rm.mic m).assembler.dropped
            ∧ (after.mic m).lastResult = (rm.mic m).lastResult)
        ∧ after.port = { rm.port with inUnderrun := false } ∧ after.params = rm.params ∧ after.bank0 = rm.bank0
        ∧ after.bank1 = rm.bank1 ∧ after.latch = rm.latch ∧ after.overlay = rm.overlay ∧ after.videoOut = rm.videoOut
        ∧ after.ticketCounter = rm.ticketCounter ∧ after.requestCounters = rm.requestCounters
        ∧ after.stack = rm.stack)

/-- R14, R15, R16: PAUSE, RESUME, STOP and HALT_AT_LINE by room state: the moves between PLAYING and HELD, which change
the room state and nothing else; a STOP that ends a song, aborts a calibration or withdraws a cue, with a frame latch of
a bank that is not current dropped (R78); a HALT_AT_LINE that ends a finished song, or sets HALT_PENDING. Elsewhere each is
answered WRONG_STATE. -/
def Obligations.PauseStopAndHalt : Prop :=
  ∀ (r : RoomId) (tag : Nat) (s : State), s.takes →
    let rm := s.room r
    let moved (st : RoomState) : State := s.setRoom r { rm with ctx := { rm.ctx with state := st } }
    exec (.pause r tag) s = .next (
      if rm.ctx.state = .playing then (moved .held).replied r.val tag 18 .ok else s.replied r.val tag 18 .wrongState)
    ∧ exec (.resume r tag) s = .next (
      if rm.ctx.state = .held then (moved .playing).replied r.val tag 19 .ok else s.replied r.val tag 19 .wrongState)
    ∧ (rm.ctx.state = .off ∨ rm.ctx.state = .idle ∨ rm.ctx.state = .ending →
        exec (.stop r tag) s = .next (s.replied r.val tag 20 .wrongState))
    ∧ (rm.ctx.state = .playing ∨ rm.ctx.state = .held →
        exec (.stop r tag) s = .next (s.accepted r.val tag 20 (takeEnding r .stopped)))
    ∧ (∀ c, rm.ctx.state = .calibrating → rm.port.calibration = some c →
        exec (.stop r tag) s = .next (s.accepted r.val tag 20 fun x =>
          raise (.calDone r .aborted 0 rm.port.delay rm.port.delayValid c.mic)
            (x.setRoom r { rm with
              ctx := { rm.ctx with state := .idle }, port := { rm.port with calibration := none } })))
    ∧ (rm.ctx.state = .cued → ∃ after : Room, exec (.stop r tag) s = .next ((s.setRoom r after).replied r.val tag 20 .ok)
        ∧ after.ctx = { rm.ctx with state := .idle, cuedBank := none, cuedTicket := none }
        ∧ after.requests = rm.requests.map (fun e =>
            if rm.ctx.cuedTicket = some e.ticket then { e with state := .accepted } else e)
        ∧ after.port = { rm.port with
            queue := [], pendingEnd := false, markState := .none
            audioDiscarded := rm.port.audioDiscarded + BitVec.ofNat 32 rm.port.queue.length }
        ∧ after.latch = (rm.latch.filter fun l => l.bank = none ∨ l.bank = rm.ctx.currentBank)
        ∧ after.bank0 = rm.bank0 ∧ after.bank1 = rm.bank1 ∧ after.params = rm.params ∧ after.mic1 = rm.mic1
        ∧ after.mic2 = rm.mic2 ∧ after.overlay = rm.overlay ∧ after.videoOut = rm.videoOut
        ∧ after.ticketCounter = rm.ticketCounter ∧ after.requestCounters = rm.requestCounters
        ∧ after.stack = rm.stack)
    ∧ (rm.ctx.state ≠ .playing → rm.ctx.state ≠ .held →
        exec (.haltAtLine r tag) s = .next (s.replied r.val tag 21 .wrongState))
    ∧ (rm.ctx.state = .playing ∨ rm.ctx.state = .held →
        (rm.ctx.lyric.finished = true →
          exec (.haltAtLine r tag) s = .next (s.accepted r.val tag 21 (takeEnding r .halted)))
        ∧ (rm.ctx.lyric.finished = false → exec (.haltAtLine r tag) s = .next ((s.setRoom r
            { rm with ctx := { rm.ctx with lyric := { rm.ctx.lyric with haltPending := true } } }).replied
              r.val tag 21 .ok)))

/-- R17, R18, R39, R99, R107, R136, R137, R165: taking the end of a song, in a PLAYING or HELD room. The reports: with an
empty stack and two free places the final LINE_SCORE and the SONG_END enter the queue and the room leaves ENDING at once,
for CUED with a cue, where the mark test may raise a QUEUE_MARK behind them (R98), and for IDLE without one. With one free
place the LINE_SCORE alone enters; otherwise it goes to its slot, counting a report it replaces as lost (R178). The SONG_END
then waits in its own slot (taking an occupied one, which no run meets, log 16) and the room stays in ENDING. Their contents:
the line's and the song's counts of both lanes, the scores of R135, and the song's fields as they stand at the ending (a
song without a current bank, which no run meets, has song id 0, log 25). The room: its reason is recorded, its bank goes to
CLEARING, its assemblers stop, its song's entry leaves the list and every panel of the room gets the SCORE. Its queue is
flushed unless the song is COMPLETE, whatever state the room then has: up to its first END mark, or whole, with DRAINING
set; a room that goes straight to IDLE also discards what the flush has left (R8). A frame latch of the bank that goes to
CLEARING draws no lyric line from then on, and one whose bank has no role in the room any more is dropped (R78). Nothing
else of the room, of another room or of the chip changes, but the counts of stacked and replaced reports. -/
def Obligations.EndingASong : Prop :=
  ∀ (r : RoomId) (reason : EndReason) (s : State), (s.room r).ctx.singing = true →
    let rm := s.room r
    let t := takeEnding r reason s
    let after := t.room r
    let c := rm.ctx
    let lineLane (x : Assign) (m : Mic) : LineLane :=
      ⟨x, m.lane.line.s, m.lane.line.p, scoreOf m.lane.line.s m.lane.line.p, m.lane.line.frozen⟩
    let songLane (x : Assign) (m : Mic) : SongLane :=
      { assign := x, s := m.lane.song.s, p := m.lane.song.p, perfect := m.lane.song.perfect, near := m.lane.song.near
        off := m.lane.song.off, silent := m.lane.song.silent, disturbed := m.lane.outcomes.disturbed
        rest := m.lane.outcomes.rest, unguided := m.lane.outcomes.unguided
        score := scoreOf m.lane.song.s m.lane.song.p, frozen := m.lane.song.frozen }
    let assigned (x : Assign) (n : Nat) : Nat := if x = .off then 0 else n
    let roomScore : Score := scoreOf
      (assigned c.assign1 rm.mic1.lane.song.s + assigned c.assign2 rm.mic2.lane.song.s)
      (assigned c.assign1 rm.mic1.lane.song.p + assigned c.assign2 rm.mic2.lane.song.p)
    let line : Report := ⟨.lineScore
      { room := r, epoch := c.epoch, line := c.lyric.current, skipped := false
        mic1 := lineLane c.assign1 rm.mic1, mic2 := lineLane c.assign2 rm.mic2 }, s.venueTime, 0⟩
    let song : Report := ⟨.songEnd
      { room := r, epoch := c.epoch
        songId := match c.currentBank with
          | some b => (rm.bank b).songId
          | none => 0
        ticket := c.currentTicket
        singerTag := match c.currentTicket with
          | some n => (rm.requests.find? fun e => e.ticket == n).map Entry.singerTag
          | none => none
        keyShift := c.keyShift, reason := reason, finalLine := c.lyric.current
        mic1 := songLane c.assign1 rm.mic1, mic2 := songLane c.assign2 rm.mic2, roomScore := roomScore
        comp := c.comp, compClamped := c.compClamped, starvedEver := c.starvedEver, finished := c.lyric.finished
        underrunCount := c.underrunCount, starvationCount := c.starvationCount, skipCount := c.skipCount },
      s.venueTime, 0⟩
    let darkened : Option FrameLatch := rm.latch.map fun l => match l.bank with
      | none => l
      | some b => if c.currentBank = some b ∧ (rm.bank b).loaded = true then { l with bandOff := true } else l
    let rest := (rm.port.queue.dropWhile fun x => !x.endMark).drop 1
    let flushed : Port :=
      if reason = .complete then rm.port
      else if rm.port.pendingEnd then { rm.port with pendingEnd := false }
      else { rm.port with
        queue := rest
        audioDiscarded := rm.port.audioDiscarded + BitVec.ofNat 32 (rm.port.queue.length - rest.length) }
    let fill := flushed.queue.length
    let due : Option Mark :=
      if fill < rm.params.lowMark ∧ rm.port.markState ≠ .low then some .low
      else if rm.params.highMark < fill ∧ rm.port.markState ≠ .high then some .high
      else none
    let mark : Option Report := due.map fun m => ⟨.queueMark r m fill, s.venueTime, 0⟩
    (s.reports.length ≤ 14 → rm.stack.isEmpty = true →
      after.ctx.currentBank = none
      ∧ after.latch = (darkened.filter fun l => l.bank = none ∨ l.bank = c.cuedBank)
      ∧ (c.cuedBank = none →
        after.ctx.state = .idle ∧ t.reports = s.reports ++ [line, song] ∧ after.stack = rm.stack
        ∧ after.port = { flushed with
            queue := [], pendingEnd := false, markState := .none
            audioDiscarded := flushed.audioDiscarded + BitVec.ofNat 32 fill })
      ∧ (c.cuedBank ≠ none →
        after.ctx.state = .cued
        ∧ after.port = { flushed with markState := match due with
            | none => rm.port.markState
            | some .low => .low
            | some .high => .high }
        ∧ (s.reports.length ≤ 13 →
            t.reports = s.reports ++ [line, song] ++ mark.toList ∧ after.stack = rm.stack)
        ∧ (s.reports.length = 14 →
            t.reports = s.reports ++ [line, song] ∧ after.stack = { rm.stack with queueMark := mark })))
    ∧ (15 ≤ s.reports.length ∨ rm.stack.isEmpty = false →
      after.ctx.currentBank = c.currentBank ∧ after.ctx.state = .ending ∧ after.latch = darkened
      ∧ after.port = flushed
      ∧ (s.reports.length = 15 → rm.stack.isEmpty = true →
          t.reports = s.reports ++ [line] ∧ after.stack = { rm.stack with songEnd := some song })
      ∧ (s.reports.length ≠ 15 ∨ rm.stack.isEmpty = false →
          t.reports = s.reports ∧ after.stack = { rm.stack with
            songEnd := some song
            lineScore := some (match rm.stack.lineScore with
              | none => line
              | some old => { line with lost := min (old.lost + 1) 65535 }) }))
    ∧ after.ctx.endReason = some reason ∧ after.ctx.currentTicket = none ∧ after.ctx.cuedBank = rm.ctx.cuedBank
    ∧ after.ctx.cuedTicket = rm.ctx.cuedTicket ∧ after.ctx.epoch = rm.ctx.epoch
    ∧ after.ctx.position = rm.ctx.position ∧ after.ctx.comp = rm.ctx.comp
    ∧ after.ctx.compClamped = rm.ctx.compClamped ∧ after.ctx.keyShift = rm.ctx.keyShift
    ∧ after.ctx.assign1 = rm.ctx.assign1 ∧ after.ctx.assign2 = rm.ctx.assign2 ∧ after.ctx.lyric = rm.ctx.lyric
    ∧ after.ctx.starvedEver = rm.ctx.starvedEver ∧ after.ctx.underrunCount = rm.ctx.underrunCount
    ∧ after.ctx.starvationCount = rm.ctx.starvationCount ∧ after.ctx.skipCount = rm.ctx.skipCount
    ∧ after.params = rm.params ∧ after.ticketCounter = rm.ticketCounter
    ∧ after.requestCounters = rm.requestCounters ∧ after.overlay = rm.overlay ∧ after.videoOut = rm.videoOut
    ∧ (∀ m, (after.mic m).lane.song = (rm.mic m).lane.song ∧ (after.mic m).lane.line = {}
        ∧ (after.mic m).lane.outcomes = (rm.mic m).lane.outcomes
        ∧ (after.mic m).lane.cursorA = (rm.mic m).lane.cursorA ∧ (after.mic m).lane.cursorB = (rm.mic m).lane.cursorB
        ∧ (after.mic m).assembler
          = { assembling := false, samples := [], consumed := 0, dropped := (rm.mic m).assembler.dropped }
        ∧ (after.mic m).lastResult = (rm.mic m).lastResult)
    ∧ (∀ b, (rm.ctx.currentBank = some b → (rm.bank b).loaded = true →
          after.bank b = { state := .clearing, songId := (rm.bank b).songId })
        ∧ (rm.ctx.currentBank ≠ some b ∨ (rm.bank b).loaded = false → after.bank b = rm.bank b))
    ∧ after.requests = rm.requests.filter (fun e => some e.ticket ≠ rm.ctx.currentTicket)
    ∧ (∀ e, t.panel e = if rm.ctx.currentTicket ≠ none ∧ (s.panel e).enabled = true ∧ (s.panel e).room = r then
          (s.panel e).push (.score (songLane c.assign1 rm.mic1).score (songLane c.assign2 rm.mic2).score roomScore)
        else s.panel e)
    ∧ (∀ k, k ≠ r → t.room k = s.room k)
    ∧ t = { s with
        rooms := t.rooms, panels := t.panels, reports := t.reports
        link := { s.link with
          reportsStacked := t.link.reportsStacked, reportsReplaced := t.link.reportsReplaced } }
    ∧ (after.ctx.draining = true ↔ c.draining = true
        ∨ (reason ≠ .complete ∧ rm.port.pendingEnd = false ∧ ∀ x ∈ rm.port.queue, x.endMark = false))

/-- R20, R21, R154, R174: ROOM_RESET in every room state: the room context, banks, queue, assemblers, lanes, requests and
stack it leaves; the parameters, the measured delay, the last result records, DROPPED and the room's other counters it keeps
(R88, R94, R107, R120, R167); the room's frame records marked stale, its CANCEL items withdrawn and its panels' outboxes
emptied; an aborted calibration raises its CAL_DONE after the stack has been dealt with. Nothing else of the chip and no
other room changes, but the counts of stacked reports. -/
def Obligations.RoomResetReturnsTheRoom : Prop :=
  ∀ (r : RoomId) (tag : Nat) (s : State), s.takes → ∃ t : State, exec (.roomReset r tag) s = .next (t.replied r.val tag 22 .ok)
    ∧ t = { s with
        rooms := t.rooms, panels := t.panels, reports := t.reports, cancelQueue := t.cancelQueue
        frameQueue := t.frameQueue
        link := { s.link with
          reportsStacked := t.link.reportsStacked, reportsReplaced := t.link.reportsReplaced } }
    ∧ (t.room r).ctx =
        { state := if s.mode = .run ∧ (s.room r).params.roomEnable = true then .idle else .off,
          currentBank := none, cuedBank := none, currentTicket := none, cuedTicket := none, keyShift := 0,
          epoch := (s.room r).ctx.epoch + 1, position := 0, comp := 0, compClamped := false,
          assign1 := (s.room r).params.micAssign1, assign2 := (s.room r).params.micAssign2, endReason := none,
          starvedEver := false, underrunCount := 0, starvationCount := 0, skipCount := 0, lyric := {},
          draining := false }
    ∧ (∀ b, (((s.room r).bank b).state = .filling ∨ ((s.room r).bank b).state = .closed →
          (t.room r).bank b = { state := .clearing, songId := ((s.room r).bank b).songId })
        ∧ (((s.room r).bank b).state = .empty ∨ ((s.room r).bank b).state = .clearing →
          (t.room r).bank b = (s.room r).bank b))
    ∧ (t.room r).port = { (s.room r).port with
        queue := [], pendingEnd := false, markState := .none, inUnderrun := false, calibration := none
        audioDiscarded := (s.room r).port.audioDiscarded + BitVec.ofNat 32 (s.room r).port.queue.length }
    ∧ (∀ m, (t.room r).mic m =
        { lane := {}, lastResult := ((s.room r).mic m).lastResult
          assembler :=
            { assembling := false, samples := [], consumed := 0, dropped := ((s.room r).mic m).assembler.dropped } })
    ∧ (t.room r).params = (s.room r).params ∧ (t.room r).latch = none
    ∧ (t.room r).overlay = (s.room r).overlay ∧ (t.room r).videoOut = (s.room r).videoOut
    ∧ (t.room r).requestCounters = (s.room r).requestCounters
    ∧ (t.room r).requests = [] ∧ (t.room r).ticketCounter = 0
    ∧ t.cancelQueue = s.cancelQueue.filter (fun i => i.room ≠ r)
    ∧ t.frameQueue = s.frameQueue.map (fun f => if f.room = r then { f with stale := true } else f)
    ∧ (∀ e, t.panel e = if (s.panel e).enabled = true ∧ (s.panel e).room = r then
          { s.panel e with outbox := [] } else s.panel e)
    ∧ (∀ k, k ≠ r → t.room k = s.room k)
    ∧ (let kept : RoomStack := if s.chip.clearReports then {} else { (s.room r).stack with songEnd := none }
      ((s.room r).port.calibration = none → t.reports = s.reports ∧ (t.room r).stack = kept)
      ∧ ∀ c, (s.room r).port.calibration = some c →
        let done : Report :=
          ⟨.calDone r .aborted 0 (s.room r).port.delay (s.room r).port.delayValid c.mic, s.venueTime, 0⟩
        (s.reports.length < 16 → kept.isEmpty = true → t.reports = s.reports ++ [done] ∧ (t.room r).stack = kept)
        ∧ (16 ≤ s.reports.length ∨ kept.isEmpty = false →
            t.reports = s.reports ∧ (t.room r).stack = { kept with calDone := some done }))

/-- R101, R103, R104, R105: CALIBRATE latches the five parameters and moves an IDLE room without a waiting CAL_DONE to
CALIBRATING; in a period j the sample of the latched microphone ends the calibration OK with delay j when its magnitude
(32768 for -32768) is at or above the threshold; else it ends TIMEOUT in period 23,999 and goes on before it.
CAL_TIMEOUT alone ends a calibration that stands in that period, an idle link taking the CAL_DONE at once (R180, log 11),
and changes nothing elsewhere (logs 5 and 6). -/
def Obligations.CalibrationsRunAndEnd : Prop :=
  (∀ (r : RoomId) (tag : Nat) (s : State), s.takes →
    let rm := s.room r
    (rm.ctx.state ≠ .idle → exec (.calibrate r tag) s = .next (s.replied r.val tag 23 .wrongState))
    ∧ (rm.ctx.state = .idle → rm.stack.calDone ≠ none →
        exec (.calibrate r tag) s = .next (s.replied r.val tag 23 .busy))
    ∧ (rm.ctx.state = .idle → rm.stack.calDone = none →
        exec (.calibrate r tag) s = .next ((s.setRoom r { rm with
          ctx := { rm.ctx with state := .calibrating }
          port := { rm.port with calibration := some ⟨rm.params.calQ, rm.params.calAmplitude, rm.params.calCycles,
            rm.params.calThreshold, rm.params.calMic, 0⟩ } }).replied r.val tag 23 .ok)))
  ∧ (∀ (r : RoomId) (inputs : Vector Sample 8) (c : Calibration) (s : State),
      (s.room r).ctx.state = .calibrating → (s.room r).port.calibration = some c →
      let rm := s.room r
      let ended (p : Port) : State := s.setRoom r { rm with ctx := { rm.ctx with state := .idle }, port := p }
      let timedOut : State := raise (.calDone r .timeout 0 rm.port.delay rm.port.delayValid c.mic)
        (ended { rm.port with calibration := none })
      let goesOn : State :=
        s.setRoom r { rm with port := { rm.port with calibration := some { c with period := c.period + 1 } } }
      (∀ k, s.slotIn.get k = some ⟨r, c.mic⟩ → (∀ j, j ≠ k → s.slotIn.get j ≠ some ⟨r, c.mic⟩) →
        calibrationStep r inputs s =
          if c.threshold ≤ (inputs.get k).toInt.natAbs then
            raise (.calDone r .ok c.period c.period true c.mic)
              (ended { rm.port with calibration := none, delay := c.period, delayValid := true })
          else if 23999 ≤ c.period then timedOut else goesOn)
      ∧ ((∀ j, s.slotIn.get j ≠ some ⟨r, c.mic⟩) →
          calibrationStep r inputs s = if 23999 ≤ c.period then timedOut else goesOn)
      ∧ exec (.calTimeout r) s = .next (if 23999 ≤ c.period then timedOut.sendIfIdle else s))
  ∧ ∀ (r : RoomId) (s : State), (s.room r).ctx.state ≠ .calibrating → exec (.calTimeout r) s = .next s

/-! ### Requests (chapter 10) -/

/-- R158, R159, R160, R161: the answering orders by the state of the entry that holds their ticket: what becomes of the
entry, the result its source panel gets, the reply code, and on OK the entry's state after the order, where "removed" is
coded 6 (the model's reading of 12.2, log 10). A REQ_DROP of a CUED entry withdraws the room's cue (R7, R8), and a frame
latch of a bank that is not current is dropped (R78). -/
def Obligations.RequestAnswersByEntryState : Prop :=
  ∀ (r : RoomId) (tag ticket position reason : Nat) (s : State), s.takes →
    let rm := s.room r
    let named := rm.requests.find? fun e => e.ticket == ticket
    let changed (f : Entry → Entry) : State :=
      s.setRoom r { rm with requests := rm.requests.map fun e => if e.ticket = ticket then f e else e }
    let shorter : Room := { rm with requests := rm.requests.filter fun e => e.ticket ≠ ticket }
    let removed : State := s.setRoom r shorter
    let told (e : Entry) (k : ResultKind) (x : State) : State := x.updPanel e.source fun p => p.push k
    let confirmed (e : Entry) : State := told e (.cancelled ticket)
      { removed with cancelQueue := s.cancelQueue.filter fun i => ¬(i.room = r ∧ i.ticket = ticket) }
    (named = none →
      exec (.reqAccept r tag ticket position) s = .next (s.replied r.val tag 28 .unknownTicket)
      ∧ exec (.reqPosition r tag ticket position) s = .next (s.replied r.val tag 29 .unknownTicket)
      ∧ (reason ≤ 253 → exec (.reqRefuse r tag ticket reason) s = .next (s.replied r.val tag 30 .unknownTicket))
      ∧ exec (.reqDrop r tag ticket) s = .next (s.replied r.val tag 31 .unknownTicket))
    ∧ (253 < reason → exec (.reqRefuse r tag ticket reason) s = .next (s.replied r.val tag 30 .range))
    ∧ ∀ e, named = some e →
      exec (.reqAccept r tag ticket position) s = .next (match e.state with
        | .sent => (told e (.accepted ticket position)
            (changed fun x => { x with state := .accepted, position := some position })).replied r.val tag 28 .ok [2]
        | .cancelling => (changed fun x => { x with position := some position }).replied r.val tag 28 .ok [5]
        | .waiting | .accepted | .cued | .playing => s.replied r.val tag 28 .wrongState)
      ∧ exec (.reqPosition r tag ticket position) s = .next (match e.state with
        | .accepted => (told e (.position ticket position)
            (changed fun x => { x with position := some position })).replied r.val tag 29 .ok [2]
        | .cued => (told e (.position ticket position)
            (changed fun x => { x with position := some position })).replied r.val tag 29 .ok [3]
        | .cancelling => (changed fun x => { x with position := some position }).replied r.val tag 29 .ok [5]
        | .waiting | .sent | .playing => s.replied r.val tag 29 .wrongState)
      ∧ (reason ≤ 253 → exec (.reqRefuse r tag ticket reason) s = .next (match e.state with
        | .sent | .accepted => (told e (.refused ticket reason) removed).replied r.val tag 30 .ok [6]
        | .cancelling => (confirmed e).replied r.val tag 30 .ok [6]
        | .cued | .playing => s.replied r.val tag 30 .inUse
        | .waiting => s.replied r.val tag 30 .wrongState))
      ∧ (e.state = .sent ∨ e.state = .accepted → exec (.reqDrop r tag ticket) s
          = .next ((told e (.refused ticket 254) removed).replied r.val tag 31 .ok [6]))
      ∧ (e.state = .cancelling → exec (.reqDrop r tag ticket) s = .next ((confirmed e).replied r.val tag 31 .ok [6]))
      ∧ (e.state = .playing → exec (.reqDrop r tag ticket) s = .next (s.replied r.val tag 31 .inUse))
      ∧ (e.state = .waiting → exec (.reqDrop r tag ticket) s = .next (s.replied r.val tag 31 .wrongState))
      ∧ (e.state = .cued → exec (.reqDrop r tag ticket) s
          = .next ((told e (.refused ticket 254) (s.setRoom r { shorter with
              latch := rm.latch.filter fun l => l.bank = none ∨ l.bank = rm.ctx.currentBank
              ctx := { rm.ctx with
                cuedBank := none, cuedTicket := none
                state := if rm.ctx.state = .cued then .idle else rm.ctx.state }
              port := if rm.ctx.state = .cued then
                  { rm.port with
                    queue := [], pendingEnd := false, markState := .none
                    audioDiscarded := rm.port.audioDiscarded + BitVec.ofNat 32 rm.port.queue.length }
                else rm.port })).replied r.val tag 31 .ok [6]))

/-- R147, R155, R162, R185: a REQUEST and a CANCEL message of a panel whose room is not OFF: the checks and clamps, the
refusals FORMAT, FULL and DUPLICATE, and the ticket issued, the first after the room's counter that no entry holds (1
after 255); a CANCEL by its ticket's entry, its source and its state. -/
def Obligations.RequestsAndCancelsAreTaken : Prop :=
  ∀ (payload : List Byte) (e : PanelId) (r : RoomId) (s : State),
    let rm := s.room r
    let told (k : ResultKind) (x : State) : State := x.updPanel e fun p => p.push k
    let song := fieldAt payload 0 3
    let counted (c : RequestCounters) : State := s.setRoom r { rm with requestCounters := c }
    let duplicate : Prop := rm.params.duplicatesRefuse = true ∧ ∃ x ∈ rm.requests, x.song = song
    (payload.length < 5 ∨ song = 0 ∨ 999999 < song → requestMessage payload e r s = told .format s)
    ∧ (5 ≤ payload.length → 1 ≤ song → song ≤ 999999 →
      (12 ≤ rm.requests.length → requestMessage payload e r s
        = told .full (counted { rm.requestCounters with refusedFull := rm.requestCounters.refusedFull + 1 }))
      ∧ (rm.requests.length < 12 → duplicate → requestMessage payload e r s = told .duplicate
          (counted { rm.requestCounters with refusedDuplicate := rm.requestCounters.refusedDuplicate + 1 }))
      ∧ (rm.requests.length < 12 → ¬ duplicate → ∃ d,
          let t := (rm.ticketCounter + d) % 255 + 1
          (∀ j, j < d → ∃ x ∈ rm.requests, x.ticket = (rm.ticketCounter + j) % 255 + 1)
          ∧ (∀ x ∈ rm.requests, x.ticket ≠ t)
          ∧ requestMessage payload e r s = told (.ticket t song)
            { s.setRoom r { rm with
                requests := rm.requests ++
                  [{ ticket := t, issue := s.issueCounter + 1, song := song,
                     keyShift := max (-6) (min (payload.getD 3 0).toInt 6),
                     singerTag := min (payload.getD 4 0).toNat 7, source := e, state := .waiting, position := none,
                     issueTime := s.venueTime, sentTime := none }]
                ticketCounter := t
                requestCounters := { rm.requestCounters with
                  ticketsIssued := rm.requestCounters.ticketsIssued + 1 } } with
              issueCounter := s.issueCounter + 1 }))
    ∧ (payload = [] → cancelMessage payload e r s = told .format s)
    ∧ ∀ b bytes, payload = b :: bytes →
      let ticket := b.toNat
      let named := rm.requests.find? fun x => x.ticket == ticket
      (named = none → cancelMessage payload e r s = told (.refused ticket 255) s)
      ∧ ∀ x, named = some x →
        (x.source ≠ e → cancelMessage payload e r s = told .notPermitted s)
        ∧ (x.source = e →
          (x.state = .waiting → cancelMessage payload e r s = told (.cancelled ticket)
            (s.setRoom r { rm with requests := rm.requests.filter fun y => y.ticket ≠ ticket }))
          ∧ (x.state = .sent ∨ x.state = .accepted → cancelMessage payload e r s =
            { s.setRoom r { rm with requests := rm.requests.map fun y =>
                if y.ticket = ticket then { y with state := .cancelling, sentTime := none } else y } with
              cancelQueue := s.cancelQueue ++ [⟨r, ticket⟩] })
          ∧ (x.state = .cancelling → cancelMessage payload e r s = s)
          ∧ (x.state = .cued ∨ x.state = .playing → cancelMessage payload e r s = told (.tooLate ticket) s))

/-- R163 and chapter 0: VENUE_TIME_TICK counts one millisecond, modulo 2^32, in every chip mode, from which REPLY_TIMEOUT
applies as CHIP_PARAM has left it, and removes the SENT and CANCELLING entries with a sent time whose wait has reached it,
one at a time, in ascending order of room and within a room in list order: the entry leaves the list, its room counts a
timeout, and its source panel's outbox gets UNANSWERED or CANCELLED. REPLY_TIMEOUT alone does the same for one ticket whose
entry is due by the value that applies in the present millisecond, and changes nothing otherwise (log 5). -/
def Obligations.VenueTimeAndTimeouts : Prop :=
  ∀ s : State,
    let due (timeout : Nat) (now : VenueTime) (e : Entry) : Bool := (e.state == .sent || e.state == .cancelling)
      && match e.sentTime with
        | none => false
        | some t => timeout * 1000 ≤ (now - t).toNat
    let dueNext : Entry → Bool := due s.chip.replyTimeout (s.venueTime + 1)
    let result (e : Entry) : ResultKind := if e.state = .sent then .unanswered e.ticket else .cancelled e.ticket
    let removed (r : RoomId) (e : Entry) (x : State) : State :=
      (x.setRoom r { x.room r with
          requests := (x.room r).requests.filter fun y => y.ticket ≠ e.ticket
          requestCounters := { (x.room r).requestCounters with timeouts := (x.room r).requestCounters.timeouts + 1 } }
        ).updPanel e.source fun p => p.push (result e)
    let ticked : State := { s with venueTime := s.venueTime + 1, timeoutInForce := s.chip.replyTimeout }
    let inRoom (r : RoomId) (x : State) : State :=
      ((s.room r).requests.filter dueNext).foldl (fun y e => removed r e y) x
    exec .venueTimeTick s = .next (inRoom 3 (inRoom 2 (inRoom 1 (inRoom 0 ticked))))
    ∧ ((∀ r, ∀ e ∈ (s.room r).requests, dueNext e = false) → exec .venueTimeTick s = .next ticked)
    ∧ (∃ t, exec .venueTimeTick s = .next t ∧ t.venueTime = s.venueTime + 1 ∧ t.cancelQueue = s.cancelQueue
      ∧ t.mode = s.mode ∧ t.reports = s.reports ∧ t.replies = s.replies ∧ t.upstream = s.upstream
      ∧ ∀ r, (t.room r) = { s.room r with
            requests := (t.room r).requests
            requestCounters := { (s.room r).requestCounters with
              timeouts := (s.room r).requestCounters.timeouts
                + BitVec.ofNat 32 ((s.room r).requests.countP dueNext) } }
        ∧ ∀ e ∈ (s.room r).requests,
          (dueNext e = true → ∀ x ∈ (t.room r).requests, x.ticket ≠ e.ticket)
          ∧ ((∀ x ∈ (s.room r).requests, x.ticket = e.ticket → dueNext x = false) → e ∈ (t.room r).requests))
    ∧ ∀ r ticket,
      let named := (s.room r).requests.find? fun e => e.ticket == ticket
      (∀ e, named = some e → due s.timeoutInForce s.venueTime e = true →
        exec (.replyTimeout r ticket) s = .next (removed r e s))
      ∧ ((∀ e, named = some e → due s.timeoutInForce s.venueTime e = false) →
        exec (.replyTimeout r ticket) s = .next s)

/-! ### The panel bus (chapter 9) -/

/-- R149: a result is added at the tail of the outbox of an enabled entry; when the outbox already holds 4 results the
oldest is removed first, the new one carries the LOST mark and RESULTS_LOST counts one, and the others keep their order
and their marks; a disabled entry's outbox stays as it is. -/
def Obligations.ResultsEnterTheOutbox : Prop :=
  ∀ (p : PollEntry) (k : ResultKind),
    (p.enabled = true → p.outbox.length < 4 → p.push k = { p with outbox := p.outbox ++ [⟨k, false⟩] })
    ∧ (∀ oldest rest, p.enabled = true → p.outbox = oldest :: rest → 3 ≤ rest.length →
        p.push k = { p with outbox := rest ++ [⟨k, true⟩], resultsLost := p.resultsLost + 1 })
    ∧ (p.enabled = false → p.push k = p)

/-- R143, R146, R148: a good answer ends the transaction in flight: the entry polled is marked as heard, its message is
handled, the next poll begins, and an idle link takes a cell that the message has made available (R180, log 11). NONE does
nothing more, an unknown kind gets FORMAT; REQUEST, CANCEL and STOP of an OFF room get NOT_PERMITTED; a STOP ends a song
where the room permits it. With no transaction in flight an answer changes nothing. (That presence is marked before the
message is handled is the model's choice, log 23; what a REQUEST or CANCEL does is said of `requestMessage` and
`cancelMessage` in a statement of its own, and what adding a result to an outbox does in another.) -/
def Obligations.PanelAnswersAreHandled : Prop :=
  ∀ (payload : List Byte) (kind : Nat) (s : State),
    (s.polling = none →
      exec (.panelNone payload) s = .next s ∧ exec (.panelUnknownKind kind payload) s = .next s
      ∧ exec (.panelRequest payload) s = .next s ∧ exec (.panelCancel payload) s = .next s
      ∧ exec (.panelStopMessage payload) s = .next s)
    ∧ (s.polling ≠ none →
      let e := s.nextEntry
      let heard := markGood e s
      let r := (s.panel e).room
      let told (k : ResultKind) (x : State) : State := x.updPanel e fun p => p.push k
      let ended (x : State) : State := (nextPoll x).sendIfIdle
      exec (.panelNone payload) s = .next (ended heard)
      ∧ exec (.panelUnknownKind kind payload) s = .next (ended (told .format heard))
      ∧ ((s.room r).ctx.state = .off →
        exec (.panelRequest payload) s = .next (ended (told .notPermitted heard))
        ∧ exec (.panelCancel payload) s = .next (ended (told .notPermitted heard))
        ∧ exec (.panelStopMessage payload) s = .next (ended (told .notPermitted heard)))
      ∧ ((s.room r).ctx.state ≠ .off →
        exec (.panelRequest payload) s = .next (ended (requestMessage payload e r heard))
        ∧ exec (.panelCancel payload) s = .next (ended (cancelMessage payload e r heard))
        ∧ exec (.panelStopMessage payload) s = .next (ended (
            if (s.room r).params.panelStopPermit = false then told .notPermitted heard
            else if (s.room r).ctx.state = .playing ∨ (s.room r).ctx.state = .held then takeEnding r .panelStop heard
            else told (.tooLate 0) heard))))

/-- R142, R143, R144, R145: the end of a poll transaction. A good answer clears the miss count and brings an ABSENT entry
to PRESENT with a PANEL_STATE; a wrong echo, a garbled frame or no answer counts a miss of its kind, and the third in a row
brings a PRESENT entry to ABSENT with a PANEL_STATE; the next enabled entry in ascending order is polled, the lowest after
the highest, its POLL carrying the head of its outbox, and an idle link takes the report raised (R180, log 11). With no
transaction in flight, or for a frame that echoes the polled address, nothing changes (log 27). -/
def Obligations.PresenceAndPolling : Prop :=
  ∀ s : State,
    let e := s.nextEntry
    let p := s.panel e
    let missed (count : PollEntry → PollEntry) : State :=
      let after := s.updPanel e fun x => count { x with
        missCount := min (x.missCount + 1) 3, present := x.present && decide (x.missCount + 1 < 3) }
      if p.present = true ∧ 2 ≤ p.missCount then raise (.panelState e p.address p.room false) after else after
    let ended (count : PollEntry → PollEntry) : State := (nextPoll (missed count)).sendIfIdle
    (∀ k, markGood k s =
      let after := s.updPanel k fun x => { x with good := x.good + 1, missCount := 0, present := true }
      if (s.panel k).present = true then after
      else raise (.panelState k (s.panel k).address (s.panel k).room true) after)
    ∧ (s.polling ≠ none →
      exec .garbled s = .next (ended fun x => { x with garbled := x.garbled + 1 })
      ∧ exec .noAnswer s = .next (ended fun x => { x with noAnswer := x.noAnswer + 1 }))
    ∧ (∀ t address, s.polling = some t →
      (address ≠ t.address → exec (.wrongEcho address) s
        = .next (ended fun x => { x with wrongEcho := x.wrongEcho + 1 }))
      ∧ (address = t.address → exec (.wrongEcho address) s = .next s))
    ∧ (s.polling = none → exec .garbled s = .next s ∧ exec .noAnswer s = .next s
        ∧ ∀ address, exec (.wrongEcho address) s = .next s)
    ∧ (∀ k, (s.panel k).enabled = true →
        (e < k ∧ (∀ j, e < j → j < k → (s.panel j).enabled = false))
          ∨ (k ≤ e ∧ (∀ j, e < j → (s.panel j).enabled = false) ∧ ∀ j, j < k → (s.panel j).enabled = false) →
        nextPoll s = { s.updPanel k (fun x => { x with outbox := x.outbox.tail, polls := x.polls + 1 }) with
          nextEntry := k
          polling := some ⟨(s.panel k).address, s.chip.pollWindow, (s.panel k).outbox.head?⟩ })
    ∧ ((∀ k, (s.panel k).enabled = false) → nextPoll s = { s with polling := none })

/-! ### Sample periods (chapter 6) -/

/-- R93 and R102: the value each output slot carries in a sample period outside chip mode STOP, by its entry and the state
of its room; in chip mode STOP every slot carries zero and nothing else changes (R90). -/
def Obligations.SamplePeriodOutputs : Prop :=
  ∀ (inputs : Vector Sample 8) (roomOrder offerOrder : Nat) (s : State),
    (s.mode = .stop → exec (.samplePeriod inputs roomOrder offerOrder) s
      = .next { s with audioOut := Vector.replicate 8 0 })
    ∧ (s.mode ≠ .stop → ∃ t, exec (.samplePeriod inputs roomOrder offerOrder) s = .next t ∧ ∀ k : SlotId,
      (s.slotOut.get k = none → t.audioOut.get k = 0)
      ∧ ∀ r c, s.slotOut.get k = some ⟨r, c⟩ →
        let rm := s.room r
        (∀ x rest, rm.ctx.state = .playing → rm.port.pendingEnd = false → rm.port.queue = x :: rest →
          t.audioOut.get k = match c with
            | .left => x.left
            | .right => x.right)
        ∧ (rm.ctx.state = .playing → rm.port.pendingEnd = true ∨ rm.port.queue = [] → t.audioOut.get k = 0)
        ∧ (∀ g, rm.ctx.state = .calibrating → rm.port.calibration = some g →
          let h := g.q + 2
          (∀ n, n < g.cycles → 2 * h * n ≤ g.period → g.period < 2 * h * n + h →
            t.audioOut.get k = BitVec.ofInt 16 g.amplitude)
          ∧ (∀ n, n < g.cycles → 2 * h * n + h ≤ g.period → g.period < 2 * h * (n + 1) →
            t.audioOut.get k = BitVec.ofInt 16 (-(g.amplitude : Int)))
          ∧ (2 * h * g.cycles ≤ g.period → t.audioOut.get k = 0))
        ∧ (rm.ctx.state = .off ∨ rm.ctx.state = .idle ∨ rm.ctx.state = .cued ∨ rm.ctx.state = .held
            ∨ rm.ctx.state = .ending → t.audioOut.get k = 0))

/-- R11, R97: what a PLAYING room's queue does in one sample period: pending END, an underrun, or the head sample with
its tick and the mark test, and the COMPLETE ending of an END mark or of the position limit; in other states nothing.
The tick runs the line test at position / 64 where the advance has made the position a multiple of 64, and no line test
runs at any other position. A tick that ends the song HALTED flushes the queue without the sample just taken, whose END
mark or position limit then ends nothing (the model's reading, log 21). It is all that a sample period does when only
this room plays or calibrates and no assembler collects (with the calibration's share), and all that SONG_POSITION_LIMIT
does, in the one period in which the limit may be met: the room's L and R slots carry the sample taken, or zero, and the
slots of other rooms keep their values (log 5). An idle link takes a report at the end of either (R180, log 11). -/
def Obligations.BackingQueueInOnePeriod : Prop :=
  ∀ (r : RoomId) (s : State),
    let rm := s.room r
    let advanced : State := markTest r (songTick r (s.setRoom r { rm with
      port := { rm.port with queue := rm.port.queue.tail, inUnderrun := false }
      ctx := { rm.ctx with position := rm.ctx.position + 1 } }))
    (rm.ctx.state ≠ .playing → backingOutput r s = s)
    ∧ (rm.ctx.state = .playing →
      (rm.port.pendingEnd = true → backingOutput r s
        = takeEnding r .complete (s.setRoom r { rm with port := { rm.port with pendingEnd := false } }))
      ∧ (rm.port.pendingEnd = false → rm.port.queue = [] → backingOutput r s = s.setRoom r { rm with
          port := { rm.port with underrunPeriods := rm.port.underrunPeriods + 1, inUnderrun := true }
          ctx := { rm.ctx with underrunCount :=
            if rm.port.inUnderrun then rm.ctx.underrunCount else min (rm.ctx.underrunCount + 1) 65535 } })
      ∧ ∀ x rest, rm.port.pendingEnd = false → rm.port.queue = x :: rest →
        (x.endMark = true ∨ rm.ctx.position + 1 = 4294967295 → backingOutput r s = takeEnding r .complete advanced)
        ∧ (x.endMark = false → rm.ctx.position + 1 ≠ 4294967295 → backingOutput r s = advanced))
    ∧ (rm.ctx.state = .playing → 0 < rm.ctx.position → rm.ctx.position % 64 = 0 →
        songTick r s = lineTest r (rm.ctx.position / 64) s)
    ∧ (rm.ctx.state ≠ .playing ∨ rm.ctx.position = 0 ∨ rm.ctx.position % 64 ≠ 0 → songTick r s = s)
    ∧ (rm.ctx.state = .playing → rm.ctx.position + 1 = 4294967295 → ∃ out : Vector Sample 8,
        exec (.songPositionLimit r) s = .next (backingOutput r { s with audioOut := out }).sendIfIdle
        ∧ ∀ k : SlotId,
          ((∀ c, s.slotOut.get k ≠ some ⟨r, c⟩) → out.get k = s.audioOut.get k)
          ∧ ∀ c, s.slotOut.get k = some ⟨r, c⟩ →
            (rm.port.pendingEnd = true ∨ rm.port.queue = [] → out.get k = 0)
            ∧ ∀ x rest, rm.port.pendingEnd = false → rm.port.queue = x :: rest → out.get k = match c with
              | .left => x.left
              | .right => x.right)
    ∧ (rm.ctx.state ≠ .playing ∨ rm.ctx.position + 1 ≠ 4294967295 → exec (.songPositionLimit r) s = .next s)
    ∧ (∀ inputs roomOrder offerOrder, s.mode ≠ .stop →
        (∀ k, k ≠ r → (s.room k).ctx.state ≠ .playing ∧ (s.room k).ctx.state ≠ .calibrating) →
        (∀ k m, ((s.room k).mic m).assembler.assembling = false) →
        ∃ out, exec (.samplePeriod inputs roomOrder offerOrder) s
          = .next (calibrationStep r inputs (backingOutput r { s with audioOut := out })).sendIfIdle)

/-! ### Lyrics (chapter 4) -/

/-- R56 to R61: the line test at clock `t`, and the SONG_TICK that runs it in a room that stands at a tick (log 5), an idle
link taking a report at its end (R180, log 11). The largest line after the current one that is loaded and whose start less
ADVANCE_LEAD is reached becomes current, with the LINE_SCORE of the line left, which takes and clears the line counts, and
one for each line passed, SKIPPED, of zeros and UNSCORED (R136), or ends the song when a halt is pending; then the hold step finishes the song's LAST line, or counts a starvation, or ends one. -/
def Obligations.LineTestsAdvanceAndHold : Prop :=
  ∀ (r : RoomId) (t : Nat) (s : State),
    let rm := s.room r
    let ly := rm.ctx.lyric
    let lines : List Line := match rm.ctx.currentBank with
      | some b => (rm.bank b).lines
      | none => []
    let reached (k : Nat) : Prop :=
      ly.current < k ∧ ∃ l, lines[k]? = some l ∧ l.start ≤ t + rm.params.advanceLead
    let withLyric (l : LyricState) : State := s.setRoom r { rm with ctx := { rm.ctx with lyric := l } }
    let lane (skipped : Bool) (x : Assign) (m : Mic) : LineLane :=
      if skipped then { assign := x, s := 0, p := 0, score := { value := 0, unscored := true }, frozen := false }
      else { assign := x, s := m.lane.line.s, p := m.lane.line.p, score := scoreOf m.lane.line.s m.lane.line.p,
             frozen := m.lane.line.frozen }
    let score (k : Nat) (skipped : Bool) : Report := ⟨.lineScore
      { room := r, epoch := rm.ctx.epoch, line := k, skipped := skipped
        mic1 := lane skipped rm.ctx.assign1 rm.mic1, mic2 := lane skipped rm.ctx.assign2 rm.mic2 }, s.venueTime, 0⟩
    ((∀ k, ¬ reached k) → lineTest r t s = holdStep r t s)
    ∧ (∀ k, reached k → (∀ j, k < j → ¬ reached j) →
      (ly.haltPending = true → lineTest r t s = takeEnding r .halted s)
      ∧ (ly.haltPending = false →
        let a := advanceTo r k t s
        lineTest r t s = holdStep r t a
        ∧ (a.room r).ctx = { rm.ctx with
            skipCount := min (rm.ctx.skipCount + (k - ly.current - 1)) 65535
            lyric := { ly with
              current := k, scrollStart := t, scrollLength := rm.params.scrollTicks, starved := false } }
        ∧ a.room r = { rm with
            ctx := (a.room r).ctx, stack := (a.room r).stack
            mic1 := { rm.mic1 with lane := { rm.mic1.lane with line := {} } }
            mic2 := { rm.mic2 with lane := { rm.mic2.lane with line := {} } } }
        ∧ (∀ j, j ≠ r → a.room j = s.room j)
        ∧ a = { s with
            rooms := a.rooms, reports := a.reports
            link := { s.link with
              reportsStacked := a.link.reportsStacked, reportsReplaced := a.link.reportsReplaced } }
        ∧ (s.reports.length + (k - ly.current) ≤ 16 → rm.stack.isEmpty = true →
            a.reports = s.reports ++ score ly.current false ::
              (List.range' (ly.current + 1) (k - ly.current - 1)).map fun j => score j true)))
    ∧ (lines[ly.current]? = none → holdStep r t s = s)
    ∧ (∀ l, lines[ly.current]? = some l →
      (l.last = true →
        (t < l.finish ∨ ly.finished = true → holdStep r t s = s)
        ∧ (l.finish ≤ t → ly.finished = false → holdStep r t s =
            if ly.haltPending then takeEnding r .halted (withLyric { ly with finished := true })
            else withLyric { ly with finished := true }))
      ∧ (l.last = false →
        (ly.current + 1 < lines.length → holdStep r t s = withLyric { ly with starved := false })
        ∧ (lines.length ≤ ly.current + 1 → t < l.finish ∨ ly.starved = true → holdStep r t s = s)
        ∧ (lines.length ≤ ly.current + 1 → l.finish ≤ t → ly.starved = false →
            holdStep r t s = s.setRoom r { rm with ctx := { rm.ctx with
              starvedEver := true, starvationCount := min (rm.ctx.starvationCount + 1) 65535
              lyric := { ly with starved := true } } })))
    ∧ (rm.ctx.state = .playing → 0 < rm.ctx.position → rm.ctx.position % 64 = 0 →
        exec (.songTick r) s = .next (lineTest r (rm.ctx.position / 64) s).sendIfIdle)
    ∧ (rm.ctx.state ≠ .playing ∨ rm.ctx.position % 64 ≠ 0 ∨ rm.ctx.position = 0 → exec (.songTick r) s = .next s)

/-! ### Voices and scores (chapters 7 and 8) -/

/-- R109, R110, R111, R112, R120: a frame assembler takes a period's sample, its 1024th completing the frame; a completed
frame enters the frame queue, the first of an empty one beginning its analysis, or is dropped and counted on a full one; a
completed analysis hands its result to the Score Unit, keeps it as the microphone's last and begins the next. In standby,
or with no analysis in flight, ANALYSIS_COMPLETE changes nothing (log 6). -/
def Obligations.FramesMoveToTheScoreUnit : Prop :=
  (∀ (a : Assembler) (x : Sample) (gave : Bool),
    let consumed := a.consumed + if gave then 1 else 0
    (a.assembling = true → a.samples.length < 1023 →
      a.take (some x) gave = ({ a with samples := a.samples ++ [x], consumed := consumed }, none))
    ∧ (a.assembling = true → a.samples.length = 1023 →
      a.take (some x) gave = ({ a with samples := [], consumed := 0 }, some (a.samples ++ [x], consumed)))
    ∧ (a.assembling = false → a.take (some x) gave = (a, none)) ∧ a.take none gave = (a, none))
  ∧ ∀ s : State,
    let values (f : FrameRecord) : Analysis :=
      ⟨(s.room f.room).params.voiceThreshold, (s.room f.room).params.hysteresis, s.ladder.bounds⟩
    (∀ f,
      (s.frameQueue = [] → s.engine = none →
        offerFrame f s = { s with frameQueue := [f], engine := some (values f) })
      ∧ (s.frameQueue.length < 8 → s.engine ≠ none → offerFrame f s = { s with frameQueue := s.frameQueue ++ [f] })
      ∧ (8 ≤ s.frameQueue.length → offerFrame f s = s.updRoom f.room fun rm => rm.updMic f.mic fun m =>
          { m with assembler := { m.assembler with dropped := m.assembler.dropped + 1 } }))
    ∧ (∀ a f rest, s.mode ≠ .stop → s.engine = some a → s.frameQueue = f :: rest →
        exec .analysisComplete s = .next
          { s.setRoom f.room (((s.room f.room).scoreFrame (analyse a f)).updMic f.mic fun m =>
              { m with lastResult := some (analyse a f) }) with
            frameQueue := rest
            engine := rest.head?.map values })
    ∧ (s.mode = .stop ∨ s.engine = none → exec .analysisComplete s = .next s)

/-- R92, R109, R110, R111: SAMPLE_PERIOD outside chip mode STOP, with any rooms playing and any assemblers collecting, under
a slot map in which no two input slots share a target (R91). An ASSEMBLING assembler whose microphone is the target of an
input slot adds that slot's sample, and counts a backing sample consumed when its room's queue gives one up in the period;
its 1024th completes the frame and a new partial frame starts (in a room whose song does not end in the period, which
stops its assemblers); an assembler that no slot feeds keeps its frame. The records of the frames completed, one for each
such assembler, mic 1 before mic 2 and the rooms in the command's room order, join the frame queue up to 8 in the order of
them that the command numbers, which holds each of them once (`ordered`, log 4), labelled with the room's epoch, and with the
position and current line the period leaves, whether or not it ends the song (R110; that input comes before the period's
output in every room is the model's reading, log 20). -/
def Obligations.SamplePeriodFeedsTheAssemblers : Prop :=
  ∀ (inputs : Vector Sample 8) (roomOrder offerOrder : Nat) (s : State), s.mode ≠ .stop →
    (∀ i k x, s.slotIn.get i = some x → s.slotIn.get k = some x → i = k) →
    ∃ t, exec (.samplePeriod inputs roomOrder offerOrder) s = .next t ∧
    let a (r : RoomId) (m : MicId) : Assembler := ((s.room r).mic m).assembler
    let b (r : RoomId) (m : MicId) : Assembler := ((t.room r).mic m).assembler
    let feeds (k : SlotId) (r : RoomId) (m : MicId) : Prop := s.slotIn.get k = some ⟨r, m⟩
    let gives (r : RoomId) : Nat :=
      if (s.room r).ctx.state = .playing ∧ (s.room r).port.pendingEnd = false ∧ (s.room r).port.queue ≠ [] then 1 else 0
    let goesOn (r : RoomId) : Prop := (s.room r).ctx.state = .playing →
      (s.room r).port.pendingEnd = false ∧ (∀ x, (s.room r).port.queue.head? = some x → x.endMark = false)
        ∧ (s.room r).ctx.position + 1 ≠ 4294967295 ∧ (s.room r).ctx.lyric.haltPending = false
    (∀ r m, goesOn r →
      (∀ k, feeds k r m → (a r m).assembling = true →
        ((a r m).samples.length < 1023 → b r m = { a r m with
          samples := (a r m).samples ++ [inputs.get k], consumed := (a r m).consumed + gives r })
        ∧ ((a r m).samples.length = 1023 →
          (b r m).samples = [] ∧ (b r m).consumed = 0 ∧ (b r m).assembling = true))
      ∧ ((a r m).assembling = false ∨ (∀ k, ¬ feeds k r m) → b r m = a r m))
    ∧ ((∀ r m, (a r m).samples.length ≤ 1023) → s.frameQueue.length ≤ 8 → ∃ completed : List FrameRecord,
        t.frameQueue = (s.frameQueue ++ ordered offerOrder completed).take 8
        ∧ (ordered offerOrder completed).Perm completed
        ∧ completed.map (fun f => (f.room, f.mic))
          = ((ordered roomOrder [0, 1, 2, 3]).flatMap fun r => [(r, (0 : MicId)), (r, 1)]).filter (fun (r, m) =>
              (List.finRange 8).any (fun k => s.slotIn.get k = some ⟨r, m⟩) && (a r m).assembling
                && (a r m).samples.length == 1023)
        ∧ ∀ f ∈ completed, ∃ k, feeds k f.room f.mic
            ∧ f = { room := f.room, mic := f.mic, epoch := (s.room f.room).ctx.epoch
                    consumed := (a f.room f.mic).consumed + gives f.room
                    pEnd := (s.room f.room).ctx.position + gives f.room
                    lineIndex := (t.room f.room).ctx.lyric.current
                    samples := (a f.room f.mic).samples ++ [inputs.get k], stale := false })

/-- R114: the crossing detector: armed, a sample at or above +H is a crossing at its index and disarms it; disarmed, a
sample at or below -H arms it; any other sample changes nothing; and a frame is examined from its first sample, disarmed.
R113, R115 and R116: the result of a frame of 1024 samples. -/
def Obligations.AnalysisOfAFrame : Prop :=
  (∀ (h i : Nat) (x : Sample) (d : Detector),
    (d.armed = true → (h : Int) ≤ x.toInt → examine h d i x =
      { armed := false, n := d.n + 1, first := if d.n = 0 then i else d.first, last := i })
    ∧ (d.armed = true → x.toInt < h → examine h d i x = d)
    ∧ (d.armed = false → x.toInt ≤ -(h : Int) → examine h d i x = { d with armed := true })
    ∧ (d.armed = false → -(h : Int) < x.toInt → examine h d i x = d))
  ∧ (∀ (h i : Nat) (front : List Sample) (x : Sample) (d : Detector), detect h i [] d = d
    ∧ detect h i (front ++ [x]) d = examine h (detect h i front d) (i + front.length) x)
  ∧ ∀ (a : Analysis) (f : FrameRecord), f.samples.length = 1024 →
    let res := analyse a f
    let d := detect a.hysteresis 0 f.samples { armed := false, n := 0, first := 0, last := 0 }
    let bound (k : Nat) : Nat := a.bounds.getD k 0
    res.mav = (f.samples.map fun x => x.toInt.natAbs).sum / 1024 ∧ res.mav ≤ 32768
    ∧ res.crossings = d.n ∧ d.n ≤ 512
    ∧ (d.n < 2 → res.period = none ∧ res.voiced = false)
    ∧ (2 ≤ d.n → 1 ≤ d.first ∧ 2 * (d.n - 1) ≤ d.last - d.first ∧ d.last - d.first ≤ 1022
        ∧ res.period = some (16 * (d.last - d.first) / (d.n - 1))
        ∧ 32 ≤ 16 * (d.last - d.first) / (d.n - 1) ∧ 16 * (d.last - d.first) / (d.n - 1) ≤ 16352)
    ∧ (res.voiced = true ↔ a.voiceThreshold ≤ res.mav
        ∧ ∃ p, res.period = some p ∧ bound 42 ≤ p ∧ p < bound 0)
    ∧ (res.voiced = false → res.note = none)
    ∧ ((∀ k, k ≤ 41 → bound (k + 1) < bound k) → ∀ p, res.voiced = true → res.period = some p →
        ∃ k, k ≤ 41 ∧ bound (k + 1) ≤ p ∧ p < bound k ∧ res.note = some (43 + k)
          ∧ ∀ j, j ≤ 41 → bound (j + 1) ≤ p → p < bound j → j = k)
    ∧ res.room = f.room ∧ res.mic = f.mic ∧ res.epoch = f.epoch ∧ res.stale = f.stale ∧ res.consumed = f.consumed
    ∧ res.pEnd = f.pEnd ∧ res.lineIndex = f.lineIndex

/-- R125 to R129, R131, R132, R133, R135: a frame of another epoch, a stale one and one that completes out of a song are
discarded; any other is counted in its lane with its outcome: DISTURBED, REST before the first evaluable tick, REST or
UNGUIDED where no note covers it, or the best grade over the notes that cover it. R127: both cursors of the lane move,
past every note of no such part and every one that has ended, to the first note of their part that ends later, and of a
guide in which no two notes of a part overlap, as in every lawful bank (R31), with every note before a cursor over, the
notes found are those of the assignment's parts that cover the tick. Counting an outcome raises its own counter, which
stops at 65535 (R121); a graded frame alone is credited, to both sets of accumulators, each unless it is frozen: S and
the count of that very grade rise by 1, P by the grade's points (R132, R133). A score is the percentage of the points
that could be earned (R135). -/
def Obligations.FramesAreJudgedAndCredited : Prop :=
  (∀ (rm : Room) (f : ResultRecord),
    let lane := (rm.mic f.mic).lane
    let counted (o : FrameOutcome) (l : Lane) : Room := rm.updMic f.mic fun m => { m with lane := l.count o }
    let inSong : Prop := f.epoch = rm.ctx.epoch ∧ f.stale = false ∧ rm.ctx.singing = true
    (¬ inSong → rm.scoreFrame f = rm)
    ∧ (inSong → f.consumed ≠ 1024 → rm.scoreFrame f = counted .disturbed lane)
    ∧ (inSong → f.consumed = 1024 → f.pEnd < 512 ∨ (f.pEnd - 512) / 64 < rm.ctx.comp →
        rm.scoreFrame f = counted .rest lane)
    ∧ (∀ b, inSong → f.consumed = 1024 → 512 ≤ f.pEnd → rm.ctx.comp ≤ (f.pEnd - 512) / 64 →
        rm.ctx.currentBank = some b →
        let t : Nat := (f.pEnd - 512) / 64 - rm.ctx.comp
        let moved := lane.lookUp (rm.bank b).guide t
        let open_ : Prop := (rm.bank b).state = .filling ∧ ∀ g, (rm.bank b).lastGuideStart = some g → g ≤ t
        (moved.covering (rm.bank b).guide (rm.ctx.assign f.mic) t = [] →
          (open_ → rm.scoreFrame f = counted .unguided moved) ∧ (¬ open_ → rm.scoreFrame f = counted .rest moved))
        ∧ ∀ g gs, moved.covering (rm.bank b).guide (rm.ctx.assign f.mic) t = g :: gs →
          ∃ best, rm.scoreFrame f = counted (.graded best) moved
            ∧ (∃ x ∈ g :: gs, best = judge rm.params rm.ctx.keyShift f.note x)
            ∧ ∀ x ∈ g :: gs, (judge rm.params rm.ctx.keyShift f.note x).points ≤ best.points))
  ∧ (∀ (p : RoomParams) (shift : Int) (g0 : GuideNote),
    judge p shift none g0 = .silent
    ∧ ∀ n : Nat,
      let g : Int := g0.note + shift
      let graded (d : Nat) : Grade := if d = 0 then .perfect else if d ≤ p.tolerance then .near else .off
      (p.octaveFold = false → g < 43 ∨ 84 < g → judge p shift (some n) g0 = .off)
      ∧ (p.octaveFold = false → 43 ≤ g → g ≤ 84 → judge p shift (some n) g0 = graded (n - g).natAbs)
      ∧ (p.octaveFold = true → judge p shift (some n) g0 = graded ((n - g + 6) % 12 - 6).natAbs
          ∧ -6 ≤ (n - g + 6) % 12 - 6 ∧ (n - g + 6) % 12 - 6 ≤ 5))
  ∧ (∀ (a : Accumulators) (g : Grade),
    (a.frozen = true → a.credit g = a)
    ∧ (a.frozen = false → (a.credit g).s = a.s + 1
        ∧ (a.credit g).p = a.p + (match g with | .perfect => 4 | .near => 2 | .off => 0 | .silent => 0)
        ∧ (a.credit g).perfect = a.perfect + (if g = .perfect then 1 else 0)
        ∧ (a.credit g).near = a.near + (if g = .near then 1 else 0)
        ∧ (a.credit g).off = a.off + (if g = .off then 1 else 0)
        ∧ (a.credit g).silent = a.silent + (if g = .silent then 1 else 0)
        ∧ ((a.credit g).frozen = true ↔ 65535 ≤ a.s + 1)))
  ∧ (∀ (l : Lane) (o : FrameOutcome),
    let raised (n : Nat) (x : FrameOutcome) : Nat := if o = x then min (n + 1) 65535 else n
    l.count o =
      { song := match o with
          | .graded g => l.song.credit g
          | _ => l.song
        line := match o with
          | .graded g => l.line.credit g
          | _ => l.line
        outcomes :=
          { perfect := raised l.outcomes.perfect (.graded .perfect), near := raised l.outcomes.near (.graded .near)
            off := raised l.outcomes.off (.graded .off), silent := raised l.outcomes.silent (.graded .silent)
            disturbed := raised l.outcomes.disturbed .disturbed, rest := raised l.outcomes.rest .rest
            unguided := raised l.outcomes.unguided .unguided }
        cursorA := l.cursorA, cursorB := l.cursorB })
  ∧ (∀ (l : Lane) (guide : List GuideNote) (t : Nat), l.cursorA ≤ guide.length → l.cursorB ≤ guide.length →
    let moved := l.lookUp guide t
    let hasA (g : GuideNote) : Prop := g.part ≠ .b
    let hasB (g : GuideNote) : Prop := g.part ≠ .a
    let stops (belongs : GuideNote → Prop) (before after : Nat) : Prop :=
      before ≤ after ∧ after ≤ guide.length
      ∧ (∀ (i : Nat) (g : GuideNote), before ≤ i → i < after → guide[i]? = some g → belongs g → g.start + g.duration ≤ t)
      ∧ ∀ g : GuideNote, guide[after]? = some g → belongs g ∧ t < g.start + g.duration
    let apart (belongs : GuideNote → Prop) (cursor : Nat) : Prop :=
      (∀ (i j : Nat) (g h : GuideNote), i < j → guide[i]? = some g → guide[j]? = some h → belongs g → belongs h → g.start + g.duration ≤ h.start)
      ∧ ∀ (i : Nat) (g : GuideNote), i < cursor → guide[i]? = some g → belongs g → g.start + g.duration ≤ t
    let reads (x : Assign) (g : GuideNote) : Prop := match x with
      | .a => hasA g
      | .b => hasB g
      | .all => True
      | .off => False
    stops hasA l.cursorA moved.cursorA ∧ stops hasB l.cursorB moved.cursorB
    ∧ moved.song = l.song ∧ moved.line = l.line ∧ moved.outcomes = l.outcomes
    ∧ (apart hasA l.cursorA → apart hasB l.cursorB → ∀ (x : Assign) (g : GuideNote),
        g ∈ moved.covering guide x t ↔ g ∈ guide ∧ g.start ≤ t ∧ t < g.start + g.duration ∧ reads x g))
  ∧ ∀ s p : Nat, scoreOf 0 p = ⟨0, true⟩ ∧ (0 < s → scoreOf s p = ⟨100 * p / (4 * s), false⟩)
    ∧ (p ≤ 4 * s → (scoreOf s p).value ≤ 100)
end

