-- ==== Sys2Proof/Laws/Audio.lean ====
section
/-! SUPPORT. The values the output slots carry, slot by slot (R93). -/

namespace Sys2Proof.Machine

@[simp] theorem slotVector_get (value : SlotId → Sample) (k : SlotId) : (slotVector value).get k = value k := by
  match k with
  | 0 | 1 | 2 | 3 | 4 | 5 | 6 | 7 => rfl

@[simp] theorem slotValues_get (s : State) (k : SlotId) : s.slotValues.get k = s.slotValue k := slotVector_get _ k

/-- A slot mapped to room `r` carries the room's value of the period; every other slot keeps its own. -/
theorem roomSlotValues_get (s : State) (r : RoomId) (k : SlotId) :
    (s.roomSlotValues r).get k =
      if (s.slotOut.get k).map ChannelTarget.room = some r then s.slotValue k else s.audioOut.get k :=
  slotVector_get _ k

end Sys2Proof.Machine
end

