-- ==== Sys2Proof/Laws/Loads.lean ====
section
/-! SUPPORT. Loading keeps the laws: a bank through BANK_OPEN, its APPENDs, BANK_CLOSE and a clearing (R26 to R36), and the
Glyph Table through FONT_CLEAR, the records of an APPEND and the completion of a clearing (R46 to R50). -/

namespace Sys2Proof.Machine

/-! ### Banks -/

/-- A bank that holds nothing but its song id and is neither FILLING nor CLOSED is lawful. -/
theorem unloadedBank_lawful (st : BankState) (id : Nat) (h : st ≠ .filling ∧ st ≠ .closed) :
    ({ state := st, songId := id } : Bank).Lawful := by
  refine ⟨fun _ => rfl, fun e => ?_, by simp, fun e => absurd e h.2, .nil, .nil, rfl, rfl, by simp, by simp, by simp⟩
  simp [Bank.loaded, h.1, h.2] at e

theorem beginClearing_lawful (b : Bank) : b.beginClearing.Lawful := unloadedBank_lawful _ _ ⟨by decide, by decide⟩

theorem emptyBank_lawful : ({} : Bank).Lawful := unloadedBank_lawful .empty 0 ⟨by decide, by decide⟩

theorem openedBank_lawful (songId lines syllables notes : Nat) (h : declaredOk lines syllables notes = true) :
    (openedBank songId lines syllables notes).Lawful := by
  simp only [declaredOk, Bool.and_eq_true, decide_eq_true_eq] at h
  refine ⟨fun e => ?_, fun _ => ?_, by simp [openedBank], fun e => by simp [openedBank] at e, .nil, .nil, rfl, rfl,
    by simp [openedBank], by simp [openedBank], by simp [openedBank]⟩
  · simp [openedBank, Bank.loaded] at e
  · simp only [openedBank]; omega

theorem closeBank_lawful (b : Bank) (h : b.Lawful) (hf : b.state = .filling) (hc : b.complete = true) :
    ({ b with state := .closed } : Bank).Lawful := by
  have hl : b.loaded = true := by simp [Bank.loaded, hf]
  simp only [Bank.complete, Bool.and_eq_true, beq_iff_eq] at hc
  exact ⟨fun e => by simp [Bank.loaded] at e, fun _ => h.declared hl, h.frontiers, fun _ => ⟨hc.1.1, hc.1.2, hc.2⟩,
    h.syllables, h.guide, h.lastSyllable, h.lastGuide, h.ends, h.covered, h.last⟩

/-- In a list of rising starts the last is the greatest. -/
theorem le_getLast_of_pairwise {α : Type} (f : α → Nat) (xs : List α) (h : xs.Pairwise fun x y => f x ≤ f y) (x : α)
    (hx : x ∈ xs) : f x ≤ (xs.getLast?.map f).getD 0 := by
  obtain ⟨ys, z, rfl⟩ := List.eq_nil_or_concat xs |>.resolve_left (List.ne_nil_of_mem hx)
  simp only [List.concat_eq_append, List.getLast?_append, List.getLast?_singleton, Option.some_or, Option.map_some,
    Option.getD_some]
  simp only [List.concat_eq_append, List.mem_append, List.mem_singleton] at hx
  rw [List.concat_eq_append, List.pairwise_append] at h
  rcases hx with hx | rfl
  · exact h.2.2 x hx z (List.mem_singleton.mpr rfl)
  · exact Nat.le_refl _

theorem takeSyllable_lawful (b b' : Bank) (x : SyllableRec) (h : b.Lawful) (hf : b.state = .filling)
    (hd : b.syllables.length < b.declaredSyllables) (e : takeSyllable b x = some b') :
    b'.Lawful ∧ b'.state = .filling ∧ b'.syllables.length = b.syllables.length + 1
      ∧ b'.declaredSyllables = b.declaredSyllables := by
  have hl : b.loaded = true := by simp [Bank.loaded, hf]
  unfold takeSyllable at e
  split at e
  · cases e
  · next hn =>
    simp only [not_or, not_lt] at hn
    cases e
    refine ⟨⟨fun e => by simp [Bank.loaded, hf] at e, fun _ => h.declared hl, ?_, fun e => by simp [hf] at e, ?_, h.guide,
      by simp, h.lastGuide, h.ends, ?_, h.last⟩, hf, by simp, rfl⟩
    · have := h.frontiers
      simp only [List.length_append, List.length_singleton]
      omega
    · refine List.pairwise_append.mpr ⟨h.syllables, List.pairwise_singleton _ _, fun y hy z hz => ?_⟩
      rw [List.mem_singleton.mp hz]
      have := le_getLast_of_pairwise _ _ h.syllables y hy
      rw [← h.lastSyllable] at this
      exact Nat.le_trans this hn.1
    · intro l hl
      have := h.covered l hl
      simp only [List.length_append, List.length_singleton]
      omega

theorem takeLine_lawful (b b' : Bank) (x : LineRec) (h : b.Lawful) (hf : b.state = .filling)
    (hd : b.lines.length < b.declaredLines) (e : takeLine b x = some b') :
    b'.Lawful ∧ b'.state = .filling ∧ b'.lines.length = b.lines.length + 1 ∧ b'.declaredLines = b.declaredLines := by
  have hl : b.loaded = true := by simp [Bank.loaded, hf]
  unfold takeLine at e
  split at e
  · cases e
  · split at e
    · cases e
    · next hn =>
      simp only [not_or, not_lt, ne_eq, Decidable.not_not, Bank.syllableFrontier, Bank.lineFrontier] at hn
      cases e
      refine ⟨⟨fun e => by simp [Bank.loaded, hf] at e, fun _ => h.declared hl, ?_, fun e => by simp [hf] at e, h.syllables,
        h.guide, h.lastSyllable, h.lastGuide, h.ends, ?_, ?_⟩, hf, by simp, rfl⟩
      · have := h.frontiers
        simp only [List.length_append, List.length_singleton]
        omega
      · intro l hm
        rcases List.mem_append.mp hm with hm | hm
        · exact h.covered l hm
        · rw [List.mem_singleton.mp hm]
          exact ⟨hn.1, hn.2.2.2.1⟩
      · intro k l hk
        rcases Nat.lt_or_ge k b.lines.length with hlt | hge
        · rw [List.getElem?_append_left hlt] at hk
          exact h.last k l hk
        · rw [List.getElem?_append_right hge] at hk
          obtain ⟨h0, hv⟩ := List.getElem?_eq_some_iff.mp hk
          simp only [List.length_singleton] at h0
          have hk0 : k = b.lines.length := by omega
          subst hk0
          simp only [Nat.sub_self, List.getElem_cons_zero] at hv
          rw [← hv]
          simp only [hn.2.2.2.2.2]
          exact ⟨of_decide_eq_true, decide_eq_true⟩

theorem takeGuide_lawful (b b' : Bank) (x : GuideRec) (h : b.Lawful) (hf : b.state = .filling)
    (hd : b.guide.length < b.declaredNotes) (e : takeGuide b x = some b') :
    b'.Lawful ∧ b'.state = .filling ∧ b'.guide.length = b.guide.length + 1 ∧ b'.declaredNotes = b.declaredNotes := by
  have hl : b.loaded = true := by simp [Bank.loaded, hf]
  unfold takeGuide at e
  split at e
  · cases e
  · next part _ =>
    split at e
    · cases e
    · next hn =>
      simp only [not_or, not_lt, not_and] at hn
      cases e
      refine ⟨⟨fun e => by simp [Bank.loaded, hf] at e, fun _ => h.declared hl, ?_, fun e => by simp [hf] at e, h.syllables,
        ?_, h.lastSyllable, by simp, ?_, h.covered, h.last⟩, hf, by simp, rfl⟩
      · have := h.frontiers
        simp only [List.length_append, List.length_singleton]
        omega
      · refine List.pairwise_append.mpr ⟨h.guide, List.pairwise_singleton _ _, fun y hy z hz => ?_⟩
        rw [List.mem_singleton.mp hz]
        have hs := le_getLast_of_pairwise GuideNote.start _ (h.guide.imp And.left) y hy
        rw [← h.lastGuide] at hs
        refine ⟨Nat.le_trans hs hn.1, fun hp => ?_⟩
        simp only [Part.shares, Bool.or_eq_true, Bool.and_eq_true] at hp
        rcases hp with hp | hp
        · exact Nat.le_trans ((h.ends y hy).1 hp.1) (hn.2.2.2.2.1 hp.2)
        · exact Nat.le_trans ((h.ends y hy).2 hp.1) (hn.2.2.2.2.2 hp.2)
      · intro g hg
        rcases List.mem_append.mp hg with hg | hg
        · have hA := (h.ends g hg).1
          have hB := (h.ends g hg).2
          refine ⟨fun ha => ?_, fun hb => ?_⟩
          · dsimp only; split
            · next hp => exact Nat.le_trans (hA ha) (Nat.le_trans (hn.2.2.2.2.1 hp) (Nat.le_add_right _ _))
            · exact hA ha
          · dsimp only; split
            · next hp => exact Nat.le_trans (hB hb) (Nat.le_trans (hn.2.2.2.2.2 hp) (Nat.le_add_right _ _))
            · exact hB hb
        · rw [List.mem_singleton.mp hg]
          exact ⟨fun ha => by simp at ha; simp [ha], fun hb => by simp at hb; simp [hb]⟩

/-- An APPEND of as many records as its section has room for keeps a FILLING bank lawful and FILLING, when the record's
check keeps it so and moves the frontier by one. -/
theorem takeRecords_lawful {α : Type} (take : Bank → α → Option Bank) (frontier declared : Bank → Nat)
    (one : ∀ b b' x, b.Lawful → b.state = .filling → frontier b < declared b → take b x = some b' →
      b'.Lawful ∧ b'.state = .filling ∧ frontier b' = frontier b + 1 ∧ declared b' = declared b)
    (xs : List α) (b b' : Bank) (i : Nat) (h : b.Lawful) (hf : b.state = .filling)
    (hd : frontier b + xs.length ≤ declared b) (e : takeRecords take b i xs = .ok b') :
    b'.Lawful ∧ b'.state = .filling ∧ frontier b' = frontier b + xs.length ∧ declared b' = declared b := by
  induction xs generalizing b i with
  | nil => cases e; exact ⟨h, hf, rfl, rfl⟩
  | cons x xs ih =>
    simp only [takeRecords] at e
    split at e
    · cases e
    · next c hc =>
      simp only [List.length_cons] at hd ⊢
      obtain ⟨h1, h2, h3, h4⟩ := one b c x h hf (by omega) hc
      obtain ⟨k1, k2, k3, k4⟩ := ih c (i + 1) h1 h2 (by omega) e
      exact ⟨k1, k2, by omega, by omega⟩

/-- R27: the bank an APPEND leaves is lawful and FILLING as it was. -/
theorem appendVerdict_lawful {α : Type} (take : Bank → α → Option Bank) (frontier declared : Bank → Nat)
    (one : ∀ b b' x, b.Lawful → b.state = .filling → frontier b < declared b → take b x = some b' →
      b'.Lawful ∧ b'.state = .filling ∧ frontier b' = frontier b + 1 ∧ declared b' = declared b)
    (b b' : Bank) (first : Nat) (xs : List α) (h : b.Lawful)
    (e : appendVerdict take frontier declared b first xs = .taken b') :
    b'.Lawful ∧ b.state = .filling ∧ b'.state = .filling ∧ frontier b' = frontier b + xs.length := by
  unfold appendVerdict at e
  split at e
  · cases e
  · next hf =>
    split at e
    · cases e
    · split at e
      · cases e
      · next hd =>
        split at e
        · cases e
        · next hok =>
          cases e
          obtain ⟨h1, h2, h3, _⟩ := takeRecords_lawful take frontier declared one xs b _ 0 h
            (Decidable.not_not.mp hf) (Nat.le_of_not_lt hd) hok
          exact ⟨h1, Decidable.not_not.mp hf, h2, h3⟩

/-! ### The Glyph Table -/

theorem pinResetFont_lawful : ({} : GlyphTable).Lawful :=
  ⟨by decide, by simp, .nil, rfl, rfl, by decide, fun _ => rfl⟩

/-- R46: the table a FONT_CLEAR leaves. -/
theorem clearedFont_lawful (height spaceAdvance missingAdvance : Nat)
    (h : headerOk height spaceAdvance missingAdvance = true) :
    ({ clearing := true, height := height, spaceAdvance := spaceAdvance, missingAdvance := missingAdvance,
       glyphs := [], lastCode := none, coverageUsed := 0 } : GlyphTable).Lawful := by
  simp only [headerOk, Bool.and_eq_true, decide_eq_true_eq] at h
  exact ⟨by dsimp only; omega, by simp, .nil, rfl, rfl, ⟨Nat.zero_le _, Nat.zero_le _⟩, fun _ => rfl⟩

theorem readyFont_lawful (t : GlyphTable) (h : t.Lawful) : ({ t with clearing := false } : GlyphTable).Lawful :=
  ⟨h.header, h.glyphs, h.ascending, h.lastCode, h.coverage, h.capacity, nofun⟩

theorem nibbles_length (bs : List Byte) : (nibbles bs).length = 2 * bs.length := by
  induction bs with
  | nil => rfl
  | cons b bs ih => simp only [nibbles, List.length_cons, ih]; omega

theorem nibbles_le (bs : List Byte) : ∀ v ∈ nibbles bs, v ≤ 15 := by
  induction bs with
  | nil => simp [nibbles]
  | cons b bs ih =>
    intro v hv
    have := b.isLt
    simp only [nibbles, List.mem_cons] at hv
    rcases hv with rfl | rfl | hv
    · omega
    · omega
    · exact ih v hv

/-- A glyph record as it is read has a code of two bytes and a bitmap of width times height values of 0 to 15. -/
theorem readGlyph_shape (height : Nat) (bs rest : List Byte) (g : Glyph) (e : readGlyph height bs = some (g, rest)) :
    g.code ≤ 65535 ∧ g.bitmap.length = g.width * height ∧ ∀ v ∈ g.bitmap, v ≤ 15 := by
  unfold readGlyph at e
  split at e
  · next c0 c1 w a tail =>
    dsimp only at e
    split at e
    · cases e
    · next hn =>
      cases e
      refine ⟨?_, ?_, fun v hv => nibbles_le _ v (List.mem_of_mem_take hv)⟩
      · have h0 := c0.isLt
        have h1 := c1.isLt
        simp only [beNat, List.foldl]
        omega
      · simp only [List.length_take, nibbles_length]
        omega
  · cases e

theorem readGlyphs_shape (height n : Nat) (bs : List Byte) (gs : List Glyph) (e : readGlyphs height n bs = some gs) :
    ∀ g ∈ gs, g.code ≤ 65535 ∧ g.bitmap.length = g.width * height ∧ ∀ v ∈ g.bitmap, v ≤ 15 := by
  induction n generalizing bs gs with
  | zero =>
    simp only [readGlyphs] at e
    split at e <;> cases e
    simp
  | succ n ih =>
    simp only [readGlyphs] at e
    split at e
    · cases e
    · next g rest hg =>
      obtain ⟨tail, ht, rfl⟩ := Option.map_eq_some_iff.mp e
      intro x hx
      rcases List.mem_cons.mp hx with rfl | hx
      · exact readGlyph_shape height bs rest x hg
      · exact ih rest tail ht x hx

/-- R49: a record taken keeps the table lawful and its header, its state and the records before it. -/
theorem takeGlyph_lawful (t t' : GlyphTable) (g : Glyph) (h : t.Lawful) (hc : t.clearing = false)
    (hn : t.glyphs.length < 4096)
    (hg : g.code ≤ 65535 ∧ g.bitmap.length = g.width * t.height ∧ ∀ v ∈ g.bitmap, v ≤ 15)
    (e : takeGlyph t g = .ok t') :
    t'.Lawful ∧ t'.clearing = false ∧ t'.height = t.height ∧ t'.glyphs.length = t.glyphs.length + 1 := by
  unfold takeGlyph at e
  split at e
  · cases e
  · next h1 =>
    split at e
    · cases e
    · next h2 =>
      split at e
      · cases e
      · next h3 =>
        simp only [not_or, not_lt, not_le] at h1 h2 h3
        cases e
        refine ⟨⟨h.header, ?_, ?_, by simp, ?_, ?_, by simp [hc]⟩, hc, rfl, by simp⟩
        · intro x hx
          rcases List.mem_append.mp hx with hx | hx
          · exact h.glyphs x hx
          · rw [List.mem_singleton.mp hx]
            exact ⟨⟨Nat.pos_of_ne_zero h1.1, hg.1⟩, ⟨h2.1, h2.2.1⟩, ⟨h2.2.2.1, h2.2.2.2⟩, hg.2⟩
        · refine List.pairwise_append.mpr ⟨h.ascending, List.pairwise_singleton _ _, fun y hy z hz => ?_⟩
          rw [List.mem_singleton.mp hz]
          have := le_getLast_of_pairwise Glyph.code _ (h.ascending.imp Nat.le_of_lt) y hy
          rw [← h.lastCode] at this
          exact Nat.lt_of_le_of_lt this h1.2
        · simp [h.coverage]
        · simp only [List.length_append, List.length_singleton]
          exact ⟨hn, h3⟩

theorem takeGlyphs_lawful (gs : List Glyph) (t t' : GlyphTable) (i : Nat) (h : t.Lawful) (hc : t.clearing = false)
    (hn : t.glyphs.length + gs.length ≤ 4096)
    (hg : ∀ g ∈ gs, g.code ≤ 65535 ∧ g.bitmap.length = g.width * t.height ∧ ∀ v ∈ g.bitmap, v ≤ 15)
    (e : takeGlyphs t i gs = .ok t') : t'.Lawful := by
  induction gs generalizing t i with
  | nil => cases e; exact h
  | cons g gs ih =>
    simp only [takeGlyphs] at e
    split at e
    · cases e
    · next c hok =>
      simp only [List.length_cons] at hn
      obtain ⟨h1, h2, h3, h4⟩ := takeGlyph_lawful t c g h hc (by omega) (hg g (List.mem_cons_self ..)) hok
      exact ih c (i + 1) h1 h2 (by omega) (fun x hx => h3.symm ▸ hg x (List.mem_cons_of_mem _ hx)) e

/-! ### Cursors (R127) -/

/-- A cursor moves forward and not beyond the end of the notes. -/
theorem moveCursor_le (belongs : Part → Bool) (t : Int) (gs : List GuideNote) (i : Nat) :
    i ≤ moveCursor belongs t i gs ∧ moveCursor belongs t i gs ≤ i + gs.length := by
  induction gs generalizing i with
  | nil => exact ⟨Nat.le_refl _, Nat.le_refl _⟩
  | cons g gs ih =>
    unfold moveCursor
    split
    · simp
    · have := ih (i + 1)
      simp only [List.length_cons]
      omega

end Sys2Proof.Machine
end

