-- ==== Sys2Proof/Laws/State.lean ====
section
/-! SUPPORT. The small lemmas of the state's updates: what each field holds after each named update, and what one
room, bank, microphone or panel holds after another has been changed. -/

namespace Sys2Proof.Machine

/-! ### Rooms -/

@[simp] theorem vec_get_set_same {α : Type} {n : Nat} (v : Vector α n) (i : Fin n) (x : α) :
    (v.set i x).get i = x := by
  show (v.set i.val x i.isLt)[i.val] = x
  simp

theorem vec_get_set_ne {α : Type} {n : Nat} (v : Vector α n) (i k : Fin n) (x : α) (h : k ≠ i) :
    (v.set i x).get k = v.get k := by
  have hv : (i : Nat) ≠ (k : Nat) := fun e => h (Fin.ext e.symm)
  show (v.set i.val x i.isLt)[k.val] = v[k.val]
  simp [hv]

@[simp] theorem vec_get_replicate {α : Type} {n : Nat} (x : α) (i : Fin n) : (Vector.replicate n x).get i = x := by
  show (Vector.replicate n x)[i.val] = x
  simp

@[simp] theorem room_setRoom_same (s : State) (r : RoomId) (x : Room) : (s.setRoom r x).room r = x :=
  vec_get_set_same s.rooms r x

theorem room_setRoom_ne (s : State) (r k : RoomId) (x : Room) (h : k ≠ r) : (s.setRoom r x).room k = s.room k := by
  exact vec_get_set_ne s.rooms r k x h

theorem room_setRoom (s : State) (r k : RoomId) (x : Room) :
    (s.setRoom r x).room k = if k = r then x else s.room k := by
  by_cases h : k = r
  · subst h; simp
  · simp [h, room_setRoom_ne]

@[simp] theorem room_updRoom_same (s : State) (r : RoomId) (f : Room → Room) :
    (s.updRoom r f).room r = f (s.room r) := by simp [State.updRoom]

theorem room_updRoom_ne (s : State) (r k : RoomId) (f : Room → Room) (h : k ≠ r) :
    (s.updRoom r f).room k = s.room k := by simp [State.updRoom, room_setRoom_ne, h]

theorem room_updRoom (s : State) (r k : RoomId) (f : Room → Room) :
    (s.updRoom r f).room k = if k = r then f (s.room r) else s.room k := by
  simp [State.updRoom, room_setRoom]

/-- Two states with the same rooms and the same other fields are equal. -/
theorem rooms_ext (v w : Vector Room 4) (h : ∀ r : RoomId, v.get r = w.get r) : v = w := by
  apply Vector.ext
  intro i hi
  exact h ⟨i, hi⟩

@[simp] theorem setRoom_room_self (s : State) (r : RoomId) : s.setRoom r (s.room r) = s := by
  have : (s.setRoom r (s.room r)).rooms = s.rooms := by
    apply rooms_ext
    intro k
    show (s.setRoom r (s.room r)).room k = s.room k
    rw [room_setRoom]
    split
    · next h => rw [h]
    · rfl
  cases s
  simp only [State.setRoom] at this ⊢
  simp [this]

/-! ### Poll-table entries -/

@[simp] theorem panel_updPanel_same (s : State) (e : PanelId) (f : PollEntry → PollEntry) :
    (s.updPanel e f).panel e = f (s.panel e) := by
  exact vec_get_set_same s.panels e _

theorem panel_updPanel_ne (s : State) (e k : PanelId) (f : PollEntry → PollEntry) (h : k ≠ e) :
    (s.updPanel e f).panel k = s.panel k := by
  exact vec_get_set_ne s.panels e k _ h

theorem panel_updPanel (s : State) (e k : PanelId) (f : PollEntry → PollEntry) :
    (s.updPanel e f).panel k = if k = e then f (s.panel e) else s.panel k := by
  by_cases h : k = e
  · subst h; simp
  · simp [h, panel_updPanel_ne]

@[simp] theorem room_updPanel (s : State) (e : PanelId) (f : PollEntry → PollEntry) (r : RoomId) :
    (s.updPanel e f).room r = s.room r := rfl
@[simp] theorem panel_setRoom (s : State) (r : RoomId) (x : Room) (e : PanelId) :
    (s.setRoom r x).panel e = s.panel e := rfl
@[simp] theorem panel_updRoom (s : State) (r : RoomId) (f : Room → Room) (e : PanelId) :
    (s.updRoom r f).panel e = s.panel e := rfl
@[simp] theorem room_count (s : State) (f : LinkCounters → LinkCounters) (r : RoomId) :
    (s.count f).room r = s.room r := rfl
@[simp] theorem panel_count (s : State) (f : LinkCounters → LinkCounters) (e : PanelId) :
    (s.count f).panel e = s.panel e := rfl
@[simp] theorem room_pushReply (s : State) (x : Reply) (r : RoomId) : (s.pushReply x).room r = s.room r := rfl
@[simp] theorem panel_pushReply (s : State) (x : Reply) (e : PanelId) : (s.pushReply x).panel e = s.panel e := rfl
@[simp] theorem room_countIn (s : State) (r : RoomId) : s.countIn.room r = s.room r := rfl
@[simp] theorem panel_countIn (s : State) (e : PanelId) : s.countIn.panel e = s.panel e := rfl

/-! ### The state's fields after each named update -/

@[simp] theorem setRoom_mode (s : State) (r : RoomId) (x : Room) : (s.setRoom r x).mode = s.mode := rfl
@[simp] theorem setRoom_venueTime (s : State) (r : RoomId) (x : Room) : (s.setRoom r x).venueTime = s.venueTime := rfl
@[simp] theorem setRoom_font (s : State) (r : RoomId) (x : Room) : (s.setRoom r x).font = s.font := rfl
@[simp] theorem setRoom_ladder (s : State) (r : RoomId) (x : Room) : (s.setRoom r x).ladder = s.ladder := rfl
@[simp] theorem setRoom_frameQueue (s : State) (r : RoomId) (x : Room) : (s.setRoom r x).frameQueue = s.frameQueue := rfl
@[simp] theorem setRoom_engine (s : State) (r : RoomId) (x : Room) : (s.setRoom r x).engine = s.engine := rfl
@[simp] theorem setRoom_slotIn (s : State) (r : RoomId) (x : Room) : (s.setRoom r x).slotIn = s.slotIn := rfl
@[simp] theorem setRoom_slotOut (s : State) (r : RoomId) (x : Room) : (s.setRoom r x).slotOut = s.slotOut := rfl
@[simp] theorem setRoom_audioOut (s : State) (r : RoomId) (x : Room) : (s.setRoom r x).audioOut = s.audioOut := rfl
@[simp] theorem setRoom_panels (s : State) (r : RoomId) (x : Room) : (s.setRoom r x).panels = s.panels := rfl
@[simp] theorem setRoom_nextEntry (s : State) (r : RoomId) (x : Room) : (s.setRoom r x).nextEntry = s.nextEntry := rfl
@[simp] theorem setRoom_polling (s : State) (r : RoomId) (x : Room) : (s.setRoom r x).polling = s.polling := rfl
@[simp] theorem setRoom_chip (s : State) (r : RoomId) (x : Room) : (s.setRoom r x).chip = s.chip := rfl
@[simp] theorem setRoom_timeoutInForce (s : State) (r : RoomId) (x : Room) : (s.setRoom r x).timeoutInForce = s.timeoutInForce := rfl
@[simp] theorem setRoom_issueCounter (s : State) (r : RoomId) (x : Room) : (s.setRoom r x).issueCounter = s.issueCounter := rfl
@[simp] theorem setRoom_cancelQueue (s : State) (r : RoomId) (x : Room) : (s.setRoom r x).cancelQueue = s.cancelQueue := rfl
@[simp] theorem setRoom_replies (s : State) (r : RoomId) (x : Room) : (s.setRoom r x).replies = s.replies := rfl
@[simp] theorem setRoom_reports (s : State) (r : RoomId) (x : Room) : (s.setRoom r x).reports = s.reports := rfl
@[simp] theorem setRoom_chipStack (s : State) (r : RoomId) (x : Room) : (s.setRoom r x).chipStack = s.chipStack := rfl
@[simp] theorem setRoom_lastServed (s : State) (r : RoomId) (x : Room) : (s.setRoom r x).lastServed = s.lastServed := rfl
@[simp] theorem setRoom_link (s : State) (r : RoomId) (x : Room) : (s.setRoom r x).link = s.link := rfl
@[simp] theorem setRoom_upstream (s : State) (r : RoomId) (x : Room) : (s.setRoom r x).upstream = s.upstream := rfl
@[simp] theorem setRoom_freeDrawn (s : State) (r : RoomId) (x : Room) : (s.setRoom r x).freeDrawn = s.freeDrawn := rfl
@[simp] theorem setRoom_pending (s : State) (r : RoomId) (x : Room) : (s.setRoom r x).pending = s.pending := rfl
@[simp] theorem updRoom_mode (s : State) (r : RoomId) (f : Room → Room) : (s.updRoom r f).mode = s.mode := rfl
@[simp] theorem updRoom_venueTime (s : State) (r : RoomId) (f : Room → Room) : (s.updRoom r f).venueTime = s.venueTime := rfl
@[simp] theorem updRoom_font (s : State) (r : RoomId) (f : Room → Room) : (s.updRoom r f).font = s.font := rfl
@[simp] theorem updRoom_ladder (s : State) (r : RoomId) (f : Room → Room) : (s.updRoom r f).ladder = s.ladder := rfl
@[simp] theorem updRoom_frameQueue (s : State) (r : RoomId) (f : Room → Room) : (s.updRoom r f).frameQueue = s.frameQueue := rfl
@[simp] theorem updRoom_engine (s : State) (r : RoomId) (f : Room → Room) : (s.updRoom r f).engine = s.engine := rfl
@[simp] theorem updRoom_slotIn (s : State) (r : RoomId) (f : Room → Room) : (s.updRoom r f).slotIn = s.slotIn := rfl
@[simp] theorem updRoom_slotOut (s : State) (r : RoomId) (f : Room → Room) : (s.updRoom r f).slotOut = s.slotOut := rfl
@[simp] theorem updRoom_audioOut (s : State) (r : RoomId) (f : Room → Room) : (s.updRoom r f).audioOut = s.audioOut := rfl
@[simp] theorem updRoom_panels (s : State) (r : RoomId) (f : Room → Room) : (s.updRoom r f).panels = s.panels := rfl
@[simp] theorem updRoom_nextEntry (s : State) (r : RoomId) (f : Room → Room) : (s.updRoom r f).nextEntry = s.nextEntry := rfl
@[simp] theorem updRoom_polling (s : State) (r : RoomId) (f : Room → Room) : (s.updRoom r f).polling = s.polling := rfl
@[simp] theorem updRoom_chip (s : State) (r : RoomId) (f : Room → Room) : (s.updRoom r f).chip = s.chip := rfl
@[simp] theorem updRoom_timeoutInForce (s : State) (r : RoomId) (f : Room → Room) : (s.updRoom r f).timeoutInForce = s.timeoutInForce := rfl
@[simp] theorem updRoom_issueCounter (s : State) (r : RoomId) (f : Room → Room) : (s.updRoom r f).issueCounter = s.issueCounter := rfl
@[simp] theorem updRoom_cancelQueue (s : State) (r : RoomId) (f : Room → Room) : (s.updRoom r f).cancelQueue = s.cancelQueue := rfl
@[simp] theorem updRoom_replies (s : State) (r : RoomId) (f : Room → Room) : (s.updRoom r f).replies = s.replies := rfl
@[simp] theorem updRoom_reports (s : State) (r : RoomId) (f : Room → Room) : (s.updRoom r f).reports = s.reports := rfl
@[simp] theorem updRoom_chipStack (s : State) (r : RoomId) (f : Room → Room) : (s.updRoom r f).chipStack = s.chipStack := rfl
@[simp] theorem updRoom_lastServed (s : State) (r : RoomId) (f : Room → Room) : (s.updRoom r f).lastServed = s.lastServed := rfl
@[simp] theorem updRoom_link (s : State) (r : RoomId) (f : Room → Room) : (s.updRoom r f).link = s.link := rfl
@[simp] theorem updRoom_upstream (s : State) (r : RoomId) (f : Room → Room) : (s.updRoom r f).upstream = s.upstream := rfl
@[simp] theorem updRoom_freeDrawn (s : State) (r : RoomId) (f : Room → Room) : (s.updRoom r f).freeDrawn = s.freeDrawn := rfl
@[simp] theorem updRoom_pending (s : State) (r : RoomId) (f : Room → Room) : (s.updRoom r f).pending = s.pending := rfl
@[simp] theorem updPanel_mode (s : State) (e : PanelId) (f : PollEntry → PollEntry) : (s.updPanel e f).mode = s.mode := rfl
@[simp] theorem updPanel_venueTime (s : State) (e : PanelId) (f : PollEntry → PollEntry) : (s.updPanel e f).venueTime = s.venueTime := rfl
@[simp] theorem updPanel_rooms (s : State) (e : PanelId) (f : PollEntry → PollEntry) : (s.updPanel e f).rooms = s.rooms := rfl
@[simp] theorem updPanel_font (s : State) (e : PanelId) (f : PollEntry → PollEntry) : (s.updPanel e f).font = s.font := rfl
@[simp] theorem updPanel_ladder (s : State) (e : PanelId) (f : PollEntry → PollEntry) : (s.updPanel e f).ladder = s.ladder := rfl
@[simp] theorem updPanel_frameQueue (s : State) (e : PanelId) (f : PollEntry → PollEntry) : (s.updPanel e f).frameQueue = s.frameQueue := rfl
@[simp] theorem updPanel_engine (s : State) (e : PanelId) (f : PollEntry → PollEntry) : (s.updPanel e f).engine = s.engine := rfl
@[simp] theorem updPanel_slotIn (s : State) (e : PanelId) (f : PollEntry → PollEntry) : (s.updPanel e f).slotIn = s.slotIn := rfl
@[simp] theorem updPanel_slotOut (s : State) (e : PanelId) (f : PollEntry → PollEntry) : (s.updPanel e f).slotOut = s.slotOut := rfl
@[simp] theorem updPanel_audioOut (s : State) (e : PanelId) (f : PollEntry → PollEntry) : (s.updPanel e f).audioOut = s.audioOut := rfl
@[simp] theorem updPanel_nextEntry (s : State) (e : PanelId) (f : PollEntry → PollEntry) : (s.updPanel e f).nextEntry = s.nextEntry := rfl
@[simp] theorem updPanel_polling (s : State) (e : PanelId) (f : PollEntry → PollEntry) : (s.updPanel e f).polling = s.polling := rfl
@[simp] theorem updPanel_chip (s : State) (e : PanelId) (f : PollEntry → PollEntry) : (s.updPanel e f).chip = s.chip := rfl
@[simp] theorem updPanel_timeoutInForce (s : State) (e : PanelId) (f : PollEntry → PollEntry) : (s.updPanel e f).timeoutInForce = s.timeoutInForce := rfl
@[simp] theorem updPanel_issueCounter (s : State) (e : PanelId) (f : PollEntry → PollEntry) : (s.updPanel e f).issueCounter = s.issueCounter := rfl
@[simp] theorem updPanel_cancelQueue (s : State) (e : PanelId) (f : PollEntry → PollEntry) : (s.updPanel e f).cancelQueue = s.cancelQueue := rfl
@[simp] theorem updPanel_replies (s : State) (e : PanelId) (f : PollEntry → PollEntry) : (s.updPanel e f).replies = s.replies := rfl
@[simp] theorem updPanel_reports (s : State) (e : PanelId) (f : PollEntry → PollEntry) : (s.updPanel e f).reports = s.reports := rfl
@[simp] theorem updPanel_chipStack (s : State) (e : PanelId) (f : PollEntry → PollEntry) : (s.updPanel e f).chipStack = s.chipStack := rfl
@[simp] theorem updPanel_lastServed (s : State) (e : PanelId) (f : PollEntry → PollEntry) : (s.updPanel e f).lastServed = s.lastServed := rfl
@[simp] theorem updPanel_link (s : State) (e : PanelId) (f : PollEntry → PollEntry) : (s.updPanel e f).link = s.link := rfl
@[simp] theorem updPanel_upstream (s : State) (e : PanelId) (f : PollEntry → PollEntry) : (s.updPanel e f).upstream = s.upstream := rfl
@[simp] theorem updPanel_freeDrawn (s : State) (e : PanelId) (f : PollEntry → PollEntry) : (s.updPanel e f).freeDrawn = s.freeDrawn := rfl
@[simp] theorem updPanel_pending (s : State) (e : PanelId) (f : PollEntry → PollEntry) : (s.updPanel e f).pending = s.pending := rfl
@[simp] theorem count_mode (s : State) (f : LinkCounters → LinkCounters) : (s.count f).mode = s.mode := rfl
@[simp] theorem count_venueTime (s : State) (f : LinkCounters → LinkCounters) : (s.count f).venueTime = s.venueTime := rfl
@[simp] theorem count_rooms (s : State) (f : LinkCounters → LinkCounters) : (s.count f).rooms = s.rooms := rfl
@[simp] theorem count_font (s : State) (f : LinkCounters → LinkCounters) : (s.count f).font = s.font := rfl
@[simp] theorem count_ladder (s : State) (f : LinkCounters → LinkCounters) : (s.count f).ladder = s.ladder := rfl
@[simp] theorem count_frameQueue (s : State) (f : LinkCounters → LinkCounters) : (s.count f).frameQueue = s.frameQueue := rfl
@[simp] theorem count_engine (s : State) (f : LinkCounters → LinkCounters) : (s.count f).engine = s.engine := rfl
@[simp] theorem count_slotIn (s : State) (f : LinkCounters → LinkCounters) : (s.count f).slotIn = s.slotIn := rfl
@[simp] theorem count_slotOut (s : State) (f : LinkCounters → LinkCounters) : (s.count f).slotOut = s.slotOut := rfl
@[simp] theorem count_audioOut (s : State) (f : LinkCounters → LinkCounters) : (s.count f).audioOut = s.audioOut := rfl
@[simp] theorem count_panels (s : State) (f : LinkCounters → LinkCounters) : (s.count f).panels = s.panels := rfl
@[simp] theorem count_nextEntry (s : State) (f : LinkCounters → LinkCounters) : (s.count f).nextEntry = s.nextEntry := rfl
@[simp] theorem count_polling (s : State) (f : LinkCounters → LinkCounters) : (s.count f).polling = s.polling := rfl
@[simp] theorem count_chip (s : State) (f : LinkCounters → LinkCounters) : (s.count f).chip = s.chip := rfl
@[simp] theorem count_timeoutInForce (s : State) (f : LinkCounters → LinkCounters) : (s.count f).timeoutInForce = s.timeoutInForce := rfl
@[simp] theorem count_issueCounter (s : State) (f : LinkCounters → LinkCounters) : (s.count f).issueCounter = s.issueCounter := rfl
@[simp] theorem count_cancelQueue (s : State) (f : LinkCounters → LinkCounters) : (s.count f).cancelQueue = s.cancelQueue := rfl
@[simp] theorem count_replies (s : State) (f : LinkCounters → LinkCounters) : (s.count f).replies = s.replies := rfl
@[simp] theorem count_reports (s : State) (f : LinkCounters → LinkCounters) : (s.count f).reports = s.reports := rfl
@[simp] theorem count_chipStack (s : State) (f : LinkCounters → LinkCounters) : (s.count f).chipStack = s.chipStack := rfl
@[simp] theorem count_lastServed (s : State) (f : LinkCounters → LinkCounters) : (s.count f).lastServed = s.lastServed := rfl
@[simp] theorem count_upstream (s : State) (f : LinkCounters → LinkCounters) : (s.count f).upstream = s.upstream := rfl
@[simp] theorem count_freeDrawn (s : State) (f : LinkCounters → LinkCounters) : (s.count f).freeDrawn = s.freeDrawn := rfl
@[simp] theorem count_pending (s : State) (f : LinkCounters → LinkCounters) : (s.count f).pending = s.pending := rfl
@[simp] theorem countIn_mode (s : State)  : (s.countIn ).mode = s.mode := rfl
@[simp] theorem countIn_venueTime (s : State)  : (s.countIn ).venueTime = s.venueTime := rfl
@[simp] theorem countIn_rooms (s : State)  : (s.countIn ).rooms = s.rooms := rfl
@[simp] theorem countIn_font (s : State)  : (s.countIn ).font = s.font := rfl
@[simp] theorem countIn_ladder (s : State)  : (s.countIn ).ladder = s.ladder := rfl
@[simp] theorem countIn_frameQueue (s : State)  : (s.countIn ).frameQueue = s.frameQueue := rfl
@[simp] theorem countIn_engine (s : State)  : (s.countIn ).engine = s.engine := rfl
@[simp] theorem countIn_slotIn (s : State)  : (s.countIn ).slotIn = s.slotIn := rfl
@[simp] theorem countIn_slotOut (s : State)  : (s.countIn ).slotOut = s.slotOut := rfl
@[simp] theorem countIn_audioOut (s : State)  : (s.countIn ).audioOut = s.audioOut := rfl
@[simp] theorem countIn_panels (s : State)  : (s.countIn ).panels = s.panels := rfl
@[simp] theorem countIn_nextEntry (s : State)  : (s.countIn ).nextEntry = s.nextEntry := rfl
@[simp] theorem countIn_polling (s : State)  : (s.countIn ).polling = s.polling := rfl
@[simp] theorem countIn_chip (s : State)  : (s.countIn ).chip = s.chip := rfl
@[simp] theorem countIn_timeoutInForce (s : State)  : (s.countIn ).timeoutInForce = s.timeoutInForce := rfl
@[simp] theorem countIn_issueCounter (s : State)  : (s.countIn ).issueCounter = s.issueCounter := rfl
@[simp] theorem countIn_cancelQueue (s : State)  : (s.countIn ).cancelQueue = s.cancelQueue := rfl
@[simp] theorem countIn_replies (s : State)  : (s.countIn ).replies = s.replies := rfl
@[simp] theorem countIn_reports (s : State)  : (s.countIn ).reports = s.reports := rfl
@[simp] theorem countIn_chipStack (s : State)  : (s.countIn ).chipStack = s.chipStack := rfl
@[simp] theorem countIn_lastServed (s : State)  : (s.countIn ).lastServed = s.lastServed := rfl
@[simp] theorem countIn_upstream (s : State)  : (s.countIn ).upstream = s.upstream := rfl
@[simp] theorem countIn_freeDrawn (s : State)  : (s.countIn ).freeDrawn = s.freeDrawn := rfl
@[simp] theorem countIn_pending (s : State)  : (s.countIn ).pending = s.pending := rfl
@[simp] theorem pushReply_mode (s : State) (x : Reply) : (s.pushReply x).mode = s.mode := rfl
@[simp] theorem pushReply_venueTime (s : State) (x : Reply) : (s.pushReply x).venueTime = s.venueTime := rfl
@[simp] theorem pushReply_rooms (s : State) (x : Reply) : (s.pushReply x).rooms = s.rooms := rfl
@[simp] theorem pushReply_font (s : State) (x : Reply) : (s.pushReply x).font = s.font := rfl
@[simp] theorem pushReply_ladder (s : State) (x : Reply) : (s.pushReply x).ladder = s.ladder := rfl
@[simp] theorem pushReply_frameQueue (s : State) (x : Reply) : (s.pushReply x).frameQueue = s.frameQueue := rfl
@[simp] theorem pushReply_engine (s : State) (x : Reply) : (s.pushReply x).engine = s.engine := rfl
@[simp] theorem pushReply_slotIn (s : State) (x : Reply) : (s.pushReply x).slotIn = s.slotIn := rfl
@[simp] theorem pushReply_slotOut (s : State) (x : Reply) : (s.pushReply x).slotOut = s.slotOut := rfl
@[simp] theorem pushReply_audioOut (s : State) (x : Reply) : (s.pushReply x).audioOut = s.audioOut := rfl
@[simp] theorem pushReply_panels (s : State) (x : Reply) : (s.pushReply x).panels = s.panels := rfl
@[simp] theorem pushReply_nextEntry (s : State) (x : Reply) : (s.pushReply x).nextEntry = s.nextEntry := rfl
@[simp] theorem pushReply_polling (s : State) (x : Reply) : (s.pushReply x).polling = s.polling := rfl
@[simp] theorem pushReply_chip (s : State) (x : Reply) : (s.pushReply x).chip = s.chip := rfl
@[simp] theorem pushReply_timeoutInForce (s : State) (x : Reply) : (s.pushReply x).timeoutInForce = s.timeoutInForce := rfl
@[simp] theorem pushReply_issueCounter (s : State) (x : Reply) : (s.pushReply x).issueCounter = s.issueCounter := rfl
@[simp] theorem pushReply_cancelQueue (s : State) (x : Reply) : (s.pushReply x).cancelQueue = s.cancelQueue := rfl
@[simp] theorem pushReply_reports (s : State) (x : Reply) : (s.pushReply x).reports = s.reports := rfl
@[simp] theorem pushReply_chipStack (s : State) (x : Reply) : (s.pushReply x).chipStack = s.chipStack := rfl
@[simp] theorem pushReply_lastServed (s : State) (x : Reply) : (s.pushReply x).lastServed = s.lastServed := rfl
@[simp] theorem pushReply_link (s : State) (x : Reply) : (s.pushReply x).link = s.link := rfl
@[simp] theorem pushReply_upstream (s : State) (x : Reply) : (s.pushReply x).upstream = s.upstream := rfl
@[simp] theorem pushReply_freeDrawn (s : State) (x : Reply) : (s.pushReply x).freeDrawn = s.freeDrawn := rfl
@[simp] theorem pushReply_pending (s : State) (x : Reply) : (s.pushReply x).pending = s.pending := rfl
@[simp] theorem pushReply_replies (s : State) (x : Reply) : (s.pushReply x).replies = s.replies ++ [x] := rfl
@[simp] theorem count_link (s : State) (f : LinkCounters → LinkCounters) : (s.count f).link = f s.link := rfl

/-! ### A room's fields after each named update -/

@[simp] theorem Room.updCtx_params (rm : Room) (f : RoomContext → RoomContext) : (rm.updCtx f).params = rm.params := rfl
@[simp] theorem Room.updCtx_bank0 (rm : Room) (f : RoomContext → RoomContext) : (rm.updCtx f).bank0 = rm.bank0 := rfl
@[simp] theorem Room.updCtx_bank1 (rm : Room) (f : RoomContext → RoomContext) : (rm.updCtx f).bank1 = rm.bank1 := rfl
@[simp] theorem Room.updCtx_latch (rm : Room) (f : RoomContext → RoomContext) : (rm.updCtx f).latch = rm.latch := rfl
@[simp] theorem Room.updCtx_overlay (rm : Room) (f : RoomContext → RoomContext) : (rm.updCtx f).overlay = rm.overlay := rfl
@[simp] theorem Room.updCtx_videoOut (rm : Room) (f : RoomContext → RoomContext) : (rm.updCtx f).videoOut = rm.videoOut := rfl
@[simp] theorem Room.updCtx_port (rm : Room) (f : RoomContext → RoomContext) : (rm.updCtx f).port = rm.port := rfl
@[simp] theorem Room.updCtx_mic1 (rm : Room) (f : RoomContext → RoomContext) : (rm.updCtx f).mic1 = rm.mic1 := rfl
@[simp] theorem Room.updCtx_mic2 (rm : Room) (f : RoomContext → RoomContext) : (rm.updCtx f).mic2 = rm.mic2 := rfl
@[simp] theorem Room.updCtx_requests (rm : Room) (f : RoomContext → RoomContext) : (rm.updCtx f).requests = rm.requests := rfl
@[simp] theorem Room.updCtx_ticketCounter (rm : Room) (f : RoomContext → RoomContext) : (rm.updCtx f).ticketCounter = rm.ticketCounter := rfl
@[simp] theorem Room.updCtx_requestCounters (rm : Room) (f : RoomContext → RoomContext) : (rm.updCtx f).requestCounters = rm.requestCounters := rfl
@[simp] theorem Room.updCtx_stack (rm : Room) (f : RoomContext → RoomContext) : (rm.updCtx f).stack = rm.stack := rfl
@[simp] theorem Room.updPort_ctx (rm : Room) (f : Port → Port) : (rm.updPort f).ctx = rm.ctx := rfl
@[simp] theorem Room.updPort_params (rm : Room) (f : Port → Port) : (rm.updPort f).params = rm.params := rfl
@[simp] theorem Room.updPort_bank0 (rm : Room) (f : Port → Port) : (rm.updPort f).bank0 = rm.bank0 := rfl
@[simp] theorem Room.updPort_bank1 (rm : Room) (f : Port → Port) : (rm.updPort f).bank1 = rm.bank1 := rfl
@[simp] theorem Room.updPort_latch (rm : Room) (f : Port → Port) : (rm.updPort f).latch = rm.latch := rfl
@[simp] theorem Room.updPort_overlay (rm : Room) (f : Port → Port) : (rm.updPort f).overlay = rm.overlay := rfl
@[simp] theorem Room.updPort_videoOut (rm : Room) (f : Port → Port) : (rm.updPort f).videoOut = rm.videoOut := rfl
@[simp] theorem Room.updPort_mic1 (rm : Room) (f : Port → Port) : (rm.updPort f).mic1 = rm.mic1 := rfl
@[simp] theorem Room.updPort_mic2 (rm : Room) (f : Port → Port) : (rm.updPort f).mic2 = rm.mic2 := rfl
@[simp] theorem Room.updPort_requests (rm : Room) (f : Port → Port) : (rm.updPort f).requests = rm.requests := rfl
@[simp] theorem Room.updPort_ticketCounter (rm : Room) (f : Port → Port) : (rm.updPort f).ticketCounter = rm.ticketCounter := rfl
@[simp] theorem Room.updPort_requestCounters (rm : Room) (f : Port → Port) : (rm.updPort f).requestCounters = rm.requestCounters := rfl
@[simp] theorem Room.updPort_stack (rm : Room) (f : Port → Port) : (rm.updPort f).stack = rm.stack := rfl
@[simp] theorem Room.setState_params (rm : Room) (st : RoomState) : (rm.setState st).params = rm.params := rfl
@[simp] theorem Room.setState_bank0 (rm : Room) (st : RoomState) : (rm.setState st).bank0 = rm.bank0 := rfl
@[simp] theorem Room.setState_bank1 (rm : Room) (st : RoomState) : (rm.setState st).bank1 = rm.bank1 := rfl
@[simp] theorem Room.setState_latch (rm : Room) (st : RoomState) : (rm.setState st).latch = rm.latch := rfl
@[simp] theorem Room.setState_overlay (rm : Room) (st : RoomState) : (rm.setState st).overlay = rm.overlay := rfl
@[simp] theorem Room.setState_videoOut (rm : Room) (st : RoomState) : (rm.setState st).videoOut = rm.videoOut := rfl
@[simp] theorem Room.setState_port (rm : Room) (st : RoomState) : (rm.setState st).port = rm.port := rfl
@[simp] theorem Room.setState_mic1 (rm : Room) (st : RoomState) : (rm.setState st).mic1 = rm.mic1 := rfl
@[simp] theorem Room.setState_mic2 (rm : Room) (st : RoomState) : (rm.setState st).mic2 = rm.mic2 := rfl
@[simp] theorem Room.setState_requests (rm : Room) (st : RoomState) : (rm.setState st).requests = rm.requests := rfl
@[simp] theorem Room.setState_ticketCounter (rm : Room) (st : RoomState) : (rm.setState st).ticketCounter = rm.ticketCounter := rfl
@[simp] theorem Room.setState_requestCounters (rm : Room) (st : RoomState) : (rm.setState st).requestCounters = rm.requestCounters := rfl
@[simp] theorem Room.setState_stack (rm : Room) (st : RoomState) : (rm.setState st).stack = rm.stack := rfl
@[simp] theorem Room.updMics_ctx (rm : Room) (f : Mic → Mic) : (rm.updMics f).ctx = rm.ctx := rfl
@[simp] theorem Room.updMics_params (rm : Room) (f : Mic → Mic) : (rm.updMics f).params = rm.params := rfl
@[simp] theorem Room.updMics_bank0 (rm : Room) (f : Mic → Mic) : (rm.updMics f).bank0 = rm.bank0 := rfl
@[simp] theorem Room.updMics_bank1 (rm : Room) (f : Mic → Mic) : (rm.updMics f).bank1 = rm.bank1 := rfl
@[simp] theorem Room.updMics_latch (rm : Room) (f : Mic → Mic) : (rm.updMics f).latch = rm.latch := rfl
@[simp] theorem Room.updMics_overlay (rm : Room) (f : Mic → Mic) : (rm.updMics f).overlay = rm.overlay := rfl
@[simp] theorem Room.updMics_videoOut (rm : Room) (f : Mic → Mic) : (rm.updMics f).videoOut = rm.videoOut := rfl
@[simp] theorem Room.updMics_port (rm : Room) (f : Mic → Mic) : (rm.updMics f).port = rm.port := rfl
@[simp] theorem Room.updMics_requests (rm : Room) (f : Mic → Mic) : (rm.updMics f).requests = rm.requests := rfl
@[simp] theorem Room.updMics_ticketCounter (rm : Room) (f : Mic → Mic) : (rm.updMics f).ticketCounter = rm.ticketCounter := rfl
@[simp] theorem Room.updMics_requestCounters (rm : Room) (f : Mic → Mic) : (rm.updMics f).requestCounters = rm.requestCounters := rfl
@[simp] theorem Room.updMics_stack (rm : Room) (f : Mic → Mic) : (rm.updMics f).stack = rm.stack := rfl
@[simp] theorem Room.moveEntry_ctx (rm : Room) (t : Nat) (st : EntryState) : (rm.moveEntry t st).ctx = rm.ctx := rfl
@[simp] theorem Room.moveEntry_params (rm : Room) (t : Nat) (st : EntryState) : (rm.moveEntry t st).params = rm.params := rfl
@[simp] theorem Room.moveEntry_bank0 (rm : Room) (t : Nat) (st : EntryState) : (rm.moveEntry t st).bank0 = rm.bank0 := rfl
@[simp] theorem Room.moveEntry_bank1 (rm : Room) (t : Nat) (st : EntryState) : (rm.moveEntry t st).bank1 = rm.bank1 := rfl
@[simp] theorem Room.moveEntry_latch (rm : Room) (t : Nat) (st : EntryState) : (rm.moveEntry t st).latch = rm.latch := rfl
@[simp] theorem Room.moveEntry_overlay (rm : Room) (t : Nat) (st : EntryState) : (rm.moveEntry t st).overlay = rm.overlay := rfl
@[simp] theorem Room.moveEntry_videoOut (rm : Room) (t : Nat) (st : EntryState) : (rm.moveEntry t st).videoOut = rm.videoOut := rfl
@[simp] theorem Room.moveEntry_port (rm : Room) (t : Nat) (st : EntryState) : (rm.moveEntry t st).port = rm.port := rfl
@[simp] theorem Room.moveEntry_mic1 (rm : Room) (t : Nat) (st : EntryState) : (rm.moveEntry t st).mic1 = rm.mic1 := rfl
@[simp] theorem Room.moveEntry_mic2 (rm : Room) (t : Nat) (st : EntryState) : (rm.moveEntry t st).mic2 = rm.mic2 := rfl
@[simp] theorem Room.moveEntry_ticketCounter (rm : Room) (t : Nat) (st : EntryState) : (rm.moveEntry t st).ticketCounter = rm.ticketCounter := rfl
@[simp] theorem Room.moveEntry_requestCounters (rm : Room) (t : Nat) (st : EntryState) : (rm.moveEntry t st).requestCounters = rm.requestCounters := rfl
@[simp] theorem Room.moveEntry_stack (rm : Room) (t : Nat) (st : EntryState) : (rm.moveEntry t st).stack = rm.stack := rfl
@[simp] theorem Room.updEntry_ctx (rm : Room) (t : Nat) (f : Entry → Entry) : (rm.updEntry t f).ctx = rm.ctx := rfl
@[simp] theorem Room.updEntry_params (rm : Room) (t : Nat) (f : Entry → Entry) : (rm.updEntry t f).params = rm.params := rfl
@[simp] theorem Room.updEntry_bank0 (rm : Room) (t : Nat) (f : Entry → Entry) : (rm.updEntry t f).bank0 = rm.bank0 := rfl
@[simp] theorem Room.updEntry_bank1 (rm : Room) (t : Nat) (f : Entry → Entry) : (rm.updEntry t f).bank1 = rm.bank1 := rfl
@[simp] theorem Room.updEntry_latch (rm : Room) (t : Nat) (f : Entry → Entry) : (rm.updEntry t f).latch = rm.latch := rfl
@[simp] theorem Room.updEntry_overlay (rm : Room) (t : Nat) (f : Entry → Entry) : (rm.updEntry t f).overlay = rm.overlay := rfl
@[simp] theorem Room.updEntry_videoOut (rm : Room) (t : Nat) (f : Entry → Entry) : (rm.updEntry t f).videoOut = rm.videoOut := rfl
@[simp] theorem Room.updEntry_port (rm : Room) (t : Nat) (f : Entry → Entry) : (rm.updEntry t f).port = rm.port := rfl
@[simp] theorem Room.updEntry_mic1 (rm : Room) (t : Nat) (f : Entry → Entry) : (rm.updEntry t f).mic1 = rm.mic1 := rfl
@[simp] theorem Room.updEntry_mic2 (rm : Room) (t : Nat) (f : Entry → Entry) : (rm.updEntry t f).mic2 = rm.mic2 := rfl
@[simp] theorem Room.updEntry_ticketCounter (rm : Room) (t : Nat) (f : Entry → Entry) : (rm.updEntry t f).ticketCounter = rm.ticketCounter := rfl
@[simp] theorem Room.updEntry_requestCounters (rm : Room) (t : Nat) (f : Entry → Entry) : (rm.updEntry t f).requestCounters = rm.requestCounters := rfl
@[simp] theorem Room.updEntry_stack (rm : Room) (t : Nat) (f : Entry → Entry) : (rm.updEntry t f).stack = rm.stack := rfl
@[simp] theorem Room.dropEntry_ctx (rm : Room) (t : Nat) : (rm.dropEntry t).ctx = rm.ctx := rfl
@[simp] theorem Room.dropEntry_params (rm : Room) (t : Nat) : (rm.dropEntry t).params = rm.params := rfl
@[simp] theorem Room.dropEntry_bank0 (rm : Room) (t : Nat) : (rm.dropEntry t).bank0 = rm.bank0 := rfl
@[simp] theorem Room.dropEntry_bank1 (rm : Room) (t : Nat) : (rm.dropEntry t).bank1 = rm.bank1 := rfl
@[simp] theorem Room.dropEntry_latch (rm : Room) (t : Nat) : (rm.dropEntry t).latch = rm.latch := rfl
@[simp] theorem Room.dropEntry_overlay (rm : Room) (t : Nat) : (rm.dropEntry t).overlay = rm.overlay := rfl
@[simp] theorem Room.dropEntry_videoOut (rm : Room) (t : Nat) : (rm.dropEntry t).videoOut = rm.videoOut := rfl
@[simp] theorem Room.dropEntry_port (rm : Room) (t : Nat) : (rm.dropEntry t).port = rm.port := rfl
@[simp] theorem Room.dropEntry_mic1 (rm : Room) (t : Nat) : (rm.dropEntry t).mic1 = rm.mic1 := rfl
@[simp] theorem Room.dropEntry_mic2 (rm : Room) (t : Nat) : (rm.dropEntry t).mic2 = rm.mic2 := rfl
@[simp] theorem Room.dropEntry_ticketCounter (rm : Room) (t : Nat) : (rm.dropEntry t).ticketCounter = rm.ticketCounter := rfl
@[simp] theorem Room.dropEntry_requestCounters (rm : Room) (t : Nat) : (rm.dropEntry t).requestCounters = rm.requestCounters := rfl
@[simp] theorem Room.dropEntry_stack (rm : Room) (t : Nat) : (rm.dropEntry t).stack = rm.stack := rfl
@[simp] theorem Room.updCtx_ctx (rm : Room) (f : RoomContext → RoomContext) : (rm.updCtx f).ctx = f rm.ctx := rfl
@[simp] theorem Room.updPort_port (rm : Room) (f : Port → Port) : (rm.updPort f).port = f rm.port := rfl
@[simp] theorem Room.setState_state (rm : Room) (st : RoomState) : (rm.setState st).ctx.state = st := rfl

/-! ### Banks and microphones -/

@[simp] theorem Room.updBank_ctx (rm : Room) (b : BankId) (f : Bank → Bank) : (rm.updBank b f).ctx = rm.ctx := by
  unfold Room.updBank; split <;> rfl
@[simp] theorem Room.updBank_params (rm : Room) (b : BankId) (f : Bank → Bank) : (rm.updBank b f).params = rm.params := by
  unfold Room.updBank; split <;> rfl
@[simp] theorem Room.updBank_latch (rm : Room) (b : BankId) (f : Bank → Bank) : (rm.updBank b f).latch = rm.latch := by
  unfold Room.updBank; split <;> rfl
@[simp] theorem Room.updBank_overlay (rm : Room) (b : BankId) (f : Bank → Bank) : (rm.updBank b f).overlay = rm.overlay := by
  unfold Room.updBank; split <;> rfl
@[simp] theorem Room.updBank_videoOut (rm : Room) (b : BankId) (f : Bank → Bank) : (rm.updBank b f).videoOut = rm.videoOut := by
  unfold Room.updBank; split <;> rfl
@[simp] theorem Room.updBank_port (rm : Room) (b : BankId) (f : Bank → Bank) : (rm.updBank b f).port = rm.port := by
  unfold Room.updBank; split <;> rfl
@[simp] theorem Room.updBank_mic1 (rm : Room) (b : BankId) (f : Bank → Bank) : (rm.updBank b f).mic1 = rm.mic1 := by
  unfold Room.updBank; split <;> rfl
@[simp] theorem Room.updBank_mic2 (rm : Room) (b : BankId) (f : Bank → Bank) : (rm.updBank b f).mic2 = rm.mic2 := by
  unfold Room.updBank; split <;> rfl
@[simp] theorem Room.updBank_requests (rm : Room) (b : BankId) (f : Bank → Bank) : (rm.updBank b f).requests = rm.requests := by
  unfold Room.updBank; split <;> rfl
@[simp] theorem Room.updBank_ticketCounter (rm : Room) (b : BankId) (f : Bank → Bank) : (rm.updBank b f).ticketCounter = rm.ticketCounter := by
  unfold Room.updBank; split <;> rfl
@[simp] theorem Room.updBank_requestCounters (rm : Room) (b : BankId) (f : Bank → Bank) : (rm.updBank b f).requestCounters = rm.requestCounters := by
  unfold Room.updBank; split <;> rfl
@[simp] theorem Room.updBank_stack (rm : Room) (b : BankId) (f : Bank → Bank) : (rm.updBank b f).stack = rm.stack := by
  unfold Room.updBank; split <;> rfl
@[simp] theorem Room.updMic_ctx (rm : Room) (m : MicId) (f : Mic → Mic) : (rm.updMic m f).ctx = rm.ctx := by
  unfold Room.updMic; split <;> rfl
@[simp] theorem Room.updMic_params (rm : Room) (m : MicId) (f : Mic → Mic) : (rm.updMic m f).params = rm.params := by
  unfold Room.updMic; split <;> rfl
@[simp] theorem Room.updMic_bank0 (rm : Room) (m : MicId) (f : Mic → Mic) : (rm.updMic m f).bank0 = rm.bank0 := by
  unfold Room.updMic; split <;> rfl
@[simp] theorem Room.updMic_bank1 (rm : Room) (m : MicId) (f : Mic → Mic) : (rm.updMic m f).bank1 = rm.bank1 := by
  unfold Room.updMic; split <;> rfl
@[simp] theorem Room.updMic_latch (rm : Room) (m : MicId) (f : Mic → Mic) : (rm.updMic m f).latch = rm.latch := by
  unfold Room.updMic; split <;> rfl
@[simp] theorem Room.updMic_overlay (rm : Room) (m : MicId) (f : Mic → Mic) : (rm.updMic m f).overlay = rm.overlay := by
  unfold Room.updMic; split <;> rfl
@[simp] theorem Room.updMic_videoOut (rm : Room) (m : MicId) (f : Mic → Mic) : (rm.updMic m f).videoOut = rm.videoOut := by
  unfold Room.updMic; split <;> rfl
@[simp] theorem Room.updMic_port (rm : Room) (m : MicId) (f : Mic → Mic) : (rm.updMic m f).port = rm.port := by
  unfold Room.updMic; split <;> rfl
@[simp] theorem Room.updMic_requests (rm : Room) (m : MicId) (f : Mic → Mic) : (rm.updMic m f).requests = rm.requests := by
  unfold Room.updMic; split <;> rfl
@[simp] theorem Room.updMic_ticketCounter (rm : Room) (m : MicId) (f : Mic → Mic) : (rm.updMic m f).ticketCounter = rm.ticketCounter := by
  unfold Room.updMic; split <;> rfl
@[simp] theorem Room.updMic_requestCounters (rm : Room) (m : MicId) (f : Mic → Mic) : (rm.updMic m f).requestCounters = rm.requestCounters := by
  unfold Room.updMic; split <;> rfl
@[simp] theorem Room.updMic_stack (rm : Room) (m : MicId) (f : Mic → Mic) : (rm.updMic m f).stack = rm.stack := by
  unfold Room.updMic; split <;> rfl
@[simp] theorem Room.moveEntry?_ctx (rm : Room) (t : Option Nat) (st : EntryState) : (rm.moveEntry? t st).ctx = rm.ctx := by
  cases t <;> rfl
@[simp] theorem Room.moveEntry?_params (rm : Room) (t : Option Nat) (st : EntryState) : (rm.moveEntry? t st).params = rm.params := by
  cases t <;> rfl
@[simp] theorem Room.moveEntry?_bank0 (rm : Room) (t : Option Nat) (st : EntryState) : (rm.moveEntry? t st).bank0 = rm.bank0 := by
  cases t <;> rfl
@[simp] theorem Room.moveEntry?_bank1 (rm : Room) (t : Option Nat) (st : EntryState) : (rm.moveEntry? t st).bank1 = rm.bank1 := by
  cases t <;> rfl
@[simp] theorem Room.moveEntry?_latch (rm : Room) (t : Option Nat) (st : EntryState) : (rm.moveEntry? t st).latch = rm.latch := by
  cases t <;> rfl
@[simp] theorem Room.moveEntry?_overlay (rm : Room) (t : Option Nat) (st : EntryState) : (rm.moveEntry? t st).overlay = rm.overlay := by
  cases t <;> rfl
@[simp] theorem Room.moveEntry?_videoOut (rm : Room) (t : Option Nat) (st : EntryState) : (rm.moveEntry? t st).videoOut = rm.videoOut := by
  cases t <;> rfl
@[simp] theorem Room.moveEntry?_port (rm : Room) (t : Option Nat) (st : EntryState) : (rm.moveEntry? t st).port = rm.port := by
  cases t <;> rfl
@[simp] theorem Room.moveEntry?_mic1 (rm : Room) (t : Option Nat) (st : EntryState) : (rm.moveEntry? t st).mic1 = rm.mic1 := by
  cases t <;> rfl
@[simp] theorem Room.moveEntry?_mic2 (rm : Room) (t : Option Nat) (st : EntryState) : (rm.moveEntry? t st).mic2 = rm.mic2 := by
  cases t <;> rfl
@[simp] theorem Room.moveEntry?_ticketCounter (rm : Room) (t : Option Nat) (st : EntryState) : (rm.moveEntry? t st).ticketCounter = rm.ticketCounter := by
  cases t <;> rfl
@[simp] theorem Room.moveEntry?_requestCounters (rm : Room) (t : Option Nat) (st : EntryState) : (rm.moveEntry? t st).requestCounters = rm.requestCounters := by
  cases t <;> rfl
@[simp] theorem Room.moveEntry?_stack (rm : Room) (t : Option Nat) (st : EntryState) : (rm.moveEntry? t st).stack = rm.stack := by
  cases t <;> rfl

theorem bank_cases (b : BankId) : b = 0 ∨ b = 1 := by revert b; decide

@[simp] theorem Room.bank_updBank_same (rm : Room) (b : BankId) (f : Bank → Bank) :
    (rm.updBank b f).bank b = f (rm.bank b) := by
  rcases bank_cases b with h | h <;> subst h <;> rfl

theorem Room.bank_updBank_ne (rm : Room) (b c : BankId) (f : Bank → Bank) (h : c ≠ b) :
    (rm.updBank b f).bank c = rm.bank c := by
  rcases bank_cases b with hb | hb <;> rcases bank_cases c with hc | hc <;> subst hb <;> subst hc <;>
    first | rfl | exact absurd rfl h

@[simp] theorem Room.mic_updMic_same (rm : Room) (m : MicId) (f : Mic → Mic) :
    (rm.updMic m f).mic m = f (rm.mic m) := by
  rcases bank_cases m with h | h <;> subst h <;> rfl

theorem Room.mic_updMic_ne (rm : Room) (m k : MicId) (f : Mic → Mic) (h : k ≠ m) :
    (rm.updMic m f).mic k = rm.mic k := by
  rcases bank_cases m with hb | hb <;> rcases bank_cases k with hc | hc <;> subst hb <;> subst hc <;>
    first | rfl | exact absurd rfl h

end Sys2Proof.Machine
end

