-- ==== Sys2Proof/Laws/Reports.lean ====
section
/-! SUPPORT. What raising a report changes: the report queue, or the owner's stack and its counters; nothing else
(R177, R178). -/

namespace Sys2Proof.Machine

/-- Everything raising a report can do. -/
theorem raise_cases (b : ReportBody) (s : State) :
    (s.reportEnters b.owner = true ∧ raise b s = { s with reports := s.reports ++ [s.newReport b] }) ∨
      (s.reportEnters b.owner = false ∧ raise b s = stackReport (s.newReport b) s) := by
  unfold raise
  split
  · next h => exact .inl ⟨h, rfl⟩
  · next h => exact .inr ⟨by simpa using h, rfl⟩

@[simp] theorem raise_mode (b : ReportBody) (s : State) : (raise b s).mode = s.mode := by
  unfold raise; split
  · rfl
  · unfold stackReport fillSlot; cases b <;> rfl
@[simp] theorem raise_venueTime (b : ReportBody) (s : State) : (raise b s).venueTime = s.venueTime := by
  unfold raise; split
  · rfl
  · unfold stackReport fillSlot; cases b <;> rfl
@[simp] theorem raise_font (b : ReportBody) (s : State) : (raise b s).font = s.font := by
  unfold raise; split
  · rfl
  · unfold stackReport fillSlot; cases b <;> rfl
@[simp] theorem raise_ladder (b : ReportBody) (s : State) : (raise b s).ladder = s.ladder := by
  unfold raise; split
  · rfl
  · unfold stackReport fillSlot; cases b <;> rfl
@[simp] theorem raise_frameQueue (b : ReportBody) (s : State) : (raise b s).frameQueue = s.frameQueue := by
  unfold raise; split
  · rfl
  · unfold stackReport fillSlot; cases b <;> rfl
@[simp] theorem raise_engine (b : ReportBody) (s : State) : (raise b s).engine = s.engine := by
  unfold raise; split
  · rfl
  · unfold stackReport fillSlot; cases b <;> rfl
@[simp] theorem raise_slotIn (b : ReportBody) (s : State) : (raise b s).slotIn = s.slotIn := by
  unfold raise; split
  · rfl
  · unfold stackReport fillSlot; cases b <;> rfl
@[simp] theorem raise_slotOut (b : ReportBody) (s : State) : (raise b s).slotOut = s.slotOut := by
  unfold raise; split
  · rfl
  · unfold stackReport fillSlot; cases b <;> rfl
@[simp] theorem raise_audioOut (b : ReportBody) (s : State) : (raise b s).audioOut = s.audioOut := by
  unfold raise; split
  · rfl
  · unfold stackReport fillSlot; cases b <;> rfl
@[simp] theorem raise_panels (b : ReportBody) (s : State) : (raise b s).panels = s.panels := by
  unfold raise; split
  · rfl
  · unfold stackReport fillSlot; cases b <;> rfl
@[simp] theorem raise_nextEntry (b : ReportBody) (s : State) : (raise b s).nextEntry = s.nextEntry := by
  unfold raise; split
  · rfl
  · unfold stackReport fillSlot; cases b <;> rfl
@[simp] theorem raise_polling (b : ReportBody) (s : State) : (raise b s).polling = s.polling := by
  unfold raise; split
  · rfl
  · unfold stackReport fillSlot; cases b <;> rfl
@[simp] theorem raise_chip (b : ReportBody) (s : State) : (raise b s).chip = s.chip := by
  unfold raise; split
  · rfl
  · unfold stackReport fillSlot; cases b <;> rfl
@[simp] theorem raise_timeoutInForce (b : ReportBody) (s : State) : (raise b s).timeoutInForce = s.timeoutInForce := by
  unfold raise; split
  · rfl
  · unfold stackReport fillSlot; cases b <;> rfl
@[simp] theorem raise_issueCounter (b : ReportBody) (s : State) : (raise b s).issueCounter = s.issueCounter := by
  unfold raise; split
  · rfl
  · unfold stackReport fillSlot; cases b <;> rfl
@[simp] theorem raise_cancelQueue (b : ReportBody) (s : State) : (raise b s).cancelQueue = s.cancelQueue := by
  unfold raise; split
  · rfl
  · unfold stackReport fillSlot; cases b <;> rfl
@[simp] theorem raise_replies (b : ReportBody) (s : State) : (raise b s).replies = s.replies := by
  unfold raise; split
  · rfl
  · unfold stackReport fillSlot; cases b <;> rfl
@[simp] theorem raise_lastServed (b : ReportBody) (s : State) : (raise b s).lastServed = s.lastServed := by
  unfold raise; split
  · rfl
  · unfold stackReport fillSlot; cases b <;> rfl
@[simp] theorem raise_upstream (b : ReportBody) (s : State) : (raise b s).upstream = s.upstream := by
  unfold raise; split
  · rfl
  · unfold stackReport fillSlot; cases b <;> rfl
@[simp] theorem raise_freeDrawn (b : ReportBody) (s : State) : (raise b s).freeDrawn = s.freeDrawn := by
  unfold raise; split
  · rfl
  · unfold stackReport fillSlot; cases b <;> rfl
@[simp] theorem raise_pending (b : ReportBody) (s : State) : (raise b s).pending = s.pending := by
  unfold raise; split
  · rfl
  · unfold stackReport fillSlot; cases b <;> rfl

@[simp] theorem raise_panel (b : ReportBody) (s : State) (e : PanelId) : (raise b s).panel e = s.panel e := by
  simp [State.panel]

theorem fillSlot_room (rep : Report) (s : State) (r : RoomId) (h : rep.body.owner = .room r) :
    fillSlot rep s = s.updRoom r fun rm => { rm with stack := rm.stack.put rep } := by
  unfold fillSlot; rw [h]

theorem fillSlot_chip (rep : Report) (s : State) (h : rep.body.owner = .chip) (k : RoomId) :
    (fillSlot rep s).room k = s.room k := by
  unfold fillSlot; rw [h]
  cases rep.body <;> rfl

theorem raise_room_ne (b : ReportBody) (s : State) (k : RoomId) (h : b.owner ≠ .room k) :
    (raise b s).room k = s.room k := by
  rcases raise_cases b s with ⟨_, e⟩ | ⟨_, e⟩ <;> rw [e]
  · rfl
  · unfold stackReport
    cases ho : b.owner with
    | chip => rw [fillSlot_chip _ _ ho]; rfl
    | room r =>
      rw [fillSlot_room _ _ r ho, room_updRoom_ne _ _ _ _ (fun e => h (by rw [ho, e]))]; rfl

/-- A room after a report has been raised: its stack alone may have changed. -/
theorem raise_room (b : ReportBody) (s : State) (k : RoomId) :
    (raise b s).room k = s.room k ∨
      (raise b s).room k = { s.room k with stack := (s.room k).stack.put (s.newReport b) } := by
  by_cases h : b.owner = .room k
  · rcases raise_cases b s with ⟨_, e⟩ | ⟨_, e⟩ <;> rw [e]
    · exact .inl rfl
    · refine .inr ?_
      unfold stackReport
      rw [fillSlot_room _ _ k h]; simp
  · exact .inl (raise_room_ne b s k h)

@[simp] theorem raise_room_ctx (b : ReportBody) (s : State) (k : RoomId) :
    ((raise b s).room k).ctx = (s.room k).ctx := by
  rcases raise_room b s k with h | h <;> rw [h]
@[simp] theorem raise_room_params (b : ReportBody) (s : State) (k : RoomId) :
    ((raise b s).room k).params = (s.room k).params := by
  rcases raise_room b s k with h | h <;> rw [h]
@[simp] theorem raise_room_bank0 (b : ReportBody) (s : State) (k : RoomId) :
    ((raise b s).room k).bank0 = (s.room k).bank0 := by
  rcases raise_room b s k with h | h <;> rw [h]
@[simp] theorem raise_room_bank1 (b : ReportBody) (s : State) (k : RoomId) :
    ((raise b s).room k).bank1 = (s.room k).bank1 := by
  rcases raise_room b s k with h | h <;> rw [h]
@[simp] theorem raise_room_latch (b : ReportBody) (s : State) (k : RoomId) :
    ((raise b s).room k).latch = (s.room k).latch := by
  rcases raise_room b s k with h | h <;> rw [h]
@[simp] theorem raise_room_overlay (b : ReportBody) (s : State) (k : RoomId) :
    ((raise b s).room k).overlay = (s.room k).overlay := by
  rcases raise_room b s k with h | h <;> rw [h]
@[simp] theorem raise_room_videoOut (b : ReportBody) (s : State) (k : RoomId) :
    ((raise b s).room k).videoOut = (s.room k).videoOut := by
  rcases raise_room b s k with h | h <;> rw [h]
@[simp] theorem raise_room_port (b : ReportBody) (s : State) (k : RoomId) :
    ((raise b s).room k).port = (s.room k).port := by
  rcases raise_room b s k with h | h <;> rw [h]
@[simp] theorem raise_room_mic1 (b : ReportBody) (s : State) (k : RoomId) :
    ((raise b s).room k).mic1 = (s.room k).mic1 := by
  rcases raise_room b s k with h | h <;> rw [h]
@[simp] theorem raise_room_mic2 (b : ReportBody) (s : State) (k : RoomId) :
    ((raise b s).room k).mic2 = (s.room k).mic2 := by
  rcases raise_room b s k with h | h <;> rw [h]
@[simp] theorem raise_room_requests (b : ReportBody) (s : State) (k : RoomId) :
    ((raise b s).room k).requests = (s.room k).requests := by
  rcases raise_room b s k with h | h <;> rw [h]
@[simp] theorem raise_room_ticketCounter (b : ReportBody) (s : State) (k : RoomId) :
    ((raise b s).room k).ticketCounter = (s.room k).ticketCounter := by
  rcases raise_room b s k with h | h <;> rw [h]
@[simp] theorem raise_room_requestCounters (b : ReportBody) (s : State) (k : RoomId) :
    ((raise b s).room k).requestCounters = (s.room k).requestCounters := by
  rcases raise_room b s k with h | h <;> rw [h]
@[simp] theorem raise_room_bank (b : ReportBody) (s : State) (k : RoomId) (c : BankId) :
    ((raise b s).room k).bank c = (s.room k).bank c := by
  rcases raise_room b s k with h | h <;> rw [h] <;> rfl

@[simp] theorem raise_room_mic (b : ReportBody) (s : State) (k : RoomId) (m : MicId) :
    ((raise b s).room k).mic m = (s.room k).mic m := by
  rcases raise_room b s k with h | h <;> rw [h] <;> rfl

/-! ### A room's report stack holds each kind of report in its own slot (R177 to R179) -/

theorem empty_lawful (r : RoomId) : RoomStack.Lawful r {} := by constructor <;> intro x h <;> cases h

@[simp] theorem replaceReport_body (old : Option Report) (new : Report) : (replaceReport old new).body = new.body := by
  cases old <;> rfl

/-- A BANK_FREE of room `r` that takes an empty slot, or merges into a BANK_FREE of the room, leaves a BANK_FREE of it. -/
theorem mergeBankFree_body {r : RoomId} {old : Option Report} {new : Report} {n0 n1 : Bool}
    (hn : new.body = .bankFree r n0 n1) (ho : ∀ x, old = some x → ∃ b0 b1, x.body = .bankFree r b0 b1) :
    ∃ b0 b1, (mergeBankFree old new).body = .bankFree r b0 b1 := by
  cases old with
  | none => exact ⟨n0, n1, by simpa [mergeBankFree] using hn⟩
  | some x =>
    obtain ⟨b0, b1, hx⟩ := ho x rfl
    exact ⟨b0 || n0, b1 || n1, by simp [mergeBankFree, hn, hx]⟩

theorem put_lawful {r : RoomId} {k : RoomStack} {rep : Report} (h : k.Lawful r) (ho : rep.body.owner = .room r) :
    (k.put rep).Lawful r := by
  unfold RoomStack.put
  split <;> rename_i hb <;> simp only [hb, ReportBody.owner, Owner.room.injEq, reduceCtorEq] at ho <;> try subst ho
  · refine { h with lineScore := fun x hx => ?_ }
    cases hx; exact ⟨_, by simpa using hb, rfl⟩
  · refine { h with songEnd := fun x hx => ?_ }
    cases hx; exact ⟨_, hb, rfl⟩
  · refine { h with bankFree := fun x hx => ?_ }
    cases hx; exact mergeBankFree_body hb h.bankFree
  · refine { h with calDone := fun x hx => ?_ }
    cases hx; exact ⟨_, _, _, _, _, hb⟩
  · refine { h with queueMark := fun x hx => ?_ }
    cases hx; exact ⟨_, _, by simpa using hb⟩

/-- A stack without its first report is lawful, and that report is the SONG_END exactly when the SONG_END slot is the
one it has left. -/
theorem takeFirst_lawful {r : RoomId} {k rest : RoomStack} {rep : Report} (h : k.Lawful r)
    (ht : k.takeFirst = some (rep, rest)) :
    rest.Lawful r ∧
      ((∃ b, rep.body = .songEnd b ∧ b.room = r) ∧ k.songEnd = some rep ∧ rest.songEnd = none
        ∨ (∀ b, rep.body ≠ .songEnd b) ∧ rest.songEnd = k.songEnd) := by
  unfold RoomStack.takeFirst at ht
  repeat' split at ht
  · next x hx =>
    cases ht; obtain ⟨b, hb, _⟩ := h.lineScore _ hx
    exact ⟨{ h with lineScore := fun _ h => by cases h }, .inr ⟨by simp [hb], rfl⟩⟩
  · next hx =>
    cases ht
    exact ⟨{ h with songEnd := fun _ h => by cases h }, .inl ⟨h.songEnd _ hx, hx, rfl⟩⟩
  · next hx =>
    cases ht; obtain ⟨b0, b1, hb⟩ := h.bankFree _ hx
    exact ⟨{ h with bankFree := fun _ h => by cases h }, .inr ⟨by simp [hb], rfl⟩⟩
  · next hx =>
    cases ht; obtain ⟨_, _, _, _, _, hb⟩ := h.calDone _ hx
    exact ⟨{ h with calDone := fun _ h => by cases h }, .inr ⟨by simp [hb], rfl⟩⟩
  · next hx =>
    cases ht; obtain ⟨_, _, hb⟩ := h.queueMark _ hx
    exact ⟨{ h with queueMark := fun _ h => by cases h }, .inr ⟨by simp [hb], rfl⟩⟩
  · cases ht

theorem afterReset_lawful {r : RoomId} {k : RoomStack} (h : k.Lawful r) (clearReports : Bool) :
    (k.afterReset clearReports).Lawful r := by
  unfold RoomStack.afterReset
  split
  · exact empty_lawful r
  · exact { h with songEnd := fun _ h => by cases h }

theorem raise_stack_lawful {s : State} {k : RoomId} (b : ReportBody) (h : (s.room k).stack.Lawful k) :
    ((raise b s).room k).stack.Lawful k := by
  by_cases ho : b.owner = .room k
  · rcases raise_room b s k with e | e <;> rw [e]
    · exact h
    · exact put_lawful h ho
  · rw [raise_room_ne b s k ho]; exact h

/-- The report is a SONG_END. -/
def ReportBody.isSongEnd : ReportBody → Bool
  | .songEnd _ => true
  | _ => false

theorem put_songEnd (k : RoomStack) (rep : Report) (h : rep.body.isSongEnd = false) :
    (k.put rep).songEnd = k.songEnd := by
  unfold RoomStack.put
  cases hb : rep.body <;> simp_all [ReportBody.isSongEnd]

theorem raise_room_songEnd (b : ReportBody) (s : State) (k : RoomId) (h : b.isSongEnd = false) :
    ((raise b s).room k).stack.songEnd = (s.room k).stack.songEnd := by
  rcases raise_room b s k with e | e <;> rw [e]
  exact put_songEnd _ _ h

/-- A raised SONG_END waits in its room's stack unless it enters the queue at once (R18). -/
theorem raise_songEnd (e : SongEnd) (s : State) :
    ((raise (.songEnd e) s).room e.room).stack.songEnd =
      if s.reportEnters (.room e.room) = true then (s.room e.room).stack.songEnd
      else some (s.newReport (.songEnd e)) := by
  rcases raise_cases (.songEnd e) s with ⟨h, x⟩ | ⟨h, x⟩ <;> rw [x] <;> simp only [ReportBody.owner] at h
  · rw [if_pos h]; rfl
  · rw [if_neg (by simp [h])]
    unfold stackReport
    rw [fillSlot_room _ _ e.room rfl]
    simp [RoomStack.put, State.newReport]

/-! ### The mark test (R98) -/

theorem markTest_cases (r : RoomId) (s : State) :
    markTest r s = s ∨ ∃ m, (s.room r).markDue = some m ∧
      markTest r s = raise (.queueMark r m (s.room r).port.fill)
        (s.updRoom r fun rm => rm.updPort fun p => { p with markState := m.state }) := by
  unfold markTest
  cases h : (s.room r).markDue with
  | none => exact .inl rfl
  | some m => exact .inr ⟨m, rfl, rfl⟩

@[simp] theorem markTest_mode (r : RoomId) (s : State) : (markTest r s).mode = s.mode := by
  rcases markTest_cases r s with h | ⟨m, _, h⟩ <;> rw [h]; simp
@[simp] theorem markTest_venueTime (r : RoomId) (s : State) : (markTest r s).venueTime = s.venueTime := by
  rcases markTest_cases r s with h | ⟨m, _, h⟩ <;> rw [h]; simp
@[simp] theorem markTest_font (r : RoomId) (s : State) : (markTest r s).font = s.font := by
  rcases markTest_cases r s with h | ⟨m, _, h⟩ <;> rw [h]; simp
@[simp] theorem markTest_ladder (r : RoomId) (s : State) : (markTest r s).ladder = s.ladder := by
  rcases markTest_cases r s with h | ⟨m, _, h⟩ <;> rw [h]; simp
@[simp] theorem markTest_frameQueue (r : RoomId) (s : State) : (markTest r s).frameQueue = s.frameQueue := by
  rcases markTest_cases r s with h | ⟨m, _, h⟩ <;> rw [h]; simp
@[simp] theorem markTest_engine (r : RoomId) (s : State) : (markTest r s).engine = s.engine := by
  rcases markTest_cases r s with h | ⟨m, _, h⟩ <;> rw [h]; simp
@[simp] theorem markTest_slotIn (r : RoomId) (s : State) : (markTest r s).slotIn = s.slotIn := by
  rcases markTest_cases r s with h | ⟨m, _, h⟩ <;> rw [h]; simp
@[simp] theorem markTest_slotOut (r : RoomId) (s : State) : (markTest r s).slotOut = s.slotOut := by
  rcases markTest_cases r s with h | ⟨m, _, h⟩ <;> rw [h]; simp
@[simp] theorem markTest_audioOut (r : RoomId) (s : State) : (markTest r s).audioOut = s.audioOut := by
  rcases markTest_cases r s with h | ⟨m, _, h⟩ <;> rw [h]; simp
@[simp] theorem markTest_panels (r : RoomId) (s : State) : (markTest r s).panels = s.panels := by
  rcases markTest_cases r s with h | ⟨m, _, h⟩ <;> rw [h]; simp
@[simp] theorem markTest_nextEntry (r : RoomId) (s : State) : (markTest r s).nextEntry = s.nextEntry := by
  rcases markTest_cases r s with h | ⟨m, _, h⟩ <;> rw [h]; simp
@[simp] theorem markTest_polling (r : RoomId) (s : State) : (markTest r s).polling = s.polling := by
  rcases markTest_cases r s with h | ⟨m, _, h⟩ <;> rw [h]; simp
@[simp] theorem markTest_chip (r : RoomId) (s : State) : (markTest r s).chip = s.chip := by
  rcases markTest_cases r s with h | ⟨m, _, h⟩ <;> rw [h]; simp
@[simp] theorem markTest_timeoutInForce (r : RoomId) (s : State) : (markTest r s).timeoutInForce = s.timeoutInForce := by
  rcases markTest_cases r s with h | ⟨m, _, h⟩ <;> rw [h]; simp
@[simp] theorem markTest_issueCounter (r : RoomId) (s : State) : (markTest r s).issueCounter = s.issueCounter := by
  rcases markTest_cases r s with h | ⟨m, _, h⟩ <;> rw [h]; simp
@[simp] theorem markTest_cancelQueue (r : RoomId) (s : State) : (markTest r s).cancelQueue = s.cancelQueue := by
  rcases markTest_cases r s with h | ⟨m, _, h⟩ <;> rw [h]; simp
@[simp] theorem markTest_replies (r : RoomId) (s : State) : (markTest r s).replies = s.replies := by
  rcases markTest_cases r s with h | ⟨m, _, h⟩ <;> rw [h]; simp
@[simp] theorem markTest_lastServed (r : RoomId) (s : State) : (markTest r s).lastServed = s.lastServed := by
  rcases markTest_cases r s with h | ⟨m, _, h⟩ <;> rw [h]; simp
@[simp] theorem markTest_upstream (r : RoomId) (s : State) : (markTest r s).upstream = s.upstream := by
  rcases markTest_cases r s with h | ⟨m, _, h⟩ <;> rw [h]; simp
@[simp] theorem markTest_freeDrawn (r : RoomId) (s : State) : (markTest r s).freeDrawn = s.freeDrawn := by
  rcases markTest_cases r s with h | ⟨m, _, h⟩ <;> rw [h]; simp
@[simp] theorem markTest_pending (r : RoomId) (s : State) : (markTest r s).pending = s.pending := by
  rcases markTest_cases r s with h | ⟨m, _, h⟩ <;> rw [h]; simp
@[simp] theorem markTest_panel (r : RoomId) (s : State) (e : PanelId) : (markTest r s).panel e = s.panel e := by
  simp [State.panel]

theorem markTest_room_ne (r k : RoomId) (s : State) (h : k ≠ r) : (markTest r s).room k = s.room k := by
  rcases markTest_cases r s with e | ⟨m, _, e⟩ <;> rw [e]
  rw [raise_room_ne _ _ _ (by simp [ReportBody.owner, Ne.symm h]), room_updRoom_ne _ _ _ _ h]

@[simp] theorem markTest_room_ctx (r k : RoomId) (s : State) : ((markTest r s).room k).ctx = (s.room k).ctx := by
  rcases markTest_cases r s with e | ⟨m, _, e⟩ <;> rw [e]
  rw [raise_room_ctx, room_updRoom]
  split
  · next h => subst h; rfl
  · rfl
@[simp] theorem markTest_room_params (r k : RoomId) (s : State) : ((markTest r s).room k).params = (s.room k).params := by
  rcases markTest_cases r s with e | ⟨m, _, e⟩ <;> rw [e]
  rw [raise_room_params, room_updRoom]
  split
  · next h => subst h; rfl
  · rfl
@[simp] theorem markTest_room_bank0 (r k : RoomId) (s : State) : ((markTest r s).room k).bank0 = (s.room k).bank0 := by
  rcases markTest_cases r s with e | ⟨m, _, e⟩ <;> rw [e]
  rw [raise_room_bank0, room_updRoom]
  split
  · next h => subst h; rfl
  · rfl
@[simp] theorem markTest_room_bank1 (r k : RoomId) (s : State) : ((markTest r s).room k).bank1 = (s.room k).bank1 := by
  rcases markTest_cases r s with e | ⟨m, _, e⟩ <;> rw [e]
  rw [raise_room_bank1, room_updRoom]
  split
  · next h => subst h; rfl
  · rfl
@[simp] theorem markTest_room_latch (r k : RoomId) (s : State) : ((markTest r s).room k).latch = (s.room k).latch := by
  rcases markTest_cases r s with e | ⟨m, _, e⟩ <;> rw [e]
  rw [raise_room_latch, room_updRoom]
  split
  · next h => subst h; rfl
  · rfl
@[simp] theorem markTest_room_overlay (r k : RoomId) (s : State) : ((markTest r s).room k).overlay = (s.room k).overlay := by
  rcases markTest_cases r s with e | ⟨m, _, e⟩ <;> rw [e]
  rw [raise_room_overlay, room_updRoom]
  split
  · next h => subst h; rfl
  · rfl
@[simp] theorem markTest_room_videoOut (r k : RoomId) (s : State) : ((markTest r s).room k).videoOut = (s.room k).videoOut := by
  rcases markTest_cases r s with e | ⟨m, _, e⟩ <;> rw [e]
  rw [raise_room_videoOut, room_updRoom]
  split
  · next h => subst h; rfl
  · rfl
@[simp] theorem markTest_room_mic1 (r k : RoomId) (s : State) : ((markTest r s).room k).mic1 = (s.room k).mic1 := by
  rcases markTest_cases r s with e | ⟨m, _, e⟩ <;> rw [e]
  rw [raise_room_mic1, room_updRoom]
  split
  · next h => subst h; rfl
  · rfl
@[simp] theorem markTest_room_mic2 (r k : RoomId) (s : State) : ((markTest r s).room k).mic2 = (s.room k).mic2 := by
  rcases markTest_cases r s with e | ⟨m, _, e⟩ <;> rw [e]
  rw [raise_room_mic2, room_updRoom]
  split
  · next h => subst h; rfl
  · rfl
@[simp] theorem markTest_room_requests (r k : RoomId) (s : State) : ((markTest r s).room k).requests = (s.room k).requests := by
  rcases markTest_cases r s with e | ⟨m, _, e⟩ <;> rw [e]
  rw [raise_room_requests, room_updRoom]
  split
  · next h => subst h; rfl
  · rfl
@[simp] theorem markTest_room_ticketCounter (r k : RoomId) (s : State) : ((markTest r s).room k).ticketCounter = (s.room k).ticketCounter := by
  rcases markTest_cases r s with e | ⟨m, _, e⟩ <;> rw [e]
  rw [raise_room_ticketCounter, room_updRoom]
  split
  · next h => subst h; rfl
  · rfl
@[simp] theorem markTest_room_requestCounters (r k : RoomId) (s : State) : ((markTest r s).room k).requestCounters = (s.room k).requestCounters := by
  rcases markTest_cases r s with e | ⟨m, _, e⟩ <;> rw [e]
  rw [raise_room_requestCounters, room_updRoom]
  split
  · next h => subst h; rfl
  · rfl

/-- The port after the mark test: the mark state alone may have changed. -/
theorem markTest_room_port (r k : RoomId) (s : State) :
    ((markTest r s).room k).port = { (s.room k).port with markState := ((markTest r s).room k).port.markState } := by
  rcases markTest_cases r s with e | ⟨m, _, e⟩ <;> rw [e]
  rw [raise_room_port, room_updRoom]
  split
  · next h => subst h; rfl
  · rfl

@[simp] theorem markTest_room_bank (r k : RoomId) (s : State) (c : BankId) :
    ((markTest r s).room k).bank c = (s.room k).bank c := by simp [Room.bank]

@[simp] theorem markTest_room_mic (r k : RoomId) (s : State) (m : MicId) :
    ((markTest r s).room k).mic m = (s.room k).mic m := by simp [Room.mic]

theorem markTest_stack_lawful {s : State} {k : RoomId} (r : RoomId) (h : (s.room k).stack.Lawful k) :
    ((markTest r s).room k).stack.Lawful k := by
  rcases markTest_cases r s with e | ⟨m, _, e⟩ <;> rw [e]
  · exact h
  · refine raise_stack_lawful _ ?_
    rw [room_updRoom]
    split
    · next hk => subst hk; exact h
    · exact h

@[simp] theorem markTest_room_songEnd (r k : RoomId) (s : State) :
    ((markTest r s).room k).stack.songEnd = (s.room k).stack.songEnd := by
  rcases markTest_cases r s with e | ⟨m, _, e⟩ <;> rw [e]
  rw [raise_room_songEnd _ _ _ rfl, room_updRoom]
  split
  · next h => subst h; rfl
  · rfl

end Sys2Proof.Machine
end

