-- ==== Sys2Proof/Laws/Songs.lean ====
section
/-! SUPPORT. What the endings, the line test and the results put into outboxes change, and what they leave. -/

namespace Sys2Proof.Machine

/-! ### Results -/

/-- A fold keeps what each of its steps keeps. -/
theorem foldl_keeps {α β γ : Type} (f : γ → α → γ) (p : γ → β) (h : ∀ g a, p (f g a) = p g) (l : List α) (g : γ) :
    p (l.foldl f g) = p g := by
  induction l generalizing g with
  | nil => rfl
  | cons a l ih => rw [List.foldl_cons, ih, h]

@[simp] theorem pushResult_mode (e : PanelId) (k : ResultKind) (s : State) : (pushResult e k s).mode = s.mode := rfl
@[simp] theorem pushResult_venueTime (e : PanelId) (k : ResultKind) (s : State) : (pushResult e k s).venueTime = s.venueTime := rfl
@[simp] theorem pushResult_rooms (e : PanelId) (k : ResultKind) (s : State) : (pushResult e k s).rooms = s.rooms := rfl
@[simp] theorem pushResult_font (e : PanelId) (k : ResultKind) (s : State) : (pushResult e k s).font = s.font := rfl
@[simp] theorem pushResult_ladder (e : PanelId) (k : ResultKind) (s : State) : (pushResult e k s).ladder = s.ladder := rfl
@[simp] theorem pushResult_frameQueue (e : PanelId) (k : ResultKind) (s : State) : (pushResult e k s).frameQueue = s.frameQueue := rfl
@[simp] theorem pushResult_engine (e : PanelId) (k : ResultKind) (s : State) : (pushResult e k s).engine = s.engine := rfl
@[simp] theorem pushResult_slotIn (e : PanelId) (k : ResultKind) (s : State) : (pushResult e k s).slotIn = s.slotIn := rfl
@[simp] theorem pushResult_slotOut (e : PanelId) (k : ResultKind) (s : State) : (pushResult e k s).slotOut = s.slotOut := rfl
@[simp] theorem pushResult_audioOut (e : PanelId) (k : ResultKind) (s : State) : (pushResult e k s).audioOut = s.audioOut := rfl
@[simp] theorem pushResult_nextEntry (e : PanelId) (k : ResultKind) (s : State) : (pushResult e k s).nextEntry = s.nextEntry := rfl
@[simp] theorem pushResult_polling (e : PanelId) (k : ResultKind) (s : State) : (pushResult e k s).polling = s.polling := rfl
@[simp] theorem pushResult_chip (e : PanelId) (k : ResultKind) (s : State) : (pushResult e k s).chip = s.chip := rfl
@[simp] theorem pushResult_timeoutInForce (e : PanelId) (k : ResultKind) (s : State) : (pushResult e k s).timeoutInForce = s.timeoutInForce := rfl
@[simp] theorem pushResult_issueCounter (e : PanelId) (k : ResultKind) (s : State) : (pushResult e k s).issueCounter = s.issueCounter := rfl
@[simp] theorem pushResult_cancelQueue (e : PanelId) (k : ResultKind) (s : State) : (pushResult e k s).cancelQueue = s.cancelQueue := rfl
@[simp] theorem pushResult_replies (e : PanelId) (k : ResultKind) (s : State) : (pushResult e k s).replies = s.replies := rfl
@[simp] theorem pushResult_reports (e : PanelId) (k : ResultKind) (s : State) : (pushResult e k s).reports = s.reports := rfl
@[simp] theorem pushResult_chipStack (e : PanelId) (k : ResultKind) (s : State) : (pushResult e k s).chipStack = s.chipStack := rfl
@[simp] theorem pushResult_lastServed (e : PanelId) (k : ResultKind) (s : State) : (pushResult e k s).lastServed = s.lastServed := rfl
@[simp] theorem pushResult_link (e : PanelId) (k : ResultKind) (s : State) : (pushResult e k s).link = s.link := rfl
@[simp] theorem pushResult_upstream (e : PanelId) (k : ResultKind) (s : State) : (pushResult e k s).upstream = s.upstream := rfl
@[simp] theorem pushResult_freeDrawn (e : PanelId) (k : ResultKind) (s : State) : (pushResult e k s).freeDrawn = s.freeDrawn := rfl
@[simp] theorem pushResult_pending (e : PanelId) (k : ResultKind) (s : State) : (pushResult e k s).pending = s.pending := rfl
@[simp] theorem pushResult_room (e : PanelId) (k : ResultKind) (s : State) (x : RoomId) : (pushResult e k s).room x = s.room x := rfl
@[simp] theorem pushToRoom_mode (r : RoomId) (k : ResultKind) (s : State) : (pushToRoom r k s).mode = s.mode := by
  unfold pushToRoom; apply foldl_keeps _ State.mode; intro g x; split <;> rfl
@[simp] theorem pushToRoom_venueTime (r : RoomId) (k : ResultKind) (s : State) : (pushToRoom r k s).venueTime = s.venueTime := by
  unfold pushToRoom; apply foldl_keeps _ State.venueTime; intro g x; split <;> rfl
@[simp] theorem pushToRoom_rooms (r : RoomId) (k : ResultKind) (s : State) : (pushToRoom r k s).rooms = s.rooms := by
  unfold pushToRoom; apply foldl_keeps _ State.rooms; intro g x; split <;> rfl
@[simp] theorem pushToRoom_font (r : RoomId) (k : ResultKind) (s : State) : (pushToRoom r k s).font = s.font := by
  unfold pushToRoom; apply foldl_keeps _ State.font; intro g x; split <;> rfl
@[simp] theorem pushToRoom_ladder (r : RoomId) (k : ResultKind) (s : State) : (pushToRoom r k s).ladder = s.ladder := by
  unfold pushToRoom; apply foldl_keeps _ State.ladder; intro g x; split <;> rfl
@[simp] theorem pushToRoom_frameQueue (r : RoomId) (k : ResultKind) (s : State) : (pushToRoom r k s).frameQueue = s.frameQueue := by
  unfold pushToRoom; apply foldl_keeps _ State.frameQueue; intro g x; split <;> rfl
@[simp] theorem pushToRoom_engine (r : RoomId) (k : ResultKind) (s : State) : (pushToRoom r k s).engine = s.engine := by
  unfold pushToRoom; apply foldl_keeps _ State.engine; intro g x; split <;> rfl
@[simp] theorem pushToRoom_slotIn (r : RoomId) (k : ResultKind) (s : State) : (pushToRoom r k s).slotIn = s.slotIn := by
  unfold pushToRoom; apply foldl_keeps _ State.slotIn; intro g x; split <;> rfl
@[simp] theorem pushToRoom_slotOut (r : RoomId) (k : ResultKind) (s : State) : (pushToRoom r k s).slotOut = s.slotOut := by
  unfold pushToRoom; apply foldl_keeps _ State.slotOut; intro g x; split <;> rfl
@[simp] theorem pushToRoom_audioOut (r : RoomId) (k : ResultKind) (s : State) : (pushToRoom r k s).audioOut = s.audioOut := by
  unfold pushToRoom; apply foldl_keeps _ State.audioOut; intro g x; split <;> rfl
@[simp] theorem pushToRoom_nextEntry (r : RoomId) (k : ResultKind) (s : State) : (pushToRoom r k s).nextEntry = s.nextEntry := by
  unfold pushToRoom; apply foldl_keeps _ State.nextEntry; intro g x; split <;> rfl
@[simp] theorem pushToRoom_polling (r : RoomId) (k : ResultKind) (s : State) : (pushToRoom r k s).polling = s.polling := by
  unfold pushToRoom; apply foldl_keeps _ State.polling; intro g x; split <;> rfl
@[simp] theorem pushToRoom_chip (r : RoomId) (k : ResultKind) (s : State) : (pushToRoom r k s).chip = s.chip := by
  unfold pushToRoom; apply foldl_keeps _ State.chip; intro g x; split <;> rfl
@[simp] theorem pushToRoom_timeoutInForce (r : RoomId) (k : ResultKind) (s : State) : (pushToRoom r k s).timeoutInForce = s.timeoutInForce := by
  unfold pushToRoom; apply foldl_keeps _ State.timeoutInForce; intro g x; split <;> rfl
@[simp] theorem pushToRoom_issueCounter (r : RoomId) (k : ResultKind) (s : State) : (pushToRoom r k s).issueCounter = s.issueCounter := by
  unfold pushToRoom; apply foldl_keeps _ State.issueCounter; intro g x; split <;> rfl
@[simp] theorem pushToRoom_cancelQueue (r : RoomId) (k : ResultKind) (s : State) : (pushToRoom r k s).cancelQueue = s.cancelQueue := by
  unfold pushToRoom; apply foldl_keeps _ State.cancelQueue; intro g x; split <;> rfl
@[simp] theorem pushToRoom_replies (r : RoomId) (k : ResultKind) (s : State) : (pushToRoom r k s).replies = s.replies := by
  unfold pushToRoom; apply foldl_keeps _ State.replies; intro g x; split <;> rfl
@[simp] theorem pushToRoom_reports (r : RoomId) (k : ResultKind) (s : State) : (pushToRoom r k s).reports = s.reports := by
  unfold pushToRoom; apply foldl_keeps _ State.reports; intro g x; split <;> rfl
@[simp] theorem pushToRoom_chipStack (r : RoomId) (k : ResultKind) (s : State) : (pushToRoom r k s).chipStack = s.chipStack := by
  unfold pushToRoom; apply foldl_keeps _ State.chipStack; intro g x; split <;> rfl
@[simp] theorem pushToRoom_lastServed (r : RoomId) (k : ResultKind) (s : State) : (pushToRoom r k s).lastServed = s.lastServed := by
  unfold pushToRoom; apply foldl_keeps _ State.lastServed; intro g x; split <;> rfl
@[simp] theorem pushToRoom_link (r : RoomId) (k : ResultKind) (s : State) : (pushToRoom r k s).link = s.link := by
  unfold pushToRoom; apply foldl_keeps _ State.link; intro g x; split <;> rfl
@[simp] theorem pushToRoom_upstream (r : RoomId) (k : ResultKind) (s : State) : (pushToRoom r k s).upstream = s.upstream := by
  unfold pushToRoom; apply foldl_keeps _ State.upstream; intro g x; split <;> rfl
@[simp] theorem pushToRoom_freeDrawn (r : RoomId) (k : ResultKind) (s : State) : (pushToRoom r k s).freeDrawn = s.freeDrawn := by
  unfold pushToRoom; apply foldl_keeps _ State.freeDrawn; intro g x; split <;> rfl
@[simp] theorem pushToRoom_pending (r : RoomId) (k : ResultKind) (s : State) : (pushToRoom r k s).pending = s.pending := by
  unfold pushToRoom; apply foldl_keeps _ State.pending; intro g x; split <;> rfl
@[simp] theorem pushToRoom_room (r : RoomId) (k : ResultKind) (s : State) (x : RoomId) : (pushToRoom r k s).room x = s.room x := by
  simp [State.room]
@[simp] theorem emptyOutboxes_mode (r : RoomId) (s : State) : (emptyOutboxes r s).mode = s.mode := by
  unfold emptyOutboxes; apply foldl_keeps _ State.mode; intro g x; split <;> rfl
@[simp] theorem emptyOutboxes_venueTime (r : RoomId) (s : State) : (emptyOutboxes r s).venueTime = s.venueTime := by
  unfold emptyOutboxes; apply foldl_keeps _ State.venueTime; intro g x; split <;> rfl
@[simp] theorem emptyOutboxes_rooms (r : RoomId) (s : State) : (emptyOutboxes r s).rooms = s.rooms := by
  unfold emptyOutboxes; apply foldl_keeps _ State.rooms; intro g x; split <;> rfl
@[simp] theorem emptyOutboxes_font (r : RoomId) (s : State) : (emptyOutboxes r s).font = s.font := by
  unfold emptyOutboxes; apply foldl_keeps _ State.font; intro g x; split <;> rfl
@[simp] theorem emptyOutboxes_ladder (r : RoomId) (s : State) : (emptyOutboxes r s).ladder = s.ladder := by
  unfold emptyOutboxes; apply foldl_keeps _ State.ladder; intro g x; split <;> rfl
@[simp] theorem emptyOutboxes_frameQueue (r : RoomId) (s : State) : (emptyOutboxes r s).frameQueue = s.frameQueue := by
  unfold emptyOutboxes; apply foldl_keeps _ State.frameQueue; intro g x; split <;> rfl
@[simp] theorem emptyOutboxes_engine (r : RoomId) (s : State) : (emptyOutboxes r s).engine = s.engine := by
  unfold emptyOutboxes; apply foldl_keeps _ State.engine; intro g x; split <;> rfl
@[simp] theorem emptyOutboxes_slotIn (r : RoomId) (s : State) : (emptyOutboxes r s).slotIn = s.slotIn := by
  unfold emptyOutboxes; apply foldl_keeps _ State.slotIn; intro g x; split <;> rfl
@[simp] theorem emptyOutboxes_slotOut (r : RoomId) (s : State) : (emptyOutboxes r s).slotOut = s.slotOut := by
  unfold emptyOutboxes; apply foldl_keeps _ State.slotOut; intro g x; split <;> rfl
@[simp] theorem emptyOutboxes_audioOut (r : RoomId) (s : State) : (emptyOutboxes r s).audioOut = s.audioOut := by
  unfold emptyOutboxes; apply foldl_keeps _ State.audioOut; intro g x; split <;> rfl
@[simp] theorem emptyOutboxes_nextEntry (r : RoomId) (s : State) : (emptyOutboxes r s).nextEntry = s.nextEntry := by
  unfold emptyOutboxes; apply foldl_keeps _ State.nextEntry; intro g x; split <;> rfl
@[simp] theorem emptyOutboxes_polling (r : RoomId) (s : State) : (emptyOutboxes r s).polling = s.polling := by
  unfold emptyOutboxes; apply foldl_keeps _ State.polling; intro g x; split <;> rfl
@[simp] theorem emptyOutboxes_chip (r : RoomId) (s : State) : (emptyOutboxes r s).chip = s.chip := by
  unfold emptyOutboxes; apply foldl_keeps _ State.chip; intro g x; split <;> rfl
@[simp] theorem emptyOutboxes_timeoutInForce (r : RoomId) (s : State) : (emptyOutboxes r s).timeoutInForce = s.timeoutInForce := by
  unfold emptyOutboxes; apply foldl_keeps _ State.timeoutInForce; intro g x; split <;> rfl
@[simp] theorem emptyOutboxes_issueCounter (r : RoomId) (s : State) : (emptyOutboxes r s).issueCounter = s.issueCounter := by
  unfold emptyOutboxes; apply foldl_keeps _ State.issueCounter; intro g x; split <;> rfl
@[simp] theorem emptyOutboxes_cancelQueue (r : RoomId) (s : State) : (emptyOutboxes r s).cancelQueue = s.cancelQueue := by
  unfold emptyOutboxes; apply foldl_keeps _ State.cancelQueue; intro g x; split <;> rfl
@[simp] theorem emptyOutboxes_replies (r : RoomId) (s : State) : (emptyOutboxes r s).replies = s.replies := by
  unfold emptyOutboxes; apply foldl_keeps _ State.replies; intro g x; split <;> rfl
@[simp] theorem emptyOutboxes_reports (r : RoomId) (s : State) : (emptyOutboxes r s).reports = s.reports := by
  unfold emptyOutboxes; apply foldl_keeps _ State.reports; intro g x; split <;> rfl
@[simp] theorem emptyOutboxes_chipStack (r : RoomId) (s : State) : (emptyOutboxes r s).chipStack = s.chipStack := by
  unfold emptyOutboxes; apply foldl_keeps _ State.chipStack; intro g x; split <;> rfl
@[simp] theorem emptyOutboxes_lastServed (r : RoomId) (s : State) : (emptyOutboxes r s).lastServed = s.lastServed := by
  unfold emptyOutboxes; apply foldl_keeps _ State.lastServed; intro g x; split <;> rfl
@[simp] theorem emptyOutboxes_link (r : RoomId) (s : State) : (emptyOutboxes r s).link = s.link := by
  unfold emptyOutboxes; apply foldl_keeps _ State.link; intro g x; split <;> rfl
@[simp] theorem emptyOutboxes_upstream (r : RoomId) (s : State) : (emptyOutboxes r s).upstream = s.upstream := by
  unfold emptyOutboxes; apply foldl_keeps _ State.upstream; intro g x; split <;> rfl
@[simp] theorem emptyOutboxes_freeDrawn (r : RoomId) (s : State) : (emptyOutboxes r s).freeDrawn = s.freeDrawn := by
  unfold emptyOutboxes; apply foldl_keeps _ State.freeDrawn; intro g x; split <;> rfl
@[simp] theorem emptyOutboxes_pending (r : RoomId) (s : State) : (emptyOutboxes r s).pending = s.pending := by
  unfold emptyOutboxes; apply foldl_keeps _ State.pending; intro g x; split <;> rfl
@[simp] theorem emptyOutboxes_room (r : RoomId) (s : State) (x : RoomId) : (emptyOutboxes r s).room x = s.room x := by
  simp [State.room]

/-! ### Line-score events -/

@[simp] theorem handLineScore_mode (r : RoomId) (line : Nat) (sk : Bool) (s : State) :
    (handLineScore r line sk s).mode = s.mode := by unfold handLineScore; dsimp only; split <;> simp
@[simp] theorem handLineScore_venueTime (r : RoomId) (line : Nat) (sk : Bool) (s : State) :
    (handLineScore r line sk s).venueTime = s.venueTime := by unfold handLineScore; dsimp only; split <;> simp
@[simp] theorem handLineScore_font (r : RoomId) (line : Nat) (sk : Bool) (s : State) :
    (handLineScore r line sk s).font = s.font := by unfold handLineScore; dsimp only; split <;> simp
@[simp] theorem handLineScore_ladder (r : RoomId) (line : Nat) (sk : Bool) (s : State) :
    (handLineScore r line sk s).ladder = s.ladder := by unfold handLineScore; dsimp only; split <;> simp
@[simp] theorem handLineScore_frameQueue (r : RoomId) (line : Nat) (sk : Bool) (s : State) :
    (handLineScore r line sk s).frameQueue = s.frameQueue := by unfold handLineScore; dsimp only; split <;> simp
@[simp] theorem handLineScore_engine (r : RoomId) (line : Nat) (sk : Bool) (s : State) :
    (handLineScore r line sk s).engine = s.engine := by unfold handLineScore; dsimp only; split <;> simp
@[simp] theorem handLineScore_slotIn (r : RoomId) (line : Nat) (sk : Bool) (s : State) :
    (handLineScore r line sk s).slotIn = s.slotIn := by unfold handLineScore; dsimp only; split <;> simp
@[simp] theorem handLineScore_slotOut (r : RoomId) (line : Nat) (sk : Bool) (s : State) :
    (handLineScore r line sk s).slotOut = s.slotOut := by unfold handLineScore; dsimp only; split <;> simp
@[simp] theorem handLineScore_audioOut (r : RoomId) (line : Nat) (sk : Bool) (s : State) :
    (handLineScore r line sk s).audioOut = s.audioOut := by unfold handLineScore; dsimp only; split <;> simp
@[simp] theorem handLineScore_panels (r : RoomId) (line : Nat) (sk : Bool) (s : State) :
    (handLineScore r line sk s).panels = s.panels := by unfold handLineScore; dsimp only; split <;> simp
@[simp] theorem handLineScore_nextEntry (r : RoomId) (line : Nat) (sk : Bool) (s : State) :
    (handLineScore r line sk s).nextEntry = s.nextEntry := by unfold handLineScore; dsimp only; split <;> simp
@[simp] theorem handLineScore_polling (r : RoomId) (line : Nat) (sk : Bool) (s : State) :
    (handLineScore r line sk s).polling = s.polling := by unfold handLineScore; dsimp only; split <;> simp
@[simp] theorem handLineScore_chip (r : RoomId) (line : Nat) (sk : Bool) (s : State) :
    (handLineScore r line sk s).chip = s.chip := by unfold handLineScore; dsimp only; split <;> simp
@[simp] theorem handLineScore_timeoutInForce (r : RoomId) (line : Nat) (sk : Bool) (s : State) :
    (handLineScore r line sk s).timeoutInForce = s.timeoutInForce := by unfold handLineScore; dsimp only; split <;> simp
@[simp] theorem handLineScore_issueCounter (r : RoomId) (line : Nat) (sk : Bool) (s : State) :
    (handLineScore r line sk s).issueCounter = s.issueCounter := by unfold handLineScore; dsimp only; split <;> simp
@[simp] theorem handLineScore_cancelQueue (r : RoomId) (line : Nat) (sk : Bool) (s : State) :
    (handLineScore r line sk s).cancelQueue = s.cancelQueue := by unfold handLineScore; dsimp only; split <;> simp
@[simp] theorem handLineScore_replies (r : RoomId) (line : Nat) (sk : Bool) (s : State) :
    (handLineScore r line sk s).replies = s.replies := by unfold handLineScore; dsimp only; split <;> simp
@[simp] theorem handLineScore_lastServed (r : RoomId) (line : Nat) (sk : Bool) (s : State) :
    (handLineScore r line sk s).lastServed = s.lastServed := by unfold handLineScore; dsimp only; split <;> simp
@[simp] theorem handLineScore_upstream (r : RoomId) (line : Nat) (sk : Bool) (s : State) :
    (handLineScore r line sk s).upstream = s.upstream := by unfold handLineScore; dsimp only; split <;> simp
@[simp] theorem handLineScore_freeDrawn (r : RoomId) (line : Nat) (sk : Bool) (s : State) :
    (handLineScore r line sk s).freeDrawn = s.freeDrawn := by unfold handLineScore; dsimp only; split <;> simp
@[simp] theorem handLineScore_pending (r : RoomId) (line : Nat) (sk : Bool) (s : State) :
    (handLineScore r line sk s).pending = s.pending := by unfold handLineScore; dsimp only; split <;> simp
@[simp] theorem handLineScore_panel (r : RoomId) (line : Nat) (sk : Bool) (s : State) (e : PanelId) :
    (handLineScore r line sk s).panel e = s.panel e := by simp [State.panel]

theorem handLineScore_room_ne (r k : RoomId) (line : Nat) (sk : Bool) (s : State) (h : k ≠ r) :
    (handLineScore r line sk s).room k = s.room k := by
  have hr : (raise (.lineScore ((s.room r).lineScore r line sk)) s).room k = s.room k :=
    raise_room_ne _ _ _ (by simp [ReportBody.owner, Room.lineScore, Ne.symm h])
  unfold handLineScore; dsimp only; split
  · exact hr
  · rw [room_updRoom_ne _ _ _ _ h, hr]

/-- A room after a line-score event: its stack and its line accumulators alone may have changed. -/
theorem handLineScore_room (r : RoomId) (line : Nat) (sk : Bool) (s : State) :
    ∃ k : RoomStack, k.songEnd = (s.room r).stack.songEnd ∧
      (handLineScore r line sk s).room r =
        { (if sk then s.room r else (s.room r).clearLines) with stack := k } := by
  have hse := raise_room_songEnd (.lineScore ((s.room r).lineScore r line sk)) s r rfl
  refine ⟨((raise (.lineScore ((s.room r).lineScore r line sk)) s).room r).stack, hse, ?_⟩
  unfold handLineScore; dsimp only
  rcases raise_room (.lineScore ((s.room r).lineScore r line sk)) s r with h | h <;> cases sk <;>
    simp [h, Room.clearLines, Room.updMics]

/-! ### Leaving ENDING (R18) -/

@[simp] theorem leaveEnding_mode (r : RoomId) (s : State) : (leaveEnding r s).mode = s.mode := by
  unfold leaveEnding; dsimp only; split <;> simp
@[simp] theorem leaveEnding_venueTime (r : RoomId) (s : State) : (leaveEnding r s).venueTime = s.venueTime := by
  unfold leaveEnding; dsimp only; split <;> simp
@[simp] theorem leaveEnding_font (r : RoomId) (s : State) : (leaveEnding r s).font = s.font := by
  unfold leaveEnding; dsimp only; split <;> simp
@[simp] theorem leaveEnding_ladder (r : RoomId) (s : State) : (leaveEnding r s).ladder = s.ladder := by
  unfold leaveEnding; dsimp only; split <;> simp
@[simp] theorem leaveEnding_frameQueue (r : RoomId) (s : State) : (leaveEnding r s).frameQueue = s.frameQueue := by
  unfold leaveEnding; dsimp only; split <;> simp
@[simp] theorem leaveEnding_engine (r : RoomId) (s : State) : (leaveEnding r s).engine = s.engine := by
  unfold leaveEnding; dsimp only; split <;> simp
@[simp] theorem leaveEnding_slotIn (r : RoomId) (s : State) : (leaveEnding r s).slotIn = s.slotIn := by
  unfold leaveEnding; dsimp only; split <;> simp
@[simp] theorem leaveEnding_slotOut (r : RoomId) (s : State) : (leaveEnding r s).slotOut = s.slotOut := by
  unfold leaveEnding; dsimp only; split <;> simp
@[simp] theorem leaveEnding_audioOut (r : RoomId) (s : State) : (leaveEnding r s).audioOut = s.audioOut := by
  unfold leaveEnding; dsimp only; split <;> simp
@[simp] theorem leaveEnding_panels (r : RoomId) (s : State) : (leaveEnding r s).panels = s.panels := by
  unfold leaveEnding; dsimp only; split <;> simp
@[simp] theorem leaveEnding_nextEntry (r : RoomId) (s : State) : (leaveEnding r s).nextEntry = s.nextEntry := by
  unfold leaveEnding; dsimp only; split <;> simp
@[simp] theorem leaveEnding_polling (r : RoomId) (s : State) : (leaveEnding r s).polling = s.polling := by
  unfold leaveEnding; dsimp only; split <;> simp
@[simp] theorem leaveEnding_chip (r : RoomId) (s : State) : (leaveEnding r s).chip = s.chip := by
  unfold leaveEnding; dsimp only; split <;> simp
@[simp] theorem leaveEnding_timeoutInForce (r : RoomId) (s : State) : (leaveEnding r s).timeoutInForce = s.timeoutInForce := by
  unfold leaveEnding; dsimp only; split <;> simp
@[simp] theorem leaveEnding_issueCounter (r : RoomId) (s : State) : (leaveEnding r s).issueCounter = s.issueCounter := by
  unfold leaveEnding; dsimp only; split <;> simp
@[simp] theorem leaveEnding_cancelQueue (r : RoomId) (s : State) : (leaveEnding r s).cancelQueue = s.cancelQueue := by
  unfold leaveEnding; dsimp only; split <;> simp
@[simp] theorem leaveEnding_replies (r : RoomId) (s : State) : (leaveEnding r s).replies = s.replies := by
  unfold leaveEnding; dsimp only; split <;> simp
@[simp] theorem leaveEnding_lastServed (r : RoomId) (s : State) : (leaveEnding r s).lastServed = s.lastServed := by
  unfold leaveEnding; dsimp only; split <;> simp
@[simp] theorem leaveEnding_upstream (r : RoomId) (s : State) : (leaveEnding r s).upstream = s.upstream := by
  unfold leaveEnding; dsimp only; split <;> simp
@[simp] theorem leaveEnding_freeDrawn (r : RoomId) (s : State) : (leaveEnding r s).freeDrawn = s.freeDrawn := by
  unfold leaveEnding; dsimp only; split <;> simp
@[simp] theorem leaveEnding_pending (r : RoomId) (s : State) : (leaveEnding r s).pending = s.pending := by
  unfold leaveEnding; dsimp only; split <;> simp
@[simp] theorem leaveEnding_panel (r : RoomId) (s : State) (e : PanelId) :
    (leaveEnding r s).panel e = s.panel e := by simp [State.panel]

theorem leaveEnding_room_ne (r k : RoomId) (s : State) (h : k ≠ r) : (leaveEnding r s).room k = s.room k := by
  unfold leaveEnding; dsimp only; split
  · rw [markTest_room_ne _ _ _ h, room_updRoom_ne _ _ _ _ h, room_updRoom_ne _ _ _ _ h]
  · rw [room_updRoom_ne _ _ _ _ h, room_updRoom_ne _ _ _ _ h]

/-- A room that leaves ENDING, but for the mark state and the stack that the mark test at its entry into CUED may
change. -/
def Room.left (rm : Room) : Room :=
  let freed := (rm.updCtx fun c => { c with currentBank := none }).dropLostLatch
  if rm.ctx.cuedBank.isSome then freed.setState .cued else (freed.setState .idle).updPort Port.emptied

theorem leaveEnding_room (r : RoomId) (s : State) :
    ∃ (k : RoomStack) (m : MarkState), k.songEnd = (s.room r).stack.songEnd ∧
      (leaveEnding r s).room r =
        { (s.room r).left with stack := k, port := { (s.room r).left.port with markState := m } } := by
  have hs : ∀ rm : Room, rm.dropLostLatch.stack = rm.stack := by
    intro rm; unfold Room.dropLostLatch; split
    · rfl
    · split
      · rfl
      · split <;> rfl
  cases hc : (s.room r).ctx.cuedBank with
  | none =>
    refine ⟨(s.room r).stack, .none, rfl, ?_⟩
    unfold leaveEnding Room.left
    simp only [hc, room_updRoom_same]
    simp [Room.updPort, Port.emptied, Room.setState, Room.updCtx, hs]
  | some b =>
    have key : (leaveEnding r s) = markTest r ((s.updRoom r fun rm =>
        (rm.updCtx fun c => { c with currentBank := none }).dropLostLatch).updRoom r fun rm => rm.setState .cued) := by
      unfold leaveEnding; simp only [hc]
    refine ⟨((leaveEnding r s).room r).stack, ((leaveEnding r s).room r).port.markState, ?_, ?_⟩
    · rw [key, markTest_room_songEnd, room_updRoom_same, room_updRoom_same]
      simp [hs]
    · have hp := markTest_room_port r r ((s.updRoom r fun rm =>
        (rm.updCtx fun c => { c with currentBank := none }).dropLostLatch).updRoom r fun rm => rm.setState .cued)
      rw [key]
      apply Room.ext <;> (try rw [hp]) <;> simp [Room.left, hc]

/-! ### Entering ENDING (R17) -/

/-- Nothing an ending does to a room reads or changes its report stack. -/
theorem endSong_stack (rm : Room) (reason : EndReason) (k : RoomStack) :
    ({ rm with stack := k } : Room).endSong reason = { rm.endSong reason with stack := k } := by
  have hf : ({ rm with stack := k } : Room).flushed = { rm.flushed with stack := k } := by
    unfold Room.flushed; dsimp only; split
    · rfl
    · split <;> rfl
  have hd : ∀ (x : Room) (b : BankId), ({ x with stack := k } : Room).darken b = { x.darken b with stack := k } :=
    fun _ _ => rfl
  have hu : ∀ (x : Room) (b : BankId) (f : Bank → Bank),
      ({ x with stack := k } : Room).updBank b f = { x.updBank b f with stack := k } := by
    intro x b f; unfold Room.updBank; split <;> rfl
  have hc : ∀ (x : Room) (b : BankId),
      ({ x with stack := k } : Room).clearBank b = { x.clearBank b with stack := k } := by
    intro x b; unfold Room.clearBank
    rw [show ({ x with stack := k } : Room).bank b = x.bank b from rfl]
    split
    · rw [hu, hd]
    · rfl
  unfold Room.endSong
  cases hcb : rm.ctx.currentBank <;> by_cases hr : reason = .complete <;>
    simp only [hr, if_true, if_false, hf, hc, Room.stopAssemblers, Room.updMics]

theorem left_stack (rm : Room) (k : RoomStack) :
    ({ rm with stack := k } : Room).left = { rm.left with stack := k } := by
  have hd : ∀ x : Room, ({ x with stack := k } : Room).dropLostLatch = { x.dropLostLatch with stack := k } := by
    intro x; unfold Room.dropLostLatch; dsimp only; split
    · rfl
    · split
      · rfl
      · split <;> rfl
  have hx : ∀ (x : Room) (f : RoomContext → RoomContext),
      ({ x with stack := k } : Room).updCtx f = { x.updCtx f with stack := k } := fun _ _ => rfl
  unfold Room.left
  simp only [hx, hd]
  split <;> rfl

/-- A room that has entered ENDING, but for its report stack: the reason is recorded, the line accumulators are
cleared, the queue is flushed or kept, the bank is auto-cleared, the assemblers are stopped, and the song's entry has
left the list. -/
def Room.closed (rm : Room) (reason : EndReason) : Room :=
  let entered := rm.updCtx fun c => { c with state := .ending, endReason := some reason }
  let done := entered.clearLines.endSong reason
  match rm.ctx.currentTicket with
  | none => done
  | some t => (done.dropEntry t).updCtx fun c => { c with currentTicket := none }

theorem endSong_currentTicket (rm : Room) (reason : EndReason) :
    (rm.endSong reason).ctx.currentTicket = rm.ctx.currentTicket := by
  have hf : rm.flushed.ctx.currentTicket = rm.ctx.currentTicket := by
    unfold Room.flushed; split
    · rfl
    · split <;> rfl
  have hc : ∀ (x : Room) (b : BankId), (x.clearBank b).ctx = x.ctx := by
    intro x b; unfold Room.clearBank; split
    · simp [Room.darken]
    · rfl
  unfold Room.endSong
  cases rm.ctx.currentBank <;> by_cases hr : reason = .complete <;>
    simp [hr, hc, hf, Room.stopAssemblers]

theorem endSong_stack_eq (rm : Room) (reason : EndReason) : (rm.endSong reason).stack = rm.stack := by
  have h := endSong_stack rm reason rm.stack
  have h2 : ({ rm with stack := rm.stack } : Room) = rm := rfl
  rw [h2] at h
  rw [h]

/-- R17, R18: a room at the end of its song. Either its SONG_END entered the queue, and it has left ENDING at the same
event, or it stands in ENDING with its SONG_END stacked. -/
theorem takeEnding_room (r : RoomId) (reason : EndReason) (s : State) (h : (s.room r).ctx.singing = true) :
    (∃ k m, k.songEnd = (s.room r).stack.songEnd ∧
      (takeEnding r reason s).room r =
        { ((s.room r).closed reason).left with
          stack := k, port := { ((s.room r).closed reason).left.port with markState := m } }) ∨
      (∃ k, k.songEnd.isSome = true ∧
        (takeEnding r reason s).room r = { (s.room r).closed reason with stack := k }) := by
  obtain ⟨k1, hk1, h1⟩ := handLineScore_room r (s.room r).ctx.lyric.current false
    (s.updRoom r fun rm => rm.updCtx fun c => { c with state := .ending, endReason := some reason })
  simp only [room_updRoom_same, Bool.false_eq_true, if_false] at h1 hk1
  generalize hl : handLineScore r (s.room r).ctx.lyric.current false
    (s.updRoom r fun rm => rm.updCtx fun c => { c with state := .ending, endReason := some reason }) = lined at h1
  have hse := raise_songEnd ((s.room r).songEnd r reason) lined
  have hrm := raise_room (.songEnd ((s.room r).songEnd r reason)) lined r
  rw [show ((s.room r).songEnd r reason).room = r from rfl] at hse
  generalize hrep : raise (.songEnd ((s.room r).songEnd r reason)) lined = reported at hse hrm
  -- the room after the raise, before the ending's own changes
  have hrep2 : ∃ k2, reported.room r =
      { ((s.room r).updCtx fun c => { c with state := .ending, endReason := some reason }).clearLines with
        stack := k2 } := by
    rcases hrm with e | e <;> exact ⟨_, by rw [e, h1]⟩
  obtain ⟨k2, hrep2⟩ := hrep2
  have hk2 : (reported.room r).stack = k2 := by rw [hrep2]
  have hdone : (endRequest r (reported.updRoom r fun rm => rm.endSong reason)).room r =
      { (s.room r).closed reason with stack := k2 } := by
    unfold endRequest
    simp only [room_updRoom_same, hrep2, endSong_stack]
    have hct := endSong_currentTicket
      ((s.room r).updCtx fun c => { c with state := .ending, endReason := some reason }).clearLines reason
    rw [show ((s.room r).updCtx fun c => { c with state := .ending, endReason := some reason }).clearLines.ctx.currentTicket
      = (s.room r).ctx.currentTicket from rfl] at hct
    simp only [hct]
    unfold Room.closed
    cases (s.room r).ctx.currentTicket with
    | none => simp [hrep2, endSong_stack]
    | some t =>
      simp only [pushToRoom_room, room_updRoom_same, hrep2, endSong_stack]
      rfl
  have htk : takeEnding r reason s =
      if lined.reportEnters (.room r) then
        leaveEnding r (endRequest r (reported.updRoom r fun rm => rm.endSong reason))
      else endRequest r (reported.updRoom r fun rm => rm.endSong reason) := by
    unfold takeEnding
    simp only [h, if_true, hl, hrep]
  rw [hk2, h1] at hse
  by_cases hat : lined.reportEnters (.room r) = true
  · left
    rw [if_pos hat] at hse
    obtain ⟨k3, m, hk3, h3⟩ := leaveEnding_room r (endRequest r (reported.updRoom r fun rm => rm.endSong reason))
    rw [hdone] at hk3 h3
    refine ⟨k3, m, ?_, ?_⟩
    · rw [hk3]; exact hse.trans hk1
    · rw [htk, if_pos hat, h3, left_stack]
  · right
    rw [if_neg hat] at hse
    refine ⟨k2, by rw [hse]; rfl, ?_⟩
    rw [htk, if_neg hat, hdone]

theorem takeEnding_not_singing (r : RoomId) (reason : EndReason) (s : State)
    (h : (s.room r).ctx.singing = false) : takeEnding r reason s = s := by
  unfold takeEnding; simp [h]


@[simp] theorem endRequest_mode (r : RoomId) (s : State) : (endRequest r s).mode = s.mode := by
  unfold endRequest; split <;> simp
@[simp] theorem takeEnding_mode (r : RoomId) (reason : EndReason) (s : State) : (takeEnding r reason s).mode = s.mode := by
  unfold takeEnding; dsimp only; split
  · split <;> simp
  · rfl
@[simp] theorem endRequest_venueTime (r : RoomId) (s : State) : (endRequest r s).venueTime = s.venueTime := by
  unfold endRequest; split <;> simp
@[simp] theorem takeEnding_venueTime (r : RoomId) (reason : EndReason) (s : State) : (takeEnding r reason s).venueTime = s.venueTime := by
  unfold takeEnding; dsimp only; split
  · split <;> simp
  · rfl
@[simp] theorem endRequest_font (r : RoomId) (s : State) : (endRequest r s).font = s.font := by
  unfold endRequest; split <;> simp
@[simp] theorem takeEnding_font (r : RoomId) (reason : EndReason) (s : State) : (takeEnding r reason s).font = s.font := by
  unfold takeEnding; dsimp only; split
  · split <;> simp
  · rfl
@[simp] theorem endRequest_ladder (r : RoomId) (s : State) : (endRequest r s).ladder = s.ladder := by
  unfold endRequest; split <;> simp
@[simp] theorem takeEnding_ladder (r : RoomId) (reason : EndReason) (s : State) : (takeEnding r reason s).ladder = s.ladder := by
  unfold takeEnding; dsimp only; split
  · split <;> simp
  · rfl
@[simp] theorem endRequest_frameQueue (r : RoomId) (s : State) : (endRequest r s).frameQueue = s.frameQueue := by
  unfold endRequest; split <;> simp
@[simp] theorem takeEnding_frameQueue (r : RoomId) (reason : EndReason) (s : State) : (takeEnding r reason s).frameQueue = s.frameQueue := by
  unfold takeEnding; dsimp only; split
  · split <;> simp
  · rfl
@[simp] theorem endRequest_engine (r : RoomId) (s : State) : (endRequest r s).engine = s.engine := by
  unfold endRequest; split <;> simp
@[simp] theorem takeEnding_engine (r : RoomId) (reason : EndReason) (s : State) : (takeEnding r reason s).engine = s.engine := by
  unfold takeEnding; dsimp only; split
  · split <;> simp
  · rfl
@[simp] theorem endRequest_slotIn (r : RoomId) (s : State) : (endRequest r s).slotIn = s.slotIn := by
  unfold endRequest; split <;> simp
@[simp] theorem takeEnding_slotIn (r : RoomId) (reason : EndReason) (s : State) : (takeEnding r reason s).slotIn = s.slotIn := by
  unfold takeEnding; dsimp only; split
  · split <;> simp
  · rfl
@[simp] theorem endRequest_slotOut (r : RoomId) (s : State) : (endRequest r s).slotOut = s.slotOut := by
  unfold endRequest; split <;> simp
@[simp] theorem takeEnding_slotOut (r : RoomId) (reason : EndReason) (s : State) : (takeEnding r reason s).slotOut = s.slotOut := by
  unfold takeEnding; dsimp only; split
  · split <;> simp
  · rfl
@[simp] theorem endRequest_audioOut (r : RoomId) (s : State) : (endRequest r s).audioOut = s.audioOut := by
  unfold endRequest; split <;> simp
@[simp] theorem takeEnding_audioOut (r : RoomId) (reason : EndReason) (s : State) : (takeEnding r reason s).audioOut = s.audioOut := by
  unfold takeEnding; dsimp only; split
  · split <;> simp
  · rfl
@[simp] theorem endRequest_nextEntry (r : RoomId) (s : State) : (endRequest r s).nextEntry = s.nextEntry := by
  unfold endRequest; split <;> simp
@[simp] theorem takeEnding_nextEntry (r : RoomId) (reason : EndReason) (s : State) : (takeEnding r reason s).nextEntry = s.nextEntry := by
  unfold takeEnding; dsimp only; split
  · split <;> simp
  · rfl
@[simp] theorem endRequest_polling (r : RoomId) (s : State) : (endRequest r s).polling = s.polling := by
  unfold endRequest; split <;> simp
@[simp] theorem takeEnding_polling (r : RoomId) (reason : EndReason) (s : State) : (takeEnding r reason s).polling = s.polling := by
  unfold takeEnding; dsimp only; split
  · split <;> simp
  · rfl
@[simp] theorem endRequest_chip (r : RoomId) (s : State) : (endRequest r s).chip = s.chip := by
  unfold endRequest; split <;> simp
@[simp] theorem takeEnding_chip (r : RoomId) (reason : EndReason) (s : State) : (takeEnding r reason s).chip = s.chip := by
  unfold takeEnding; dsimp only; split
  · split <;> simp
  · rfl
@[simp] theorem endRequest_timeoutInForce (r : RoomId) (s : State) : (endRequest r s).timeoutInForce = s.timeoutInForce := by
  unfold endRequest; split <;> simp
@[simp] theorem endRequest_issueCounter (r : RoomId) (s : State) : (endRequest r s).issueCounter = s.issueCounter := by
  unfold endRequest; split <;> simp
@[simp] theorem takeEnding_timeoutInForce (r : RoomId) (reason : EndReason) (s : State) : (takeEnding r reason s).timeoutInForce = s.timeoutInForce := by
  unfold takeEnding; dsimp only; split
  · split <;> simp
  · rfl
@[simp] theorem takeEnding_issueCounter (r : RoomId) (reason : EndReason) (s : State) : (takeEnding r reason s).issueCounter = s.issueCounter := by
  unfold takeEnding; dsimp only; split
  · split <;> simp
  · rfl
@[simp] theorem endRequest_cancelQueue (r : RoomId) (s : State) : (endRequest r s).cancelQueue = s.cancelQueue := by
  unfold endRequest; split <;> simp
@[simp] theorem takeEnding_cancelQueue (r : RoomId) (reason : EndReason) (s : State) : (takeEnding r reason s).cancelQueue = s.cancelQueue := by
  unfold takeEnding; dsimp only; split
  · split <;> simp
  · rfl
@[simp] theorem endRequest_replies (r : RoomId) (s : State) : (endRequest r s).replies = s.replies := by
  unfold endRequest; split <;> simp
@[simp] theorem takeEnding_replies (r : RoomId) (reason : EndReason) (s : State) : (takeEnding r reason s).replies = s.replies := by
  unfold takeEnding; dsimp only; split
  · split <;> simp
  · rfl
@[simp] theorem endRequest_lastServed (r : RoomId) (s : State) : (endRequest r s).lastServed = s.lastServed := by
  unfold endRequest; split <;> simp
@[simp] theorem takeEnding_lastServed (r : RoomId) (reason : EndReason) (s : State) : (takeEnding r reason s).lastServed = s.lastServed := by
  unfold takeEnding; dsimp only; split
  · split <;> simp
  · rfl
@[simp] theorem endRequest_upstream (r : RoomId) (s : State) : (endRequest r s).upstream = s.upstream := by
  unfold endRequest; split <;> simp
@[simp] theorem takeEnding_upstream (r : RoomId) (reason : EndReason) (s : State) : (takeEnding r reason s).upstream = s.upstream := by
  unfold takeEnding; dsimp only; split
  · split <;> simp
  · rfl
@[simp] theorem endRequest_freeDrawn (r : RoomId) (s : State) : (endRequest r s).freeDrawn = s.freeDrawn := by
  unfold endRequest; split <;> simp
@[simp] theorem takeEnding_freeDrawn (r : RoomId) (reason : EndReason) (s : State) : (takeEnding r reason s).freeDrawn = s.freeDrawn := by
  unfold takeEnding; dsimp only; split
  · split <;> simp
  · rfl
@[simp] theorem endRequest_pending (r : RoomId) (s : State) : (endRequest r s).pending = s.pending := by
  unfold endRequest; split <;> simp
@[simp] theorem takeEnding_pending (r : RoomId) (reason : EndReason) (s : State) : (takeEnding r reason s).pending = s.pending := by
  unfold takeEnding; dsimp only; split
  · split <;> simp
  · rfl

theorem endRequest_room_ne (r k : RoomId) (s : State) (h : k ≠ r) : (endRequest r s).room k = s.room k := by
  unfold endRequest; split
  · rfl
  · rw [pushToRoom_room, room_updRoom_ne _ _ _ _ h]

theorem takeEnding_room_ne (r k : RoomId) (reason : EndReason) (s : State) (h : k ≠ r) :
    (takeEnding r reason s).room k = s.room k := by
  have hd : ∀ x : State, (endRequest r
      ((raise (.songEnd ((s.room r).songEnd r reason)) (handLineScore r (s.room r).ctx.lyric.current false x)).updRoom r
        fun rm => rm.endSong reason)).room k = x.room k := by
    intro x
    rw [endRequest_room_ne _ _ _ h, room_updRoom_ne _ _ _ _ h,
      raise_room_ne _ _ _ (by simp [ReportBody.owner, Room.songEnd, Ne.symm h]), handLineScore_room_ne _ _ _ _ _ h]
  unfold takeEnding; dsimp only; split
  · split
    · rw [leaveEnding_room_ne _ _ _ h, hd, room_updRoom_ne _ _ _ _ h]
    · rw [hd, room_updRoom_ne _ _ _ _ h]
  · rfl

end Sys2Proof.Machine
end

