-- ==== Sys2Proof/Laws/Lyrics.lean ====
section
/-! SUPPORT. What the line test changes: the lyric state and the line accumulators of its room, by an advance or the
hold step, or the whole room by a halt (R57 to R61). -/

namespace Sys2Proof.Machine

/-- The skipped lines of an advance change the room's stack alone. -/
theorem handSkipped_room (r : RoomId) (ls : List Nat) (s : State) :
    ∃ k : RoomStack, k.songEnd = (s.room r).stack.songEnd ∧
      (ls.foldl (fun acc j => handLineScore r j true acc) s).room r = { s.room r with stack := k } := by
  induction ls generalizing s with
  | nil => exact ⟨(s.room r).stack, rfl, rfl⟩
  | cons j ls ih =>
    obtain ⟨k1, h1, e1⟩ := handLineScore_room r j true s
    obtain ⟨k2, h2, e2⟩ := ih (handLineScore r j true s)
    simp only [if_true] at e1
    refine ⟨k2, ?_, ?_⟩
    · rw [h2, e1, h1]
    · rw [List.foldl_cons, e2, e1]

theorem handSkipped_room_ne (r k : RoomId) (ls : List Nat) (s : State) (h : k ≠ r) :
    (ls.foldl (fun acc j => handLineScore r j true acc) s).room k = s.room k :=
  foldl_keeps _ (fun x => State.room x k) (fun g j => handLineScore_room_ne r k j true g h) ls s

/-- The room context after an advance from its current line to line `k` at clock `t` (R58). -/
def RoomContext.advanced (c : RoomContext) (k t len : Nat) : RoomContext :=
  { c with
    skipCount := satAdd c.skipCount (k - c.lyric.current - 1)
    lyric := { c.lyric with current := k, scrollStart := t, scrollLength := len, starved := false } }

/-- R58: a room after an advance: its context, its line accumulators and its stack have changed. -/
theorem advanceTo_room (r : RoomId) (k t : Nat) (s : State) :
    ∃ st : RoomStack, st.songEnd = (s.room r).stack.songEnd ∧
      (advanceTo r k t s).room r =
        { (s.room r).clearLines with
          ctx := (s.room r).ctx.advanced k t (s.room r).params.scrollTicks, stack := st } := by
  obtain ⟨k1, h1, e1⟩ := handLineScore_room r (s.room r).ctx.lyric.current false s
  simp only [Bool.false_eq_true, if_false] at e1
  obtain ⟨k2, h2, e2⟩ := handSkipped_room r
    (List.range' ((s.room r).ctx.lyric.current + 1) (k - (s.room r).ctx.lyric.current - 1))
    (handLineScore r (s.room r).ctx.lyric.current false s)
  refine ⟨k2, ?_, ?_⟩
  · rw [h2, e1, h1]
  · unfold advanceTo
    simp only [room_updRoom_same, e2, e1]
    rfl

theorem advanceTo_room_ne (r j : RoomId) (k t : Nat) (s : State) (h : j ≠ r) :
    (advanceTo r k t s).room j = s.room j := by
  unfold advanceTo
  simp only
  rw [room_updRoom_ne _ _ _ _ h, handSkipped_room_ne _ _ _ _ h, handLineScore_room_ne _ _ _ _ _ h]

/-- Everything the hold step can do: nothing, a change of the lyric flags and the starvation fields, or a halt after
FINISHED has been set (R60, R61). -/
theorem holdStep_cases (r : RoomId) (t : Nat) (s : State) :
    holdStep r t s = s ∨
      (∃ f : RoomContext → RoomContext, (f = (fun c => { c with lyric := { c.lyric with finished := true } }) ∨
          f = (fun c => { c with lyric := { c.lyric with starved := false } }) ∨ f = RoomContext.starve) ∧
        holdStep r t s = s.updRoom r fun rm => rm.updCtx f) ∨
      ((s.room r).ctx.lyric.haltPending = true ∧ holdStep r t s = takeEnding r .halted (s.updRoom r fun rm =>
        rm.updCtx fun c => { c with lyric := { c.lyric with finished := true } })) := by
  unfold holdStep
  simp only
  split
  · exact .inl rfl
  · split
    · split
      · split
        · next h => exact .inr (.inr ⟨h, rfl⟩)
        · exact .inr (.inl ⟨_, .inl rfl, rfl⟩)
      · exact .inl rfl
    · split
      · exact .inr (.inl ⟨_, .inr (.inl rfl), rfl⟩)
      · split
        · exact .inr (.inl ⟨_, .inr (.inr rfl), rfl⟩)
        · exact .inl rfl

/-- Everything the line test can do (R57). -/
theorem lineTest_cases (r : RoomId) (t : Nat) (s : State) :
    lineTest r t s = takeEnding r .halted s ∨ lineTest r t s = holdStep r t s ∨
      ∃ k, lineTest r t s = holdStep r t (advanceTo r k t s) := by
  unfold lineTest
  simp only
  split
  · split
    · exact .inl rfl
    · exact .inr (.inr ⟨_, rfl⟩)
  · exact .inr (.inl rfl)

theorem songTick_cases (r : RoomId) (s : State) :
    songTick r s = s ∨ ((s.room r).ctx.state = .playing ∧ songTick r s = lineTest r (s.room r).ctx.songClock s) := by
  unfold songTick
  split
  · next h =>
    refine .inr ⟨?_, rfl⟩
    simp only [RoomContext.atTick, Bool.and_eq_true, beq_iff_eq] at h
    exact h.1.1
  · exact .inl rfl

end Sys2Proof.Machine
end

