-- ==== Sys2Proof/Laws/Upstream.lean ====
section
/-! SUPPORT. What the upstream scheduler does, said once: everything it can take, what an idle link does at the end of an
event, and what neither changes. -/

namespace Sys2Proof.Machine

/-! ### The drain arbiter -/

/-- Everything that a freed place of the report queue can bring about. -/
theorem drain_cases (s : State) :
    (s.servedNext = none ∧ drain s = s)
      ∨ (∃ r, s.servedNext = some (.room r) ∧ drain s = drainRoom r s)
      ∨ (s.servedNext = some .chip ∧ drain s = drainChip s) := by
  unfold drain
  split
  · exact .inl ⟨by assumption, rfl⟩
  · exact .inr (.inl ⟨_, by assumption, rfl⟩)
  · exact .inr (.inr ⟨by assumption, rfl⟩)

/-- What a drain keeps: every field that neither it nor a room's leaving ENDING touches. -/
theorem drain_keeps {α : Type} (f : State → α)
    (hs : ∀ (x : State) (rs : Vector Room 4) (q : List Report) (o : Owner) (k : Vector (Option Report) 8),
      f { x with rooms := rs, reports := q, lastServed := o, chipStack := k } = f x)
    (hl : ∀ r x, f (leaveEnding r x) = f x) (s : State) : f (drain s) = f s := by
  have room : ∀ r, f (drainRoom r s) = f s := by
    intro r; unfold drainRoom; split
    · rfl
    · rename_i rep k _
      have e : f ({ s.updRoom r (fun rm => { rm with stack := k }) with
          reports := s.reports ++ [rep], lastServed := .room r } : State) = f s :=
        hs s _ _ _ s.chipStack
      unfold songEndQueued; split
      · split
        · rw [hl, e]
        · exact e
      · exact e
  have chip : f (drainChip s) = f s := by
    unfold drainChip; split
    · rfl
    · exact hs s s.rooms _ _ _
  rcases drain_cases s with ⟨_, e⟩ | ⟨r, _, e⟩ | ⟨_, e⟩ <;> rw [e]
  · exact room r
  · exact chip

/-! ### The scheduler -/

/-- Everything the scheduler can do on a free link. -/
theorem schedule_cases (s : State) :
    (∃ rep rest, s.replies = rep :: rest ∧ schedule s = sendReply rep rest s)
      ∨ (s.replies = [] ∧ (s.mode = .stop ∨ sendRequest s = none ∧ s.reports = [])
          ∧ schedule s = { s with upstream := none })
      ∨ (∃ sent, s.replies = [] ∧ s.mode ≠ .stop ∧ sendRequest s = some sent ∧ schedule s = sent)
      ∨ (∃ rep rest, s.replies = [] ∧ s.mode ≠ .stop ∧ sendRequest s = none ∧ s.reports = rep :: rest
          ∧ schedule s = sendReport rep rest s) := by
  unfold schedule
  split
  · exact .inl ⟨_, _, by assumption, rfl⟩
  · rename_i hr
    split
    · exact .inr (.inl ⟨hr, .inl (by assumption), rfl⟩)
    · rename_i hm
      split
      · exact .inr (.inr (.inl ⟨_, hr, hm, by assumption, rfl⟩))
      · split
        · exact .inr (.inr (.inr ⟨_, _, hr, hm, by assumption, by assumption, rfl⟩))
        · exact .inr (.inl ⟨hr, .inr ⟨by assumption, by assumption⟩, rfl⟩)

/-- Everything the Request Manager can offer. -/
theorem sendRequest_cases (s : State) :
    (∃ i rest, s.cancelQueue = i :: rest ∧ sendRequest s
        = some (sendCancel i rest (s.count fun l => { l with requestCellsSent := bump l.requestCellsSent 1 })))
      ∨ (∃ w, s.cancelQueue = [] ∧ s.nextAdd = some w ∧ sendRequest s
        = some (sendAdd w.1 w.2 (s.count fun l => { l with requestCellsSent := bump l.requestCellsSent 1 })))
      ∨ (s.cancelQueue = [] ∧ s.nextAdd = none ∧ sendRequest s = none) := by
  unfold sendRequest
  dsimp only
  split
  · exact .inl ⟨_, _, by assumption, rfl⟩
  · rename_i h
    cases hn : s.nextAdd with
    | none => exact .inr (.inr ⟨h, rfl, rfl⟩)
    | some w => exact .inr (.inl ⟨w, h, rfl, rfl⟩)

/-- What the scheduler keeps: every field that neither it nor a room's leaving ENDING touches. -/
theorem schedule_keeps {α : Type} (f : State → α)
    (hs : ∀ (x : State) (rs : Vector Room 4) (q : List Report) (o : Owner) (k : Vector (Option Report) 8)
      (p : List Reply) (l : LinkCounters) (u : Option UpCell) (c : List CancelItem),
      f { x with rooms := rs, reports := q, lastServed := o, chipStack := k, replies := p, link := l, upstream := u,
                 cancelQueue := c } = f x)
    (hl : ∀ r x, f (leaveEnding r x) = f x) (s : State) : f (schedule s) = f s := by
  rcases schedule_cases s with ⟨rep, rest, _, e⟩ | ⟨_, _, e⟩ | ⟨sent, _, _, hq, e⟩ | ⟨rep, rest, _, _, _, _, e⟩ <;> rw [e]
  · exact hs s s.rooms s.reports s.lastServed s.chipStack _ _ _ s.cancelQueue
  · exact hs s s.rooms s.reports s.lastServed s.chipStack s.replies s.link _ s.cancelQueue
  · rcases sendRequest_cases s with ⟨i, c, _, h⟩ | ⟨w, _, _, h⟩ | ⟨_, _, h⟩ <;> rw [h] at hq
    · cases hq
      exact hs s _ s.reports s.lastServed s.chipStack s.replies _ _ _
    · cases hq
      exact hs s _ s.reports s.lastServed s.chipStack s.replies _ _ s.cancelQueue
    · cases hq
  · unfold sendReport
    rw [drain_keeps f (fun x rs q o k => hs x rs q o k x.replies x.link x.upstream x.cancelQueue) hl]
    exact hs s s.rooms _ s.lastServed s.chipStack s.replies _ _ s.cancelQueue

/-- A busy link takes nothing. -/
theorem sendIfIdle_busy {s : State} {c : UpCell} (h : s.upstream = some c) : s.sendIfIdle = s := by
  unfold State.sendIfIdle; rw [h]

/-- An idle link is the scheduler's. -/
theorem sendIfIdle_idle {s : State} (h : s.upstream = none) : s.sendIfIdle = schedule s := by
  unfold State.sendIfIdle; rw [h]

/-- Everything the end of an event can do. -/
theorem sendIfIdle_cases (s : State) :
    ((∃ c, s.upstream = some c) ∧ s.sendIfIdle = s) ∨ (s.upstream = none ∧ s.sendIfIdle = schedule s) := by
  cases h : s.upstream with
  | none => exact .inr ⟨rfl, sendIfIdle_idle h⟩
  | some c => exact .inl ⟨⟨c, rfl⟩, sendIfIdle_busy h⟩

/-- What the end of an event keeps: every field that neither the scheduler nor a room's leaving ENDING touches. -/
theorem sendIfIdle_keeps {α : Type} (f : State → α)
    (hs : ∀ (x : State) (rs : Vector Room 4) (q : List Report) (o : Owner) (k : Vector (Option Report) 8)
      (p : List Reply) (l : LinkCounters) (u : Option UpCell) (c : List CancelItem),
      f { x with rooms := rs, reports := q, lastServed := o, chipStack := k, replies := p, link := l, upstream := u,
                 cancelQueue := c } = f x)
    (hl : ∀ r x, f (leaveEnding r x) = f x) (s : State) : f s.sendIfIdle = f s := by
  rcases sendIfIdle_cases s with ⟨_, e⟩ | ⟨_, e⟩ <;> rw [e]
  exact schedule_keeps f hs hl s

@[simp] theorem schedule_mode (s : State) : (schedule s).mode = s.mode :=
  schedule_keeps State.mode (fun _ _ _ _ _ _ _ _ _ => rfl) (fun r x => by simp) s
@[simp] theorem sendIfIdle_mode (s : State) : s.sendIfIdle.mode = s.mode :=
  sendIfIdle_keeps State.mode (fun _ _ _ _ _ _ _ _ _ => rfl) (fun r x => by simp) s
@[simp] theorem schedule_venueTime (s : State) : (schedule s).venueTime = s.venueTime :=
  schedule_keeps State.venueTime (fun _ _ _ _ _ _ _ _ _ => rfl) (fun r x => by simp) s
@[simp] theorem sendIfIdle_venueTime (s : State) : s.sendIfIdle.venueTime = s.venueTime :=
  sendIfIdle_keeps State.venueTime (fun _ _ _ _ _ _ _ _ _ => rfl) (fun r x => by simp) s
@[simp] theorem schedule_font (s : State) : (schedule s).font = s.font :=
  schedule_keeps State.font (fun _ _ _ _ _ _ _ _ _ => rfl) (fun r x => by simp) s
@[simp] theorem sendIfIdle_font (s : State) : s.sendIfIdle.font = s.font :=
  sendIfIdle_keeps State.font (fun _ _ _ _ _ _ _ _ _ => rfl) (fun r x => by simp) s
@[simp] theorem schedule_ladder (s : State) : (schedule s).ladder = s.ladder :=
  schedule_keeps State.ladder (fun _ _ _ _ _ _ _ _ _ => rfl) (fun r x => by simp) s
@[simp] theorem sendIfIdle_ladder (s : State) : s.sendIfIdle.ladder = s.ladder :=
  sendIfIdle_keeps State.ladder (fun _ _ _ _ _ _ _ _ _ => rfl) (fun r x => by simp) s
@[simp] theorem schedule_frameQueue (s : State) : (schedule s).frameQueue = s.frameQueue :=
  schedule_keeps State.frameQueue (fun _ _ _ _ _ _ _ _ _ => rfl) (fun r x => by simp) s
@[simp] theorem sendIfIdle_frameQueue (s : State) : s.sendIfIdle.frameQueue = s.frameQueue :=
  sendIfIdle_keeps State.frameQueue (fun _ _ _ _ _ _ _ _ _ => rfl) (fun r x => by simp) s
@[simp] theorem schedule_engine (s : State) : (schedule s).engine = s.engine :=
  schedule_keeps State.engine (fun _ _ _ _ _ _ _ _ _ => rfl) (fun r x => by simp) s
@[simp] theorem sendIfIdle_engine (s : State) : s.sendIfIdle.engine = s.engine :=
  sendIfIdle_keeps State.engine (fun _ _ _ _ _ _ _ _ _ => rfl) (fun r x => by simp) s
@[simp] theorem schedule_slotIn (s : State) : (schedule s).slotIn = s.slotIn :=
  schedule_keeps State.slotIn (fun _ _ _ _ _ _ _ _ _ => rfl) (fun r x => by simp) s
@[simp] theorem sendIfIdle_slotIn (s : State) : s.sendIfIdle.slotIn = s.slotIn :=
  sendIfIdle_keeps State.slotIn (fun _ _ _ _ _ _ _ _ _ => rfl) (fun r x => by simp) s
@[simp] theorem schedule_slotOut (s : State) : (schedule s).slotOut = s.slotOut :=
  schedule_keeps State.slotOut (fun _ _ _ _ _ _ _ _ _ => rfl) (fun r x => by simp) s
@[simp] theorem sendIfIdle_slotOut (s : State) : s.sendIfIdle.slotOut = s.slotOut :=
  sendIfIdle_keeps State.slotOut (fun _ _ _ _ _ _ _ _ _ => rfl) (fun r x => by simp) s
@[simp] theorem schedule_audioOut (s : State) : (schedule s).audioOut = s.audioOut :=
  schedule_keeps State.audioOut (fun _ _ _ _ _ _ _ _ _ => rfl) (fun r x => by simp) s
@[simp] theorem sendIfIdle_audioOut (s : State) : s.sendIfIdle.audioOut = s.audioOut :=
  sendIfIdle_keeps State.audioOut (fun _ _ _ _ _ _ _ _ _ => rfl) (fun r x => by simp) s
@[simp] theorem schedule_panels (s : State) : (schedule s).panels = s.panels :=
  schedule_keeps State.panels (fun _ _ _ _ _ _ _ _ _ => rfl) (fun r x => by simp) s
@[simp] theorem sendIfIdle_panels (s : State) : s.sendIfIdle.panels = s.panels :=
  sendIfIdle_keeps State.panels (fun _ _ _ _ _ _ _ _ _ => rfl) (fun r x => by simp) s
@[simp] theorem schedule_nextEntry (s : State) : (schedule s).nextEntry = s.nextEntry :=
  schedule_keeps State.nextEntry (fun _ _ _ _ _ _ _ _ _ => rfl) (fun r x => by simp) s
@[simp] theorem sendIfIdle_nextEntry (s : State) : s.sendIfIdle.nextEntry = s.nextEntry :=
  sendIfIdle_keeps State.nextEntry (fun _ _ _ _ _ _ _ _ _ => rfl) (fun r x => by simp) s
@[simp] theorem schedule_polling (s : State) : (schedule s).polling = s.polling :=
  schedule_keeps State.polling (fun _ _ _ _ _ _ _ _ _ => rfl) (fun r x => by simp) s
@[simp] theorem sendIfIdle_polling (s : State) : s.sendIfIdle.polling = s.polling :=
  sendIfIdle_keeps State.polling (fun _ _ _ _ _ _ _ _ _ => rfl) (fun r x => by simp) s
@[simp] theorem schedule_chip (s : State) : (schedule s).chip = s.chip :=
  schedule_keeps State.chip (fun _ _ _ _ _ _ _ _ _ => rfl) (fun r x => by simp) s
@[simp] theorem sendIfIdle_chip (s : State) : s.sendIfIdle.chip = s.chip :=
  sendIfIdle_keeps State.chip (fun _ _ _ _ _ _ _ _ _ => rfl) (fun r x => by simp) s
@[simp] theorem schedule_timeoutInForce (s : State) : (schedule s).timeoutInForce = s.timeoutInForce :=
  schedule_keeps State.timeoutInForce (fun _ _ _ _ _ _ _ _ _ => rfl) (fun r x => by simp) s
@[simp] theorem sendIfIdle_timeoutInForce (s : State) : s.sendIfIdle.timeoutInForce = s.timeoutInForce :=
  sendIfIdle_keeps State.timeoutInForce (fun _ _ _ _ _ _ _ _ _ => rfl) (fun r x => by simp) s
@[simp] theorem schedule_issueCounter (s : State) : (schedule s).issueCounter = s.issueCounter :=
  schedule_keeps State.issueCounter (fun _ _ _ _ _ _ _ _ _ => rfl) (fun r x => by simp) s
@[simp] theorem sendIfIdle_issueCounter (s : State) : s.sendIfIdle.issueCounter = s.issueCounter :=
  sendIfIdle_keeps State.issueCounter (fun _ _ _ _ _ _ _ _ _ => rfl) (fun r x => by simp) s
@[simp] theorem schedule_freeDrawn (s : State) : (schedule s).freeDrawn = s.freeDrawn :=
  schedule_keeps State.freeDrawn (fun _ _ _ _ _ _ _ _ _ => rfl) (fun r x => by simp) s
@[simp] theorem sendIfIdle_freeDrawn (s : State) : s.sendIfIdle.freeDrawn = s.freeDrawn :=
  sendIfIdle_keeps State.freeDrawn (fun _ _ _ _ _ _ _ _ _ => rfl) (fun r x => by simp) s
@[simp] theorem schedule_pending (s : State) : (schedule s).pending = s.pending :=
  schedule_keeps State.pending (fun _ _ _ _ _ _ _ _ _ => rfl) (fun r x => by simp) s
@[simp] theorem sendIfIdle_pending (s : State) : s.sendIfIdle.pending = s.pending :=
  sendIfIdle_keeps State.pending (fun _ _ _ _ _ _ _ _ _ => rfl) (fun r x => by simp) s
@[simp] theorem sendIfIdle_panel (s : State) (e : PanelId) : s.sendIfIdle.panel e = s.panel e := by
  simp [State.panel]

end Sys2Proof.Machine
end

