-- ==== Sys2Proof/Laws/Orders.lean ====
section
/-! SUPPORT. What taking an ORDER, APPEND, VIDEO or AUDIO cell does, said once. -/

namespace Sys2Proof.Machine

/-- The reply of an answered order stands where `replied` puts it. -/
theorem countIn_pushReply (s : State) (room tag kind : Nat) (code : ReplyCode) (data : List Byte) :
    (s.countIn.pushReply (replyOf room tag kind code data)).sendIfIdle = s.replied room tag kind code data := rfl

theorem takeOrder_taken {s : State} (h : s.takes) (b : Bool) (room tag kind : Nat) (d : State → Verdict) :
    takeOrder b room tag kind d s =
      ((d s.countIn).state.pushReply
        (replyOf room tag kind (d s.countIn).code (d s.countIn).data)).sendIfIdle := by
  have h1 : s.mode ≠ .stop := h.1
  have h2 : ¬ 16 ≤ s.replies.length := by have := h.2; omega
  simp [takeOrder, State.repliesFull, h1, h2]

theorem takeOrder_standby {s : State} (h : s.mode = .stop) (room tag kind : Nat) (d : State → Verdict) :
    takeOrder false room tag kind d s = s.countStandby := by simp [takeOrder, h]

theorem takeOrder_lost {s : State} (h : s.mode ≠ .stop) (hf : 16 ≤ s.replies.length) (b : Bool)
    (room tag kind : Nat) (d : State → Verdict) : takeOrder b room tag kind d s = s.countOrdersLost := by
  simp [takeOrder, h, State.repliesFull, hf]

/-- Everything that taking an ORDER or APPEND cell can do. -/
theorem takeOrder_cases (b : Bool) (room tag kind : Nat) (d : State → Verdict) (s : State) :
    takeOrder b room tag kind d s = s.countStandby ∨ takeOrder b room tag kind d s = s.countOrdersLost ∨
      takeOrder b room tag kind d s =
        ((d s.countIn).state.pushReply
          (replyOf room tag kind (d s.countIn).code (d s.countIn).data)).sendIfIdle := by
  unfold takeOrder
  split
  · exact .inl rfl
  · split
    · exact .inr (.inl rfl)
    · exact .inr (.inr rfl)

theorem takeMedia_taken {s : State} (h : s.mode ≠ .stop) (act : State → State) :
    takeMedia act s = act s.countIn := by simp [takeMedia, h]

/-- Everything that taking a VIDEO or AUDIO cell can do. -/
theorem takeMedia_cases (act : State → State) (s : State) :
    takeMedia act s = s.countStandby ∨ takeMedia act s = act s.countIn := by
  unfold takeMedia
  split
  · exact .inl rfl
  · exact .inr rfl

/-- An order that a verdict refuses leaves the state as it was, but for the count and the reply (R4). -/
theorem refuse_pushReply (s : State) (room tag kind : Nat) (code : ReplyCode) (data : List Byte) :
    ((refuse s.countIn code data).state.pushReply
      (replyOf room tag kind (refuse s.countIn code data).code (refuse s.countIn code data).data)).sendIfIdle =
      s.replied room tag kind code data := rfl

end Sys2Proof.Machine
end

