-- ==== Sys2Proof/Tests/Slice0.lean ====
section
/-! SUPPORT. Tests on small states: ill-formed terms that the check of well-formedness refuses, cells written out from
chapter 12, the manual's worked examples, and a witness for the hypotheses of every statement that has any. -/

namespace Sys2Proof.Tests

open Sys2Proof.Machine

set_option maxRecDepth 20000

/-! ### Small states -/

/-- The state a command leaves. -/
def run (c : Instr) (s : State) : State :=
  match exec c s with
  | .next t => t
  | .fault _ => s
  | .refused _ => s

/-- The state a command leaves while the upstream link is busy with a cell, so that replies and reports wait. -/
def after (c : Instr) (s : State) : State := run c { s with upstream := some (.reply ⟨0, 0, 0, .ok, []⟩) }

/-- The reset state in chip mode `m` with room 0 changed by `f`. -/
def withRoom (m : Mode) (f : Room → Room) : State := ({ State.reset with mode := m } : State).updRoom 0 f

/-- RUN mode with room 0 in a room state, otherwise as after reset. -/
def roomIn (st : RoomState) : State := withRoom .run fun rm => rm.setState st

/-- A CLOSED bank of one line. -/
def closedBank : Bank :=
  { state := .closed, songId := 7, declaredLines := 1, declaredSyllables := 1,
    lines := [⟨0, 1, .a, true, 100, 200⟩], syllables := [⟨100, 100, [65], false⟩] }

/-- Room 0 CUED on bank 0. -/
def cued : State := withRoom .run fun rm =>
  { rm with bank0 := closedBank, ctx := { rm.ctx with state := .cued, cuedBank := some 0 } }

/-- Room 0 PLAYING from a bank. -/
def playing (b : Bank) (f : RoomContext → RoomContext) : State := withRoom .run fun rm =>
  { rm with bank0 := b, ctx := f { rm.ctx with state := .playing, currentBank := some 0 } }

/-- A backing sample. -/
def sample (endMark : Bool) : QueuedSample := ⟨5, 6, endMark⟩

/-- Room 0 PLAYING with a backing queue. -/
def audible (q : List QueuedSample) (pendingEnd : Bool) : State :=
  (playing closedBank id).updRoom 0 fun rm => rm.updPort fun p => { p with queue := q, pendingEnd := pendingEnd }

/-- Room 0 CALIBRATING in period `j`, its mic 1 on input slot 4, its L and R on output slots 0 and 1. -/
def calibrating (j : Nat) : State :=
  { withRoom .run fun rm =>
      (rm.setState .calibrating).updPort fun p => { p with calibration := some ⟨22, 8000, 8, 2000, 0, j⟩ } with
    slotIn := State.reset.slotIn.set 4 (some ⟨0, 0⟩)
    slotOut := (State.reset.slotOut.set 0 (some ⟨0, .left⟩)).set 1 (some ⟨0, .right⟩) }

/-- An entry with ticket 5 of panel 2. -/
def entry (st : EntryState) (sent : Option VenueTime) : Entry :=
  { ticket := 5, issue := 40, song := 1234, keyShift := 2, singerTag := 1, source := 2, state := st, position := none,
    issueTime := 0, sentTime := sent }

/-- Panel 2 enabled at address 9 in room 0, room 0 IDLE with the given request list. -/
def listed (es : List Entry) : State :=
  (withRoom .run fun rm => { rm.setState .idle with requests := es }).updPanel 2 fun _ => setEntry true 9 0

/-- Panel 2 is polled at address 9. -/
def polled (present : Bool) (misses : Nat) : State :=
  { (listed []).updPanel 2 fun p => { p with present := present, missCount := misses } with
    nextEntry := 2, polling := some ⟨9, 4, none⟩ }

/-- Sixteen replies wait. -/
def repliesFull (m : Mode) : State :=
  { State.reset with mode := m, replies := List.replicate 16 ⟨0, 0, 0, .ok, []⟩ }

/-- A report of room 1. -/
def mark1 : Report := ⟨.queueMark 1 .low 0, 0, 0⟩

/-! ### Ill-formed terms -/

theorem test_wellFormed_video_line : Instr.wellFormed (.video 0 65536 false []) = false := by decide
theorem test_wellFormed_tag : Instr.wellFormed (.start 0 256) = false := by decide
theorem test_wellFormed_line_count : Instr.wellFormed (.appendLines 0 0 0 0 [⟨0, 256, 0, false⟩]) = false := by decide
theorem test_wellFormed_line_part : Instr.wellFormed (.appendLines 0 0 0 0 [⟨0, 1, 4, false⟩]) = false := by decide
theorem test_wellFormed_syllable_start :
    Instr.wellFormed (.appendSyllables 0 0 0 0 [⟨16777216, 1, 1, false, List.replicate 8 0⟩]) = false := by decide
theorem test_wellFormed_syllable_codes : Instr.wellFormed (.appendSyllables 0 0 0 0 [⟨0, 1, 1, false, [1]⟩]) = false := by
  decide
theorem test_wellFormed_guide_note : Instr.wellFormed (.appendGuide 0 0 0 0 [⟨0, 1, 256, 0⟩]) = false := by decide
theorem test_wellFormed_font_count : Instr.wellFormed (.appendFont 0 (some 0) (some 65536) []) = false := by decide
theorem test_wellFormed_font_fields : Instr.wellFormed (.appendFont 0 none (some 1) []) = false := by decide
theorem test_wellFormed_ladder : Instr.wellFormed (.appendLadder 0 0 [65536]) = false := by decide
theorem test_wellFormed_mode : Instr.wellFormed (.setMode 0 256) = false := by decide
theorem test_wellFormed_chipParam : Instr.wellFormed (.chipParam 0 .pollWindow 65536) = false := by decide
theorem test_wellFormed_slot : Instr.wellFormed (.slotMap 0 0 256 0) = false := by decide
theorem test_wellFormed_pollEntry : Instr.wellFormed (.pollEntry 0 0 256 1 0) = false := by decide
theorem test_wellFormed_font : Instr.wellFormed (.fontClear 0 256 0 0) = false := by decide
theorem test_wellFormed_readBank : Instr.wellFormed (.readBank 0 0 256) = false := by decide
theorem test_wellFormed_cue : Instr.wellFormed (.cue 0 0 0 256) = false := by decide
theorem test_wellFormed_setting : Instr.wellFormed (.roomParam 0 0 (.marks 0 65536)) = false := by decide
theorem test_wellFormed_bankOpen : Instr.wellFormed (.bankOpen 0 0 0 4294967296 1 1 0) = false := by decide
theorem test_wellFormed_position : Instr.wellFormed (.reqAccept 0 0 1 65536) = false := by decide
theorem test_wellFormed_reason : Instr.wellFormed (.reqRefuse 0 0 1 256) = false := by decide
theorem test_wellFormed_payload : Instr.wellFormed (.panelNone (List.replicate 17 0)) = false := by decide
theorem test_wellFormed_kind : Instr.wellFormed (.panelUnknownKind 17 []) = false := by decide
theorem test_wellFormed_echo : Instr.wellFormed (.wrongEcho 256) = false := by decide
theorem test_wellFormed_ticket : Instr.wellFormed (.replyTimeout 0 256) = false := by decide

/-! ### Cells and frames, written out from chapter 12 (the CRCs computed outside the model) -/

/-- The published check value of the CRC R168 describes, over the text "123456789". -/
theorem test_crc : crc16 [49, 50, 51, 52, 53, 54, 55, 56, 57] = 0x29B1#16 := by decide

theorem test_decode_setMode : decodeCell [4, 15, 1, 0, 0, 2, 1, 1, 188, 106] = .setMode 1 1 := by decide
theorem test_decode_cue : decodeCell [4, 2, 9, 0, 0, 3, 16, 1, 5, 155, 220] = .cue 2 9 1 5 := by decide
theorem test_decode_video :
    decodeCell [1, 1, 0, 1, 0, 10, 0, 3, 0, 2, 1, 2, 3, 4, 5, 6, 191, 39] = .video 1 3 true [⟨1, 2, 3⟩, ⟨4, 5, 6⟩] := by decide
theorem test_decode_audio : decodeCell [2, 0, 0, 2, 0, 6, 0, 1, 255, 254, 0, 7, 140, 23] = .audio 0 true [⟨65534, 7⟩] := by
  decide
theorem test_decode_lines :
    decodeCell [3, 3, 4, 0, 0, 10, 1, 1, 0, 2, 0, 1, 0, 6, 2, 129, 133, 69] = .appendLines 3 4 1 2 [⟨6, 2, 1, true⟩] := by decide
theorem test_decode_syllables :
    decodeCell [3, 0, 4, 0, 0, 28, 0, 2, 0, 0, 0, 1, 0, 2, 238, 0, 90, 130, 0, 65, 0, 66, 0, 0, 0, 0, 0, 0, 0, 0, 0, 0, 0, 0, 235, 38]
      = .appendSyllables 0 4 0 0 [⟨750, 90, 2, true, [65, 66, 0, 0, 0, 0, 0, 0]⟩] := by decide
theorem test_decode_guide :
    decodeCell [3, 0, 4, 0, 0, 13, 0, 3, 0, 0, 0, 1, 0, 2, 238, 1, 14, 57, 2, 32, 20] = .appendGuide 0 4 0 0 [⟨750, 270, 57, 2⟩] := by
  decide
theorem test_decode_ladder : decodeCell [3, 15, 4, 0, 0, 8, 0, 5, 0, 0, 0, 1, 52, 126, 217, 47] = .appendLadder 4 0 [13438] := by
  decide
/-- A FONT append that ends after one byte of its first index: its length is the Glyph Table's to refuse (R184). -/
theorem test_decode_short_font : decodeCell [3, 15, 4, 0, 0, 3, 0, 4, 0, 122, 42] = .appendFont 4 none none [0] := by decide
theorem test_decode_marks :
    decodeCell [4, 1, 7, 0, 0, 20, 24, 19, 0, 10, 0, 20, 0, 0, 0, 0, 0, 0, 0, 0, 0, 0, 0, 0, 0, 0, 111, 24]
      = .roomParam 1 7 (.marks 10 20) := by decide
theorem test_decode_readBank : decodeCell [4, 1, 7, 0, 0, 3, 6, 2, 1, 133, 53] = .readBank 1 7 1 := by decide
theorem test_decode_bad_room : decodeCell [4, 7, 3, 0, 0, 1, 17, 39, 186] = .unknownOrder [4, 7, 3, 0, 0, 1, 17, 39, 186] := by
  decide
theorem test_decode_bad_crc : decodeCell [4, 15, 1, 0, 0, 2, 1, 1, 0, 0] = .cellDiscarded [4, 15, 1, 0, 0, 2, 1, 1, 0, 0] := by
  decide

/-- R139: the bytes of a frame with its check byte sum to 255 modulo 256; song 123456, key +9, tag 12 (chapter 9). -/
theorem test_answer_request : decodeAnswer 3 [3, 17, 5, 1, 226, 64, 9, 12, 174] = .panelRequest [1, 226, 64, 9, 12] := by
  decide
theorem test_answer_echo : decodeAnswer 9 [10, 16, 0, 229] = .wrongEcho 10 := by decide
theorem test_answer_garbled : decodeAnswer 9 [9, 16, 0, 229] = .garbled ∧ decodeAnswer 9 [9, 16] = .garbled := by decide
theorem test_answer_none : decodeAnswer 9 [] = .noAnswer := by decide
theorem test_poll_frame : PollTransaction.frame ⟨3, 4, some ⟨.ticket 1 123456, false⟩⟩ = [3, 1, 5, 1, 1, 1, 226, 64, 209] := by
  decide

/-! ### Worked examples of the manual -/

/-- Chapter 3, loading a small font: the second cell of codes 72 and 70 fails at its second record. -/
theorem test_font_order :
    takeGlyphs { height := 40, lastCode := some 67, coverageUsed := 2720 } 0 [⟨72, 24, 26, []⟩, ⟨70, 20, 22, []⟩]
      = .error (1, .sequence) := by decide
theorem test_font_width :
    takeGlyphs { height := 40, lastCode := some 72, coverageUsed := 4480 } 0 [⟨73, 70, 10, []⟩]
      = .error (0, .range) := by decide

/-- Chapter 2, a song loaded while it plays: the bank before song clock 1450. -/
def bank1450 : Bank :=
  { state := .filling, songId := 4417, declaredLines := 4, declaredSyllables := 10, declaredNotes := 6
    lines := [⟨0, 3, .a, false, 750, 1020⟩, ⟨3, 3, .a, false, 1125, 1395⟩]
    syllables := [⟨750, 90, [1], false⟩, ⟨840, 90, [1], false⟩, ⟨930, 90, [1], false⟩, ⟨1125, 90, [1], false⟩,
      ⟨1215, 90, [1], false⟩, ⟨1305, 90, [1], false⟩]
    guide := [⟨750, 270, 57, .a⟩, ⟨1125, 270, 57, .a⟩, ⟨1500, 300, 57, .a⟩]
    lastSyllableStart := some 1305, lastGuideStart := some 1500, lastEndA := 1800 }

/-- At 1450 the LINES append is refused SEQUENCE, frontier 2, failing index 2. -/
theorem test_stream_lines_refused :
    appendVerdict takeLine Bank.lineFrontier Bank.declaredLines bank1450 2 [⟨6, 2, 0, false⟩, ⟨8, 2, 0, true⟩]
      = .refused .sequence [0, 2, 0, 2] := by decide

/-- At 1870 the GUIDE append is refused SEQUENCE, frontier 3, failing index 5. -/
theorem test_stream_guide_refused :
    appendVerdict takeGuide Bank.guideFrontier Bank.declaredNotes bank1450 3
      [⟨1900, 100, 57, 0⟩, ⟨2000, 200, 57, 2⟩, ⟨2100, 100, 57, 1⟩] = .refused .sequence [0, 3, 0, 5] := by decide

/-- At 1850 the LINES append makes line 3 current, with one skip and a LINE_SCORE for lines 1 and 2. -/
def stream1850 : State :=
  after (.appendLines 0 1 0 2 [⟨6, 2, 0, false⟩, ⟨8, 2, 0, true⟩])
    ((playing { bank1450 with
        syllables := bank1450.syllables ++
          [⟨1500, 150, [1], false⟩, ⟨1650, 150, [1], false⟩, ⟨1900, 200, [1], false⟩, ⟨2000, 200, [1], false⟩]
        lastSyllableStart := some 2000 } fun c => { c with
      position := 118400, starvedEver := true, starvationCount := 1, lyric := { c.lyric with current := 1, starved := true } }))

theorem test_stream_catch_up :
    (stream1850.room 0).ctx.lyric = { current := 3, scrollStart := 1850, scrollLength := 60, starved := false }
      ∧ (stream1850.room 0).ctx.skipCount = 1 ∧ stream1850.reports.length = 2
      ∧ stream1850.replies.map Reply.data = [[0, 4]] := by decide

/-- Chapter 4, a song halted at a line: at tick 1450 the song ends HALTED with line 2 current. -/
def halted : State :=
  after (.songTick 0) (playing
    { state := .closed
      lines := [⟨0, 1, .a, false, 300, 600⟩, ⟨1, 1, .a, false, 700, 1020⟩, ⟨2, 1, .a, false, 1100, 1400⟩,
        ⟨3, 1, .a, false, 1480, 1800⟩, ⟨4, 1, .a, true, 1900, 2300⟩] }
    fun c => { c with position := 92800, lyric := { c.lyric with current := 2, haltPending := true } })

theorem test_halt_at_line :
    (halted.room 0).ctx.endReason = some .halted ∧ (halted.room 0).ctx.lyric.current = 2
      ∧ (halted.room 0).ctx.state = .idle ∧ halted.reports.length = 2 := by decide

/-- Chapter 4, one scroll: the residuals of a pitch of 48 over 60 ticks from tick 3000. -/
theorem test_residuals : [3000, 3020, 3045, 3060].map (residualOf 48 · 3000 60) = [48, 32, 12, 0] := by decide

/-- Chapter 5, one lyric line: its layout, and its fills at 3040 and 3150. -/
def font5 : List Glyph :=
  [⟨65, 24, 26, []⟩, ⟨66, 22, 24, []⟩, ⟨67, 22, 24, []⟩, ⟨70, 20, 22, []⟩, ⟨72, 24, 26, []⟩]

def latch5 (clock bandW : Nat) : FrameLatch :=
  { mode := .run, roomState := .playing, cls := .overlay, bank := some 0, lineFrontier := 6, clock := clock,
    current := 5, finished := false, residual := 0, pitch := 48, bandX := 320, bandW := bandW, bandY := 840, rows := 2,
    rowGap := 8, lineOverflow := .clip, palette := defaultPalette, height := 40, spaceAdvance := 12,
    missingAdvance := 20, glyphCount := 5 }

def line5 : List Syllable := [⟨3000, 90, [72, 65], true⟩, ⟨3090, 120, [66, 67, 70], false⟩]

theorem test_layout :
    (drawnGlyphs (latch5 3040 1280) font5 line5).map (fun g => (g.x, g.width, g.syllableX, g.fill))
      = [(893, 24, 893, 23), (919, 24, 893, 23), (957, 22, 957, 0), (981, 22, 957, 0), (1005, 20, 957, 0)] := by decide
theorem test_layout_narrow :
    (drawnGlyphs (latch5 3150 120) font5 line5).map (fun g => (g.x, g.fill)) = [(320, 52), (346, 52), (384, 35), (408, 35)] := by
  decide

/-- Chapter 5, blending: coverage 10 of (0, 128, 255) over (40, 40, 40). -/
theorem test_blend : blend 10 ⟨0, 128, 255⟩ ⟨40, 40, 40⟩ = ⟨13, 99, 183⟩ := by decide

/-- Chapter 6, a stopped song: the flush of a queue without END discards it and sets DRAINING, and LOW is raised. -/
def stopped : State :=
  after (.stop 0 1) ((audible [sample false, sample false] false).updRoom 0 fun rm =>
    { rm with
      bank1 := closedBank, ctx := { rm.ctx with cuedBank := some 1 }, port := { rm.port with markState := .high } })

theorem test_stop_drains :
    (stopped.room 0).ctx.state = .cued ∧ (stopped.room 0).ctx.draining = true
      ∧ (stopped.room 0).port.audioDiscarded = 2 ∧ (stopped.room 0).port.markState = .low
      ∧ stopped.reports.map (fun x => x.body.code) = [1, 2, 5] := by decide

/-- Chapter 6, a late END: pending END ends the song COMPLETE in the next period, and the position does not advance. -/
theorem test_pending_end :
    let t := after (.samplePeriod (Vector.replicate 8 0) 0 0) (audible [] true)
    (t.room 0).ctx.endReason = some .complete ∧ (t.room 0).ctx.position = 0 ∧ (t.room 0).port.pendingEnd = false := by
  decide

/-- Chapter 6, calibrating a room: +8000 in period 0, -8000 in period 24, and a capture of 2210 in period 611. -/
theorem test_generator :
    (after (.samplePeriod (Vector.replicate 8 0) 0 0) (calibrating 0)).audioOut.get 1 = 8000
      ∧ (after (.samplePeriod (Vector.replicate 8 0) 0 0) (calibrating 24)).audioOut.get 0 = BitVec.ofInt 16 (-8000) := by
  decide
theorem test_capture :
    let t := after (.samplePeriod ((Vector.replicate 8 0).set 4 2210) 3 0) (calibrating 611)
    (t.room 0).ctx.state = .idle ∧ (t.room 0).port.delay = 611 ∧ (t.room 0).port.delayValid = true
      ∧ t.reports.map Report.body = [.calDone 0 .ok 611 611 true 0] := by decide

/-- Chapter 6 and chapter 8: the compensations of delays 611, 6100 with offset 10, and 11,000 with offset 20. -/
theorem test_compensation :
    compensation {} { delay := 611, delayValid := true } = (10, false)
      ∧ compensation { compOffset := 10 } { delay := 6100, delayValid := true } = (105, false)
      ∧ compensation { compOffset := 20 } { delay := 11000, delayValid := true } = (188, true) := by decide

/-- Chapter 7, a 220 per second tone: five crossings from 10 to 883 give the period 3492. -/
theorem test_period : Detector.period ⟨false, 5, 10, 883⟩ = some 3492 := by decide

/-- R114: one swing below -H and above +H records one crossing, and an armed sample does not fire at once. -/
theorem test_detector : detect 256 0 [300, BitVec.ofInt 16 (-256), 0, 256, 300] {} = ⟨false, 1, 3, 3⟩ := by decide

/-- Chapter 8, one frame: note 57 against guide note 57 with key shift 2 is NEAR, with tolerance 1 OFF, and an octave low
NEAR with the fold on. -/
theorem test_judge :
    judge { tolerance := 2 } 2 (some 57) ⟨7350, 90, 57, .a⟩ = .near ∧ judge {} 2 (some 57) ⟨7350, 90, 57, .a⟩ = .off
      ∧ judge { tolerance := 2 } 2 (some 45) ⟨7350, 90, 57, .a⟩ = .near
      ∧ judge { tolerance := 2, octaveFold := false } 2 (some 45) ⟨7350, 90, 57, .a⟩ = .off := by decide
theorem test_evalTick : evalTick 480000 105 = 7387 ∧ evalTick 7168 105 = -1 := by decide

/-- Chapter 8, a line and a duet. -/
theorem test_scores : scoreOf 40 120 = ⟨75, false⟩ ∧ scoreOf 1200 3000 = ⟨62, false⟩ ∧ scoreOf 800 2600 = ⟨81, false⟩
    ∧ scoreOf 2000 5600 = ⟨70, false⟩ ∧ scoreOf 0 0 = ⟨0, true⟩ := by decide

/-- Chapter 9, three panels: key shift +9 is clamped to +6 and tag 12 to 7, and ticket 1 is issued. -/
theorem test_request :
    let t := after (.panelRequest [1, 226, 64, 9, 12]) (polled true 0)
    (t.room 0).requests.map (fun e => (e.ticket, e.song, e.keyShift, e.singerTag)) = [(1, 123456, 6, 7)]
      ∧ (t.polling.map PollTransaction.carried) = some (some ⟨.ticket 1 123456, false⟩) := by decide
theorem test_third_miss :
    let t := after .noAnswer (polled true 2)
    (t.panel 2).present = false ∧ t.reports.map Report.body = [.panelState 2 9 0 false] := by decide
theorem test_cancel_without_payload :
    ((after (.panelCancel []) (polled true 0)).polling.map PollTransaction.carried) = some (some ⟨.format, false⟩) := by
  decide

/-- Chapter 10, forwarding order: the same three entries under ARRIVAL and ROOM_RANK. -/
def forwarding (o : RequestOrder) : State :=
  { (listed [{ entry .waiting none with ticket := 4, issue := 42 }]).updRoom 2 (fun rm => { rm with
      requests := [{ entry .waiting none with ticket := 11 }, { entry .waiting none with ticket := 12, issue := 43 }] }) with
    chip := { requestOrder := o } }

theorem test_forwarding :
    (after .cellSent (forwarding .arrival)).upstream = some (.add 2 11 40 1234 2 1 9 0)
      ∧ (after .cellSent (forwarding .roomRank)).upstream = some (.add 0 4 42 1234 2 1 9 0) := by decide

/-- Chapter 10, a cancel race: the acceptance of a CANCELLING entry keeps it, the drop removes it with CANCELLED, and the
CUE of it is refused CANCELLED. -/
theorem test_accept_cancelling :
    let t := after (.reqAccept 0 1 5 3) (listed [entry .cancelling none])
    (t.room 0).requests = [{ entry .cancelling none with position := some 3 }] ∧ (t.panel 2).outbox = [] := by decide
theorem test_drop_cancelling :
    let t := after (.reqDrop 0 1 5) (listed [entry .cancelling (some 100901)])
    (t.room 0).requests = [] ∧ (t.panel 2).outbox = [⟨.cancelled 5, false⟩] := by decide
theorem test_cue_cancelling :
    ((after (.cue 0 1 0 5) ((listed [entry .cancelling none]).updRoom 0 fun rm => { rm with bank0 := closedBank })).replies.map
      Reply.code) = [.cancelled] := by decide
theorem test_timeout_at_105401 :
    let t := after .venueTimeTick { listed [entry .cancelling (some 100401)] with venueTime := 105400 }
    (t.room 0).requests = [] ∧ (t.panel 2).outbox = [⟨.cancelled 5, false⟩]
      ∧ (t.room 0).requestCounters.timeouts = 1 := by decide

/-- Chapter 11, a full report queue: three line-score events leave LINE_SCORE 8 with lost count 2, and the freed place goes
to room 1 after room 0. -/
theorem test_stacked_lines :
    let full : State := { playing closedBank id with reports := List.replicate 16 mark1 }
    (((advanceTo 0 3 1 full).room 0).stack.lineScore.map fun x => (x.lost, x.body.fields.2.take 4))
      = some (2, [0, 0, 2, 1]) := by decide
theorem test_drain :
    let s : State :=
      { withRoom .run fun rm => { rm with stack := { queueMark := some mark1 } } with
        reports := [⟨.queueMark 2 .low 0, 0, 0⟩], lastServed := .room 3 }
    let t := after .cellSent s
    t.reports = [mark1] ∧ t.lastServed = .room 0 ∧ t.upstream = some (.report ⟨.queueMark 2 .low 0, 0, 0⟩) := by decide

/-! ### More single steps -/

/-- R180: on an idle link a reply, or a report with no reply waiting, is taken at once. -/
theorem test_idle_link_takes_a_reply :
    let t := run (.start 3 7) (roomIn .idle)
    t.upstream = some (.reply ⟨3, 7, 17, .wrongState, []⟩) ∧ t.replies = [] ∧ t.link.repliesSent = 1
      ∧ t.link.cellsIn = 1 := by decide
theorem test_idle_link_takes_a_report :
    let t := run .noAnswer (polled true 2)
    t.upstream = some (.report ⟨.panelState 2 9 0 false, 0, 0⟩) ∧ t.reports = [] ∧ t.link.reportsSent = 1 := by decide
theorem test_idle_link_takes_a_request :
    let t := run (.panelRequest [1, 226, 64, 9, 12]) (polled true 0)
    t.upstream = some (.add 0 1 1 123456 6 7 9 0) ∧ (t.room 0).requests.map Entry.state = [.sent] := by decide

/-- R48, R184: a FONT append too short for its record count is BUSY while the table is CLEARING, else MALFORMED, with the
glyph count and the coverage used. -/
theorem test_short_font :
    let answers (s : State) := (after (.appendFont 4 none none [0]) s).replies.map fun x => (x.code, x.data)
    answers State.reset = [(.malformed, [0, 0, 0, 0, 0])]
      ∧ answers { State.reset with font := { clearing := true, coverageUsed := 258 } } = [(.busy, [0, 0, 0, 1, 2])] := by
  decide

/-- R163: a REPLY_TIMEOUT lowered from 5 s to 1 s applies from the next millisecond. -/
theorem test_lowered_timeout :
    let s : State := { listed [entry .sent (some 0)] with venueTime := 1000 }
    let lowered := after (.chipParam 1 .replyTimeout 1) s
    ((after (.replyTimeout 0 5) lowered).room 0).requests.length = 1
      ∧ ((after .venueTimeTick lowered).room 0).requests = [] := by decide

theorem test_setMode_run :
    let s : State := { State.reset with ladder := ⟨true, []⟩ }.updRoom 1 fun rm => { rm with params := { roomEnable := true } }
    let t := after (.setMode 3 1) s
    t.mode = .run ∧ (t.room 1).ctx.state = .idle ∧ (t.room 0).ctx.state = .off := by decide
theorem test_set_mode_not_ready : ((after (.setMode 3 1) State.reset).replies.map Reply.code) = [.notReady] := by decide
theorem test_start :
    let t := after (.start 0 1) cued
    (t.room 0).ctx.state = .playing ∧ (t.room 0).ctx.currentBank = some 0 ∧ (t.room 0).ctx.epoch = 1
      ∧ (t.room 0).mic1.assembler.assembling = true ∧ (t.room 0).mic2.assembler.assembling = false := by decide
theorem test_epoch_wraps :
    let t := after (.roomReset 0 1) (cued.updRoom 0 fun rm => rm.updCtx fun c => { c with epoch := 255 })
    (t.room 0).ctx.epoch = 0 ∧ ((t.room 0).bank 0).state = .clearing ∧ (t.room 0).ctx.state = .off := by decide
theorem test_bank_free_merges :
    let full : State := { roomIn .idle with reports := List.replicate 16 mark1 }
    let t := raise (.bankFree 0 false true) (raise (.bankFree 0 true false) full)
    (t.room 0).stack.bankFree.map Report.body = some (.bankFree 0 true true) := by decide
theorem test_outbox_lost :
    let p : PollEntry := { setEntry true 9 0 with outbox := List.replicate 4 ⟨.full, false⟩ }
    (p.push .duplicate).outbox = [⟨.full, false⟩, ⟨.full, false⟩, ⟨.full, false⟩, ⟨.duplicate, true⟩]
      ∧ (p.push .duplicate).resultsLost = 1 := by decide
theorem test_position_limit :
    let s := (audible [sample false] false).updRoom 0 fun rm => rm.updCtx fun c => { c with position := 4294967294 }
    let wires : Vector (Option ChannelTarget) 8 := ((Vector.replicate 8 none).set 0 (some ⟨0, .left⟩)).set 1 (some ⟨0, .right⟩)
    let t := after (.songPositionLimit 0)
      { s with slotOut := wires.set 2 (some ⟨1, .left⟩), audioOut := Vector.replicate 8 9 }
    (t.room 0).ctx.endReason = some .complete ∧ (t.room 0).ctx.position = 4294967295
      ∧ t.audioOut.toList = [5, 6, 9, 9, 9, 9, 9, 9] := by decide
theorem test_low_mark_on_cue :
    let s := (roomIn .idle).updRoom 0 fun rm => { rm with bank0 := closedBank }
    (after (.cue 0 1 0 0) s).reports.map Report.body = [.queueMark 0 .low 0] := by decide
theorem test_orders_of_rooms : ((List.range 24).map (ordered · allRooms)).Nodup := by decide

/-! ### Witnesses: concrete states and operands that meet the hypotheses of each statement, clause by clause -/

/-- The reset state in a chip mode. -/
def inMode (m : Mode) : State := { State.reset with mode := m }

/-- The reset state with 15 replies waiting: one place is free. -/
def oneFree (m : Mode) : State := { inMode m with replies := List.replicate 15 ⟨0, 0, 0, .ok, []⟩ }

theorem reset_takes : State.reset.takes := by decide
theorem oneFree_takes : (oneFree .config).takes ∧ (oneFree .run).takes ∧ ¬ (repliesFull .run).takes ∧ ¬ (inMode .stop).takes := by
  decide

/-- One cell for each check of R169 that fails, and the counter it counts in. -/
theorem witness_DiscardedCellsAreCounted :
    (after (.cellDiscarded [4, 15, 1, 0, 0, 0, 1]) State.reset).link.badLength = 1
      ∧ (after (.cellDiscarded [4, 15, 1, 0, 0, 2, 1, 1, 0, 0]) State.reset).link.badCrc = 1
      ∧ (after (.cellDiscarded [4, 2, 9, 0, 0, 3, 16, 1, 5, 155, 220]) (inMode .stop)).link.standbyDiscarded = 1
      ∧ (after (.cellDiscarded [5, 0, 3, 0, 0, 1, 1, 69, 171]) State.reset).link.badKind = 1
      ∧ (after (.cellDiscarded [2, 4, 0, 0, 0, 2, 0, 0, 17, 62]) State.reset).link.mediaDiscarded = 1
      ∧ (after (.cellDiscarded [4, 2, 9, 0, 0, 3, 16, 1, 5, 155, 220]) (repliesFull .run)).link.ordersLost = 1
      ∧ (after (.cellDiscarded [4, 2, 9, 0, 0, 3, 16, 1, 5, 155, 220]) State.reset).link = {} := by decide

theorem witness_MalformedCellsAreAnswered :
    malformedCell [4, 7, 3, 0, 0, 1, 17, 39, 186] = true ∧ malformedCell [4, 0, 3, 0, 0, 0, 147, 109] = true ∧ kindByteOf (rawCell [4, 0, 3, 0, 0, 0, 147, 109]) = none
      ∧ malformedCell [4, 15, 3, 0, 0, 1, 99, 116, 45] = true ∧ fieldAt [4, 15, 3, 0, 0, 1, 99, 116, 45] 1 1 = 15 ∧ kindByteOf (rawCell [4, 15, 3, 0, 0, 1, 99, 116, 45]) = some 99
      ∧ malformedCell [4, 15, 3, 0, 0, 1, 1, 56, 201] = true ∧ (rawCell [4, 15, 3, 0, 0, 1, 1, 56, 201]).isSetMode = true ∧ (inMode .stop).mode = .stop
      ∧ (oneFree .run).replies.length < 16 ∧ 16 ≤ (repliesFull .run).replies.length
      ∧ decodeBody ⟨4, 4, 0, 0, [17]⟩ = none ∧ decodeBody ⟨4, 14, 0, 0, [17]⟩ = none
      ∧ decodeBody ⟨4, 255, 0, 0, [17]⟩ = none
      ∧ ([⟨4, 0, 0, 0, []⟩, ⟨4, 15, 0, 0, [7]⟩, ⟨4, 0, 0, 0, [15]⟩, ⟨4, 0, 0, 0, [32]⟩, ⟨4, 15, 0, 0, [16, 0, 0]⟩,
          ⟨4, 3, 0, 0, [5, 16, 8, 8]⟩, ⟨4, 0, 0, 0, [17, 0]⟩, ⟨4, 15, 0, 0, [6, 1, 0]⟩, ⟨4, 0, 0, 0, [6, 0, 0]⟩,
          ⟨4, 0, 0, 0, [6, 6, 0]⟩, ⟨4, 15, 0, 0, [2, 5, 0, 0]⟩, ⟨4, 15, 0, 0, [2, 0, 0, 0]⟩,
          ⟨4, 0, 0, 0, 24 :: 25 :: List.replicate 18 0⟩, ⟨3, 0, 0, 0, [0]⟩, ⟨3, 0, 0, 0, [0, 6, 0, 0, 0, 0]⟩,
          ⟨3, 15, 0, 0, [0, 3, 0, 0, 0, 0]⟩, ⟨3, 0, 0, 0, [0, 4, 0, 0, 0, 0]⟩, ⟨3, 0, 0, 0, [0, 1, 0, 0, 0, 1, 0, 0, 0]⟩,
          ⟨3, 15, 0, 0, [0, 5, 0, 0, 0]⟩] : List RawCell).all (fun c => (decodeBody c).isNone) = true
      ∧ decodeBody ⟨4, 0, 0, 0, [6, 5, 9]⟩ = some (.readCounters (some 0) 0)
      ∧ decodeBody ⟨3, 15, 4, 0, [0, 4]⟩ = some (.appendFont 4 none none [])
      ∧ decodeBody ⟨3, 15, 4, 0, [0, 4, 1, 2, 3]⟩ = some (.appendFont 4 (some 258) none [3])
      ∧ decodeBody ⟨3, 15, 4, 0, [0, 4, 1, 2, 0, 1, 9]⟩ = some (.appendFont 4 (some 258) (some 1) [9]) := by decide

theorem witness_EveryOrderIsAnsweredOnce :
    orderHeader (.start 3 7) = some (3, 7, 17) ∧ (oneFree .run).takes
      ∧ (after (.start 3 7) (oneFree .run)).replies.getLast? = some ⟨3, 7, 17, .wrongState, []⟩
      ∧ (inMode .run).upstream = none ∧ (inMode .run).replies = [] := by decide

theorem witness_OrdersDiscardedInStandbyOrFull :
    (inMode .stop).mode = .stop ∧ (orderHeader (.readChip 0)).isSome = true
      ∧ 16 ≤ (repliesFull .run).replies.length ∧ (repliesFull .run).mode ≠ .stop
      ∧ 16 ≤ (repliesFull .stop).replies.length ∧ (orderHeader (.setMode 0 0)).isSome = true := by decide

theorem witness_EncodedCellsDecodeToTheirCommand :
    Instr.wellFormed (.appendLines 3 4 1 2 [⟨6, 2, 1, true⟩]) = true
      ∧ encodeCell (.appendLines 3 4 1 2 [⟨6, 2, 1, true⟩]) = some [3, 3, 4, 0, 0, 10, 1, 1, 0, 2, 0, 1, 0, 6, 2, 129, 133, 69]
      ∧ Instr.wellFormed (.cue 2 9 1 5) = true ∧ encodeCell (.cue 2 9 1 5) = some [4, 2, 9, 0, 0, 3, 16, 1, 5, 155, 220]
      ∧ Instr.wellFormed (.audio 0 true [⟨65534, 7⟩]) = true
      ∧ encodeCell (.audio 0 true [⟨65534, 7⟩]) = some [2, 0, 0, 2, 0, 6, 0, 1, 255, 254, 0, 7, 140, 23] := by decide

/-- Room 0 IDLE with bank 0 CLOSED, bank 1 FILLING with one line, and entries in every state. -/
def shelves : State := (roomIn .idle).updRoom 0 fun rm => { rm with
  bank0 := closedBank
  bank1 := { closedBank with state := .filling }
  requests := [entry .accepted none, { entry .cancelling none with ticket := 6 }, { entry .waiting none with ticket := 7 },
    { entry .sent none with ticket := 8 }] }

/-- The ladder is loaded, room 1 is enabled, and poll-table entries 3 and 7 are, entry 3 with a waiting result. -/
def ready : State :=
  ((({ State.reset with ladder := ⟨true, List.replicate 43 0⟩ } : State).updRoom 1 fun rm => { rm with
    params := { roomEnable := true } }).updPanel 3 fun _ => { setEntry true 9 1 with outbox := [⟨.full, false⟩] }).updPanel 7
      fun _ => setEntry true 31 0

theorem witness_SetModeAnswers :
    (oneFree .config).replies.length < 16 ∧ (oneFree .config).mode = .config ∧ (oneFree .run).mode = .run
      ∧ (oneFree .stop).mode = .stop ∧ (oneFree .stop).replies.length < 16 ∧ (oneFree .config).ladder.loaded = false
      ∧ cued.mode = .run ∧ ((cued.room 0).ctx.state ≠ .off ∧ (cued.room 0).ctx.state ≠ .idle) := by decide

theorem witness_SetModeMovesTheChip :
    ready.replies.length < 16 ∧ ready.mode = .config ∧ ready.ladder.loaded = true
      ∧ (ready.room 1).params.roomEnable = true ∧ (ready.panel 3).enabled = true
      ∧ (∀ k, k < 3 → (ready.panel k).enabled = false)
      ∧ (∀ e, (State.reset.panel e).enabled = false)
      ∧ (roomIn .idle).mode = .run ∧ (∀ r, ((roomIn .idle).room r).ctx.state = .off ∨ ((roomIn .idle).room r).ctx.state = .idle)
      ∧ ((roomIn .idle).room 0).ctx.state = .idle ∧ (∀ r, ((roomIn .idle).room r).port.calibration = none)
      ∧ (((after (.setMode 1 0) shelves).room 0).bank 1).state = .clearing
      ∧ ((after (.setMode 1 0) shelves).room 0).requests = [] := by decide

/-- Room 0 holds a WAITING entry, and a CANCELLING one in the cancel queue. -/
def cancelling : State :=
  { listed [{ entry .waiting none with ticket := 6 }, entry .cancelling none] with cancelQueue := [⟨0, 5⟩] }

theorem witness_CellsAreSentByTheirClass :
    (repliesFull .stop).replies = ⟨0, 0, 0, .ok, []⟩ :: List.replicate 15 ⟨0, 0, 0, .ok, []⟩
      ∧ (inMode .stop).replies = [] ∧ (inMode .stop).mode = .stop
      ∧ State.reset.cancelQueue = [] ∧ (∀ r, (State.reset.room r).requests = []) ∧ State.reset.reports = []
      ∧ State.reset.upstream = none ∧ (after .cellSent (repliesFull .run)).upstream ≠ none
      ∧ cancelling.replies = [] ∧ cancelling.mode ≠ .stop ∧ cancelling.cancelQueue = [⟨0, 5⟩]
      ∧ (forwarding .roomRank).cancelQueue = [] ∧ (forwarding .roomRank).chip.requestOrder = .roomRank
      ∧ ((forwarding .roomRank).room 0).requests.find? (fun x => x.state == .waiting)
          = some { entry .waiting none with ticket := 4, issue := 42 }
      ∧ (forwarding .arrival).chip.requestOrder = .arrival
      ∧ ((forwarding .arrival).room 2).requests.find? (fun x => x.state == .waiting)
          = some { entry .waiting none with ticket := 11 }
      ∧ (∀ k, k ≠ 2 → (((forwarding .arrival).room k).requests.find? fun x => x.state == .waiting).all
          (fun x => (40 : IssueNumber) ≠ x.issue ∧ (x.issue - 40).toNat < 2147483648) = true)
      ∧ ((0 : IssueNumber) - 4294967295).toNat < 2147483648 := by decide

/-- Reports wait in the queue and in a stack: of room 0, of room 3 with a SONG_END, of the chip; `last` was served last. -/
def stacked (last : Owner) (b : Bool) : State :=
  let s : State := { State.reset with
    mode := .run, reports := [mark1], lastServed := last
    chipStack := State.reset.chipStack.set 5 (some ⟨.panelState 5 9 0 true, 3, 2⟩) }
  if b then s.updRoom 3 fun rm => { rm.setState .ending with
    stack := { songEnd := some ⟨.songEnd (({} : Room).songEnd 3 .stopped), 0, 0⟩ } } else s

theorem witness_FreedPlacesGoToTheStacks :
    (stacked .chip true).replies = [] ∧ (stacked .chip true).mode ≠ .stop ∧ (stacked .chip true).cancelQueue = []
      ∧ (∀ r, ((stacked .chip true).room r).requests = []) ∧ (stacked .chip true).reports = [mark1]
      ∧ (∀ r : RoomId, r < 3 → (stacked .chip true).stackEmpty (.room r) = true)
      ∧ ((stacked .chip true).room 3).stack.takeFirst
          = some (⟨.songEnd (({} : Room).songEnd 3 .stopped), 0, 0⟩, {}) ∧ ((stacked .chip true).room 3).ctx.state = .ending
      ∧ (∀ r : RoomId, (stacked (.room 3) false).stackEmpty (.room r) = true)
      ∧ (stacked (.room 3) false).chipStack.get 5 = some ⟨.panelState 5 9 0 true, 3, 2⟩
      ∧ (∀ k, k < 5 → (stacked (.room 3) false).chipStack.get k = none)
      ∧ (∀ r : RoomId, (inMode .run).stackEmpty (.room r) = true) ∧ (inMode .run).stackEmpty .chip = true
      ∧ (let s (cue : Option BankId) := (roomIn .ending).updRoom 0 fun rm => { rm with
            ctx := { rm.ctx with currentBank := some 0, cuedBank := cue }, latch := some (latch5 0 1280) }
        ((leaveEnding 0 (s none)).room 0).ctx.state = .idle ∧ ((leaveEnding 0 (s none)).room 0).latch = none
          ∧ ((leaveEnding 0 (s (some 0))).room 0).ctx.state = .cued
          ∧ ((leaveEnding 0 (s (some 0))).room 0).latch = some (latch5 0 1280)) := by decide

/-! The laws: a state in RUN mode, with room 0 PLAYING, a request list, and a poll in flight, that steps. -/

/-- Room 0 plays the song of ticket 5, a QUEUE_MARK of room 1 waits behind a full report queue, and panel 2 is polled. -/
def busy : State :=
  { ((playing bank1450 fun c => { c with currentTicket := some 5 }).updRoom 0 fun rm => { rm with
      requests := [entry .playing none], ticketCounter := 5 }).updRoom 1 (fun rm => { rm with
        stack := { queueMark := some mark1 } })
    |>.updPanel 2 fun _ => setEntry true 9 0 with
    nextEntry := 2, polling := some ⟨9, 4, none⟩, pending := [.pause 0 1]
    reports := List.replicate 16 mark1, upstream := some (.reply ⟨0, 0, 0, .ok, []⟩) }

theorem busy_steps : ∃ t, step busy = .next t := ⟨_, rfl⟩

theorem witness_StepKeepsTheCapacities : busy.CapacityLaw ∧ ∃ t, step busy = .next t := by
  exact ⟨⟨by decide, by decide, by decide, by decide, by decide, by decide, fun _ _ => by decide⟩, busy_steps⟩

theorem bank1450_lawful : bank1450.Lawful := by
  refine ⟨by decide, by decide, by decide, by decide, by decide, by decide, rfl, rfl, by decide, by decide, ?_⟩
  intro k l h
  match k with
  | 0 | 1 => cases h; decide
  | n + 2 => simp [bank1450] at h

theorem witness_StepKeepsTheRoomLaw : busy.RoomLaw ∧ ∃ t, step busy = .next t := by
  have ha : ∀ r : RoomId, (busy.room r).mic1.assembler = {} ∧ (busy.room r).mic2.assembler = {} := by decide
  have law : ∀ singing, Assembler.Lawful {} singing := fun _ => ⟨nofun, fun _ => rfl, by decide⟩
  have h1 : ∀ r : RoomId, busy.mode ≠ .run → (busy.room r).ctx.state = .off := by decide
  have h2 : ∀ r : RoomId, (busy.room r).port.calibration.isSome = true ↔ (busy.room r).ctx.state = .calibrating := by decide
  have h3 : ∀ r : RoomId, (busy.room r).stack.songEnd.isSome = true ↔ (busy.room r).ctx.state = .ending := by decide
  have h4 : ∀ r : RoomId, (busy.room r).ctx.state.quiet = true →
      (busy.room r).port.queue = [] ∧ (busy.room r).port.pendingEnd = false := by decide
  have h5 : ∀ r : RoomId, (busy.room r).ctx.currentBank.isSome = true ↔
      ((busy.room r).ctx.singing = true ∨ (busy.room r).ctx.state = .ending) := by decide
  have h6 : ∀ r : RoomId, (busy.room r).ctx.state ≠ .cued ∧ (busy.room r).ctx.cuedBank = none
      ∧ (busy.room r).ctx.cuedTicket = none := by decide
  have h7 : ∀ r : RoomId, (busy.room r).ctx.currentTicket.isSome = true → (busy.room r).ctx.singing = true := by decide
  have h8 : ∀ r : RoomId, ∀ b, (busy.room r).ctx.currentBank = some b → ((busy.room r).bank b).loaded = true := by decide
  have h9 : ∀ r : RoomId, (busy.room r).stack = if r = 1 then { queueMark := some mark1 } else {} := by decide
  have h10 : ∀ r : RoomId, (busy.room r).stack.Lawful r := by
    intro r
    rw [h9 r]
    split
    · next h => subst h; constructor <;> intro x hx <;> cases hx; exact ⟨_, _, rfl⟩
    · constructor <;> intro x hx <;> cases hx
  have h11 : ∀ r : RoomId, ∀ b, (busy.room r).bank b = if r = 0 ∧ b = 0 then bank1450 else {} := by decide
  have h12 : ∀ r : RoomId, ∀ b, ((busy.room r).bank b).Lawful := by
    intro r b
    rw [h11 r b]
    split
    · exact bank1450_lawful
    · exact emptyBank_lawful
  have h13 : ∀ r : RoomId, ∀ b, (busy.room r).ctx.singing = true → (busy.room r).ctx.currentBank = some b →
      (busy.room r).ctx.lyric.current < ((busy.room r).bank b).lines.length := by decide
  have h14 : ∀ r : RoomId, ∀ b m, (busy.room r).ctx.singing = true → (busy.room r).ctx.currentBank = some b →
      ((busy.room r).mic m).lane.cursorA ≤ ((busy.room r).bank b).guide.length
        ∧ ((busy.room r).mic m).lane.cursorB ≤ ((busy.room r).bank b).guide.length := by decide
  refine ⟨fun r => ⟨⟨h1 r, h2 r, h3 r, h4 r, h5 r, fun h => absurd h (h6 r).1, fun _ => (h6 r).2.1, h7 r, ?_, ?_, ?_,
    fun b _ => h8 r b, h12 r, ?_, h13 r, h14 r, (ha r).1 ▸ law _, (ha r).2 ▸ law _⟩, h10 r⟩, busy_steps⟩ <;> simp [h6 r]

theorem witness_StepKeepsTheScoreLaw : busy.ScoreLaw ∧ ∃ t, step busy = .next t := by
  have h : ∀ (r : RoomId) (m : MicId), ((busy.room r).mic m).lane = {} := by decide
  have law : Accumulators.Lawful {} := ⟨rfl, by decide, by decide, by decide⟩
  refine ⟨fun r m => ?_, busy_steps⟩
  rw [h r m]
  exact ⟨law, law⟩

theorem witness_StepKeepsTheRequestLaw : busy.RoomLaw ∧ busy.RequestLaw ∧ ∃ t, step busy = .next t := by
  refine ⟨witness_StepKeepsTheRoomLaw.1, ⟨fun r => ?_, by decide, by decide⟩, busy_steps⟩
  have h0 : ∀ r : RoomId, (busy.room r).ctx.cuedTicket = none ∧ (busy.room r).ticketCounter ≤ 255
      ∧ (busy.room r).requests.length ≤ 12 ∧ ((busy.room r).requests.map Entry.ticket).Nodup
      ∧ (∀ e ∈ (busy.room r).requests, 1 ≤ e.ticket ∧ e.ticket ≤ 255)
      ∧ (∀ e ∈ (busy.room r).requests, e.state ≠ .cued)
      ∧ (∀ e ∈ (busy.room r).requests,
          e.state = .playing ↔ ((busy.room r).ctx.currentTicket = some e.ticket ∧ (busy.room r).ctx.singing = true)) := by
    decide
  have h1 : ∀ r : RoomId, (busy.room r).ctx.currentTicket = none ∨ (busy.room r).ctx.currentTicket = some 5
      ∧ (busy.room r).ctx.singing = true ∧ ∃ e ∈ (busy.room r).requests, e.ticket = 5 := by decide
  obtain ⟨c, n, l, d, g, q, p⟩ := h0 r
  refine ⟨n, l, g, d, fun e he => by simp [q e he, c], p, by simp [c], fun t ht => ?_⟩
  rcases h1 r with h | ⟨h, hs, he⟩
  · rw [h] at ht; cases ht
  · rw [h] at ht; cases ht; exact ⟨hs, he⟩

theorem witness_StepKeepsTheTableLaw : busy.TableLaw ∧ ∃ t, step busy = .next t := by
  have h : ∀ e, (busy.panel e).missCount ≤ 3 ∧ ((busy.panel e).present = true → (busy.panel e).missCount < 3)
      ∧ (busy.panel e).outbox.length ≤ 4 ∧ ((busy.panel e).enabled = false → (busy.panel e).outbox = [])
      ∧ ((busy.panel e).enabled = true → 1 ≤ (busy.panel e).address ∧ (busy.panel e).address ≤ 31) := by decide
  have hi : ∀ k : SlotId, busy.slotIn.get k = none ∧ busy.slotOut.get k = none := by decide
  refine ⟨⟨pinResetFont_lawful, fun e => ⟨(h e).1, (h e).2.1, (h e).2.2.1, (h e).2.2.2.1, (h e).2.2.2.2⟩, by decide,
    ?_, ?_, ?_⟩, busy_steps⟩
  · intro p hp
    cases hp
    decide
  · intro i k t ht
    rw [(hi i).1] at ht
    cases ht
  · intro i k t ht
    rw [(hi i).2] at ht
    cases ht

theorem witness_StepLeavesNoCellBesideAnIdleLink :
    let idle : State := { busy with reports := [], upstream := none }
    idle.LinkLaw ∧ idle.upstream = none ∧ ∃ t, step idle = .next t :=
  ⟨fun _ => ⟨by decide, fun _ => ⟨by decide, by decide, by decide⟩⟩, by decide, ⟨_, rfl⟩⟩

/-- Room 0 draws line 0 of its bank, at clock 300, in a band of the columns 0 and 1 and the rows 840 to 887. -/
def drawing : State :=
  { (playing closedBank fun c => { c with position := 64 * 300 }).updRoom 0 fun rm => { rm with
      latch := some { latch5 300 2 with
        bandX := 0, lineFrontier := 1, current := 0, pitch := 24, height := 16, glyphCount := 1 } } with
    font := { glyphs := [⟨65, 1, 2, List.replicate 16 15⟩], lastCode := some 65, coverageUsed := 16 } }

theorem witness_VideoLinesPassOutsideTheBand :
    (inMode .run).mode ≠ .stop ∧ 1079 < 1080 ∧ 1920 < (List.replicate 1921 (⟨1, 2, 3⟩ : Rgb)).length
      ∧ (List.replicate 1920 (⟨1, 2, 3⟩ : Rgb)).length ≤ 1920 ∧ (inMode .config).mode = .config
      ∧ ((inMode .run).room 0).latch = none
      ∧ ((playing closedBank id).room 0).frameLatch .run {} ≠ ((inMode .run).room 0).frameLatch .run {}
      ∧ (((playing closedBank id).room 0).frameLatch .run {}).bank = some 0
      ∧ (((playing closedBank id).room 0).frameLatch .run {}).bandX = 320
      ∧ (((playing closedBank id).room 0).frameLatch .run {}).bandY + 2 * 24 = 888
      ∧ (let passes (line : Nat) (s : State) : Bool :=
          ((after (.video 0 line false [⟨1, 2, 3⟩]) s).room 0).videoOut == some ⟨line, false, [⟨1, 2, 3⟩]⟩
        let changed (f : FrameLatch → FrameLatch) (b : BankState) : State := drawing.updRoom 0 fun rm =>
          { rm with latch := rm.latch.map f, bank0 := { rm.bank0 with state := b } }
        passes 840 drawing = false ∧ passes 839 drawing = true ∧ passes 888 drawing = true
          ∧ passes 840 (changed (fun l => { l with bank := none }) .closed) = true
          ∧ passes 840 (changed (fun l => { l with bandOff := true }) .closed) = true
          ∧ passes 840 (changed id .clearing) = true ∧ passes 840 (changed id .empty) = true) := by
  refine ⟨by decide, by decide, by simp, by simp, by decide⟩

theorem witness_FrameStartTakesTheLatch :
    (List.replicate 1920 (⟨1, 2, 3⟩ : Rgb)).length ≤ 1920 ∧ (playing closedBank id).mode = .run
      ∧ ((playing closedBank id).room 0).ctx.singing = true ∧ ((playing closedBank id).room 0).ctx.currentBank = some 0
      ∧ cued.mode = .run ∧ (cued.room 0).ctx.state = .cued ∧ (cued.room 0).ctx.cuedBank = some 0
      ∧ (inMode .config).mode = .config ∧ ((roomIn .ending).room 0).ctx.state = .ending := by
  refine ⟨by simp, by decide⟩

theorem witness_LyricLinesAreDrawn :
    let l := latch5 300 2
    let t := after (.video 0 855 false [⟨1, 2, 3⟩, ⟨4, 5, 6⟩]) drawing
    drawing.mode = .run ∧ ((drawing.room 0).bank 0).state = .closed ∧ l.bandOff = false ∧ 24 = 16 + l.rowGap
      ∧ l.bandY ≤ 855 ∧ 855 < l.bandY + l.rows * 24 ∧ (840 : Int) + ((0 : Nat) - (0 : Nat)) * 24 + l.residual ≤ 855
      ∧ (((drawing.room 0).bank 0).lines[0]?).isSome = true
      ∧ (t.room 0).videoOut = some ⟨855, false, [⟨0, 128, 255⟩, ⟨4, 5, 6⟩]⟩
      ∧ (t.room 0).latch.map FrameLatch.laidOut = some [0] ∧ (t.room 0).overlay.missingGlyph = 0
      ∧ ((after (.video 0 856 false [⟨1, 2, 3⟩]) drawing).room 0).videoOut = some ⟨856, false, [⟨1, 2, 3⟩]⟩
      ∧ (let missing := after (.video 0 840 false [⟨1, 2, 3⟩]) { drawing with font := {} }
        (missing.room 0).overlay.missingGlyph = 1 ∧ (missing.room 0).overlay.overflowLines = 1) := by decide

theorem witness_LyricLinesAreLaidOut :
    line5 = [⟨3000, 90, [72, 65], true⟩] ++ ⟨3090, 120, [66, 67, 70], false⟩ :: [] ∧ [66, 67, 70] = [66, 67] ++ 70 :: []
      ∧ lineWidth (latch5 3040 1280) font5 line5 = 134 ∧ 134 ≤ (latch5 3040 1280).bandW ∧ (latch5 3040 120).bandW < 134
      ∧ (latch5 3040 120).lineOverflow = .clip
      ∧ drawnGlyphs { latch5 3040 120 with lineOverflow := .drop } font5 line5 = []
      ∧ (drawnGlyphs (latch5 3040 120) font5 line5).length = 4 := by decide

/-- R87: coverage 0 keeps the background, coverage 15 gives the foreground, and no channel wraps. -/
theorem witness_BlendFillAndResidual :
    blend 15 ⟨255, 255, 0⟩ ⟨0, 255, 255⟩ = ⟨255, 255, 0⟩ ∧ blend 0 ⟨255, 255, 0⟩ ⟨0, 255, 255⟩ = ⟨0, 255, 255⟩
      ∧ blend 7 ⟨255, 255, 255⟩ ⟨255, 255, 255⟩ = ⟨255, 255, 255⟩
      ∧ (latch5 3040 1280).cls = .overlay ∧ (latch5 3040 1280).clock = 3040
      ∧ fillOf (latch5 3040 1280) 3041 90 50 = 0 ∧ fillOf (latch5 3040 1280) 3040 90 50 = 0
      ∧ fillOf (latch5 3040 1280) 2951 90 50 = 49 ∧ fillOf (latch5 3040 1280) 2950 90 50 = 50
      ∧ fillOf { latch5 3040 1280 with cls := .preview } 2950 90 50 = 0
      ∧ residualOf 48 3000 3000 60 = 48 ∧ residualOf 48 3059 3000 60 = 1 ∧ residualOf 48 3060 3000 60 = 0
      ∧ residualOf 48 3000 3000 0 = 0 := by decide

theorem witness_RaisedReportsEnterOrStack :
    let full : State := { State.reset with reports := List.replicate 16 mark1 }
    let last : State := { State.reset with reports := List.replicate 15 mark1 }
    let kept : State := (full.updRoom 1 fun rm => { rm with stack := { queueMark := some { mark1 with lost := 65535 } } })
    last.reports.length < 16 ∧ last.stackEmpty (.room 1) = true ∧ last.stackEmpty .chip = true
      ∧ 16 ≤ full.reports.length ∧ (full.room 1).stack.lineScore = none
      ∧ (kept.room 1).stack.queueMark = some { mark1 with lost := 65535 }
      ∧ kept.stackEmpty (ReportBody.queueMark 1 .low 0).owner = false
      ∧ (ReportBody.panelState 7 9 1 true).owner = .chip ∧ full.chipStack.get 7 = none
      ∧ (full.room 3).stack.bankFree = none ∧ (ReportBody.calDone 3 .ok 1 1 true 0).owner = .room 3
      ∧ (let free : State := full.updRoom 3 fun rm => { rm with stack := { bankFree := some ⟨.bankFree 3 true false, 7, 0⟩ } }
        let t := raise (.bankFree 3 false true) free
        (t.room 3).stack.bankFree = some ⟨.bankFree 3 true true, 7, 0⟩ ∧ t.link.reportsStacked.get 3 = 1
          ∧ t.link.reportsReplaced.get 3 = 0)
      ∧ (raise (.queueMark 1 .high 9) kept).link.reportsReplaced.get 1 = 1 := by decide

theorem witness_MarkTestRaisesOnce :
    ((roomIn .idle).room 0).ctx.state = .idle
      ∧ (cued.room 0).ctx.state = .cued ∧ (cued.room 0).port.queue.length < (cued.room 0).params.lowMark
      ∧ (cued.room 0).port.markState = .none
      ∧ (let s := (audible [sample false, sample false] false).updRoom 0 fun rm =>
          { rm with params := { rm.params with lowMark := 1, highMark := 1 } }
        (s.room 0).ctx.state = .playing ∧ ¬ (s.room 0).port.queue.length < (s.room 0).params.lowMark
          ∧ (s.room 0).params.highMark < (s.room 0).port.queue.length ∧ (s.room 0).port.markState ≠ .high)
      ∧ (let s := (audible [sample false] false).updRoom 0 fun rm =>
          { rm with params := { rm.params with lowMark := 1, highMark := 1 } }
        ¬ (s.room 0).port.queue.length < (s.room 0).params.lowMark
          ∧ ¬ (s.room 0).params.highMark < (s.room 0).port.queue.length) := by decide

/-- Room 0 discards its audio. -/
def draining (st : RoomState) : State := (roomIn st).updRoom 0 fun rm => rm.updCtx fun c => { c with draining := true }

theorem witness_AudioCellsAreQueued :
    256 < (List.replicate 257 (⟨1, 2⟩ : Stereo)).length ∧ (List.replicate 256 (⟨1, 2⟩ : Stereo)).length ≤ 256
      ∧ (draining .idle).mode ≠ .stop ∧ ((draining .idle).room 0).ctx.draining = true
      ∧ ((roomIn .calibrating).room 0).ctx.draining = false ∧ ((roomIn .calibrating).room 0).ctx.state = .calibrating
      ∧ ((playing closedBank id).room 0).ctx.draining = false ∧ ((playing closedBank id).room 0).ctx.state = .playing
      ∧ ((playing closedBank id).room 0).port.queue = []
      ∧ ([⟨1, 2⟩, ⟨3, 4⟩] : List Stereo).take (8192 - 0) = [⟨1, 2⟩] ++ [⟨3, 4⟩] := by
  refine ⟨by simp, by simp, by decide⟩

theorem witness_BankOpenChecksAndOpens :
    State.reset.takes ∧ ((State.reset.room 0).bank 1).state = .empty
      ∧ ((cued.room 0).bank 0).state = .closed ∧ cued.takes
      ∧ (after (.bankOpen 0 1 1 7 512 8192 4096) State.reset).replies.map Reply.code = [.ok]
      ∧ (after (.bankOpen 0 1 1 7 513 8192 4096) State.reset).replies.map Reply.code = [.range]
      ∧ (after (.bankOpen 0 1 2 7 512 8192 4096) State.reset).replies.map Reply.code = [.range]
      ∧ (after (.bankOpen 0 1 0 7 512 8192 4096) cued).replies.map Reply.code = [.notEmpty] := by decide

/-- Room 0 with a FILLING bank 1 of one declared line, syllable and note, its syllable loaded. -/
def filling : State := (inMode .config).updRoom 0 fun rm => { rm with
  bank0 := closedBank
  bank1 :=
    { state := .filling, declaredLines := 1, declaredSyllables := 1, declaredNotes := 1,
      syllables := [⟨100, 100, [65], false⟩], lastSyllableStart := some 100 } }

theorem witness_AppendsAreTakenWholeOrRefused :
    filling.takes ∧ ((filling.room 0).bank 0).state ≠ .filling ∧ ((filling.room 0).bank 1).state = .filling
      ∧ 1 ≠ ((filling.room 0).bank 1).lines.length
      ∧ ((filling.room 0).bank 1).declaredLines < ((filling.room 0).bank 1).lines.length + [(), ()].length
      ∧ takeLine ((filling.room 0).bank 1) ⟨0, 2, 0, true⟩ = none
      ∧ (([⟨0, 1, 0, true⟩] : List LineRec).foldlM takeLine ((filling.room 0).bank 1)).isSome = true
      ∧ (([⟨100, 1, 84, 2⟩] : List GuideRec).foldlM takeGuide ((filling.room 0).bank 1)).isSome = true
      ∧ (([⟨100, 1, 8, true, [1, 2, 3, 4, 5, 6, 7, 8]⟩] : List SyllableRec).foldlM takeSyllable
          ((filling.room 0).bank 1)).isSome = true := by decide

theorem witness_BankRecordChecks :
    (takeSyllable ((filling.room 0).bank 1) ⟨100, 1, 8, true, [1, 2, 3, 4, 5, 6, 7, 8]⟩).isSome = true
      ∧ takeSyllable ((filling.room 0).bank 1) ⟨99, 1, 1, true, [1, 2, 3, 4, 5, 6, 7, 8]⟩ = none
      ∧ takeSyllable {} ⟨0, 1, 9, true, [1, 2, 3, 4, 5, 6, 7, 8]⟩ = none
      ∧ (takeLine ((filling.room 0).bank 1) ⟨0, 1, 2, true⟩).isSome = true
      ∧ takeLine ((filling.room 0).bank 1) ⟨0, 1, 3, true⟩ = none
      ∧ takeLine ((filling.room 0).bank 1) ⟨0, 1, 2, false⟩ = none
      ∧ (takeGuide { lastGuideStart := some 5, lastEndA := 9, lastEndB := 5 } ⟨5, 1, 43, 1⟩).isSome = true
      ∧ takeGuide { lastGuideStart := some 5, lastEndA := 9, lastEndB := 5 } ⟨5, 1, 43, 2⟩ = none
      ∧ takeGuide { lastGuideStart := some 5, lastEndA := 9, lastEndB := 5 } ⟨5, 1, 85, 1⟩ = none := by decide

theorem witness_BankCloseAndClear :
    cued.takes ∧ (cued.room 0).ctx.cuedBank = some 0 ∧ (cued.room 0).ctx.state = .cued
      ∧ (cued.room 0).ctx.currentBank = none ∧ ((cued.room 0).bank 0).state = .closed
      ∧ ((cued.room 0).bank 1).state = .empty
      ∧ (playing closedBank id).takes ∧ ((playing closedBank id).room 0).ctx.currentBank = some 0
      ∧ ((playing closedBank id).room 0).ctx.singing = true
      ∧ filling.takes ∧ (filling.room 0).ctx.cuedBank ≠ some 1 ∧ ((filling.room 0).bank 1).state = .filling
      ∧ (let s := (playing closedBank id).updRoom 0 fun rm =>
          { rm with bank1 := closedBank, ctx := { rm.ctx with cuedBank := some 1 } }
        s.takes ∧ (s.room 0).ctx.cuedBank = some 1 ∧ (s.room 0).ctx.state ≠ .cued)
      ∧ (let latched (b : BankId) (s : State) := s.updRoom 0 fun rm => { rm with latch := some { latch5 0 1280 with bank := some b } }
        ((after (.bankClear 0 1 0) (latched 0 cued)).room 0).latch = none
          ∧ ((after (.bankClear 0 1 1) (latched 1 filling)).room 0).latch
              = some { latch5 0 1280 with bank := some 1, bandOff := true }
          ∧ ((after (.bankClear 0 1 1) (latched 0 filling)).room 0).latch = some (latch5 0 1280)) := by decide

theorem witness_FontClearAndTheClearings :
    let s := (inMode .run).updRoom 3 fun rm => { rm with bank1 := { state := .clearing, songId := 9 } }
    let f : State := { State.reset with font := { clearing := true } }
    s.mode ≠ .stop ∧ ((s.room 3).bank 1).state = .clearing ∧ ((s.room 3).bank 0).state ≠ .clearing
      ∧ f.mode ≠ .stop ∧ f.font.clearing = true ∧ State.reset.font.clearing = false ∧ (inMode .stop).mode = .stop
      ∧ State.reset.takes
      ∧ (after (.fontClear 1 64 80 80) State.reset).replies.map Reply.code = [.ok]
      ∧ (after (.fontClear 1 16 81 80) State.reset).replies.map Reply.code = [.range]
      ∧ (after (.fontClear 1 16 8 8) (inMode .run)).replies.map Reply.code = [.wrongMode]
      ∧ (run (.bankClearingComplete 3 1) s).upstream = some (.report ⟨.bankFree 3 false true, 0, 0⟩) := by decide

/-- Four bytes and 8 coverage values make a glyph of width 1 at height 16. -/
def glyphBytes : List Byte := [0, 65, 1, 80, 1, 35, 69, 103, 137, 171, 205, 239]

theorem witness_FontAppendsAreTakenWholeOrRefused :
    State.reset.takes ∧ State.reset.font.clearing = false
      ∧ readGlyphs 16 1 glyphBytes = some [⟨65, 1, 80, [0, 1, 2, 3, 4, 5, 6, 7, 8, 9, 10, 11, 12, 13, 14, 15]⟩]
      ∧ readGlyphs 16 2 glyphBytes = none ∧ readGlyphs 16 1 (glyphBytes ++ [0]) = none
      ∧ State.reset.font.glyphs.length = 0 ∧ 1 ≠ State.reset.font.glyphs.length
      ∧ (after (.appendFont 1 (some 0) (some 1) glyphBytes) State.reset).replies.map Reply.data = [[0, 1, 0, 0, 16]]
      ∧ (after (.appendFont 1 (some 0) (some 2) (glyphBytes ++ glyphBytes)) State.reset).replies.map (fun x => (x.code, x.data))
          = [(.sequence, [0, 0, 0, 0, 0, 0, 1])]
      ∧ 4096 < (List.replicate 4096 (⟨1, 1, 1, []⟩ : Glyph)).length + 1 := by
  refine ⟨by decide, by decide, by decide, by decide, by decide, by decide, by decide, by decide, by decide, by simp⟩

theorem witness_GlyphRecordChecks :
    takeGlyph { lastCode := some 65 } ⟨65, 1, 1, []⟩ = .error .sequence ∧ takeGlyph {} ⟨0, 1, 1, []⟩ = .error .sequence
      ∧ takeGlyph {} ⟨1, 65, 1, []⟩ = .error .range ∧ takeGlyph {} ⟨1, 64, 81, []⟩ = .error .range
      ∧ takeGlyph { coverageUsed := 2097151 } ⟨1, 1, 1, []⟩ = .error .capacity
      ∧ takeGlyph { coverageUsed := 2097136 } ⟨1, 1, 1, []⟩
          = .ok { glyphs := [⟨1, 1, 1, []⟩], lastCode := some 1, coverageUsed := 2097152 }
      ∧ (let g : Glyph := ⟨65, 1, 80, [0, 1, 2, 3, 4, 5, 6, 7, 8, 9, 10, 11, 12, 13, 14, 15, 9]⟩
        g.bytes 7 = [0, 65, 1, 80, 1, 35, 69, 103, 137, 171, 205, 239, 151] ∧ readGlyphs 17 1 (g.bytes 7) = some [g])
      ∧ (([⟨1, 1, 1, []⟩, ⟨2, 1, 1, []⟩] : List Glyph).foldlM takeGlyph {}).isOk = true := by decide

/-- 43 falling boundaries. -/
def falling : List Nat := (List.range 43).map fun k => 13438 - 300 * k

theorem witness_LadderAppends :
    State.reset.takes ∧ State.reset.mode = .config ∧ (inMode .run).takes ∧ (inMode .run).mode ≠ .config
      ∧ (inMode .stop).mode = .stop ∧ falling.length = 43
      ∧ (∀ k, k ≤ 41 → falling.getD (k + 1) 0 < falling.getD k 0)
      ∧ (let bad := falling.take 42 ++ [falling.getD 41 0]
        bad.length = 43 ∧ bad.getD 41 0 ≤ bad.getD 42 0 ∧ ∀ j, j < 41 → bad.getD (j + 1) 0 < bad.getD j 0) := by decide

theorem witness_SlotMapSetsOneEntry :
    State.reset.takes ∧ State.reset.mode = .config ∧ (inMode .run).takes ∧ (inMode .run).mode ≠ .config
      ∧ (calibrating 0).slotIn.get 4 = some ⟨0, 0⟩ ∧ (4 : SlotId) ≠ 7
      ∧ (∀ j, State.reset.slotIn.get j ≠ some ⟨3, 1⟩) ∧ (∀ j, State.reset.slotOut.get j ≠ some ⟨3, .right⟩)
      ∧ (let s := { calibrating 0 with mode := .config }
        s.takes ∧ (s.slotOut.get 1 = some ⟨0, .right⟩) ∧ (1 : SlotId) ≠ 0) := by decide

theorem witness_PollEntrySetsOneEntry :
    let s : State := { listed [] with mode := .config }
    s.takes ∧ s.mode = .config ∧ (listed []).takes ∧ (listed []).mode ≠ .config
      ∧ (s.panel 2).enabled = true ∧ (s.panel 2).address = 9 ∧ (2 : PanelId) ≠ 7
      ∧ (∀ k, k ≠ 7 → (s.panel k).enabled = true → (s.panel k).address ≠ 31)
      ∧ [0, 1, 2, 255].map (fun n => (after (.pollEntry 1 7 n 31 3) s).replies.map Reply.code)
          = [[.ok], [.ok], [.range], [.range]]
      ∧ (after (.pollEntry 1 7 2 31 3) (listed [])).replies.map Reply.code = [.wrongMode] := by decide

theorem witness_ParametersAreChecked :
    State.reset.takes ∧ State.reset.mode = .config ∧ (inMode .run).takes ∧ (inMode .run).mode ≠ .config
      ∧ (after (.chipParam 1 .replyTimeout 60) State.reset).chip.replyTimeout = 60
      ∧ (after (.chipParam 1 .replyTimeout 61) State.reset).chip.replyTimeout = 5
      ∧ (after (.roomParam 0 1 (.band 1856 64)) State.reset).replies.map Reply.code = [.ok]
      ∧ (after (.roomParam 0 1 (.band 1857 64)) State.reset).replies.map Reply.code = [.range]
      ∧ (after (.roomParam 0 1 (.marks 8191 8192)) State.reset).replies.map Reply.code = [.ok]
      ∧ (after (.roomParam 0 1 (.marks 8192 8192)) State.reset).replies.map Reply.code = [.range]
      ∧ (after (.roomParam 0 1 (.micAssign 2 3)) State.reset).replies.map Reply.code = [.ok]
      ∧ (after (.roomParam 0 1 (.micAssign 3 3)) State.reset).replies.map Reply.code = [.range] := by decide

/-- READ of the bank of chapter 2's example, and of a request list, as records of bytes. -/
theorem witness_ReadsAnswerTheRecords :
    cued.takes ∧ (after (.readBank 0 1 0) cued).replies.map Reply.data
        = [[2, 0, 0, 0, 7, 0, 1, 0, 1, 0, 0, 0, 1, 0, 1, 0, 0, 0, 0, 0, 0, 0, 0, 0, 0, 0, 0, 0, 0, 0, 0, 0, 0, 0, 1]]
      ∧ (after (.readBank 0 1 2) cued).replies.map Reply.code = [.range]
      ∧ (after (.readRequestList 0 1) (listed [entry .sent (some 9)])).replies.map Reply.data
        = [[5, 0, 0, 0, 40, 0, 4, 210, 2, 1, 2, 1, 0, 0, 0, 0, 0, 0, 0, 1, 0, 0, 0, 9, 0, 0]]
      ∧ (after (.readChip 1) (calibrating 0)).replies.map (fun x => (x.data.drop 25).take 32)
        = [[0, 0, 0, 0, 0, 0, 0, 0, 1, 0, 0, 0, 0, 0, 0, 0, 1, 0, 1, 4, 0, 0, 0, 0, 0, 0, 0, 0, 0, 0, 0, 0]] := by decide

theorem witness_CueIsChecked :
    State.reset.takes ∧ (State.reset.room 0).ctx.state = .off ∧ (calibrating 0).takes
      ∧ ((calibrating 0).room 0).ctx.state = .calibrating
      ∧ shelves.takes ∧ (shelves.room 0).ctx.state ≠ .off ∧ (shelves.room 0).ctx.state ≠ .calibrating
      ∧ ((roomIn .idle).room 0).ctx.currentBank ≠ some 0 ∧ ((roomIn .idle).room 0 |>.bank 0).state = .empty
      ∧ ((playing closedBank id).room 0).ctx.currentBank = some 0
      ∧ (shelves.room 0).requests.find? (fun e => e.ticket == 6) = some { entry .cancelling none with ticket := 6 }
      ∧ (shelves.room 0).requests.find? (fun e => e.ticket == 255) = none
      ∧ (shelves.room 0).requests.find? (fun e => e.ticket == 8) = some { entry .sent none with ticket := 8 }
      ∧ [(2, 0), (1, 0), (0, 6), (0, 255), (0, 8)].map (fun (b, t) => (after (.cue 0 1 b t) shelves).replies.map Reply.code)
          = [[.range], [.ok], [.cancelled], [.noTicket], [.noTicket]] := by decide

theorem witness_CueTakesEffect :
    shelves.takes ∧ (shelves.room 0).ctx.state = .idle ∧ (shelves.room 0).ctx.currentBank ≠ some 1
      ∧ ((shelves.room 0).bank 1).state = .filling ∧ 1 ≤ ((shelves.room 0).bank 1).lines.length
      ∧ (shelves.room 0).requests.find? (fun e => e.ticket == 5) = some (entry .accepted none)
      ∧ (let s := cued.updRoom 0 fun rm => { rm with
            bank1 := closedBank, requests := [entry .cued none], ctx := { rm.ctx with cuedTicket := some 5 }
            latch := some { latch5 0 1280 with bank := some 0 } }
        s.takes ∧ (s.room 0).ctx.state ≠ .off ∧ (s.room 0).ctx.state ≠ .calibrating ∧ (s.room 0).ctx.currentBank ≠ some 1
          ∧ (s.room 0).latch.bind FrameLatch.bank = some 0 ∧ ((after (.cue 0 1 1 5) s).room 0).latch = none) := by decide

theorem witness_StartBeginsTheSong :
    let s := cued.updRoom 0 fun rm => { rm with
      requests := [entry .cued none], ctx := { rm.ctx with cuedTicket := some 5 }
      params := { rm.params with compOffset := 188 }, port := { rm.port with delay := 611, delayValid := true } }
    s.takes ∧ (s.room 0).ctx.state = .cued
      ∧ (s.room 0).requests.find? (fun e => e.ticket == 5) = some (entry .cued none)
      ∧ ((after (.start 0 1) s).room 0).ctx.keyShift = 2 ∧ ((after (.start 0 1) s).room 0).ctx.comp = 188
      ∧ ((after (.start 0 1) s).room 0).ctx.compClamped = true
      ∧ cued.takes ∧ (cued.room 0).ctx.cuedTicket = none
      ∧ (calibrating 0).takes ∧ ((calibrating 0).room 0).ctx.state = .calibrating
      ∧ (roomIn .idle).takes ∧ ((roomIn .idle).room 0).ctx.state = .idle := by decide

theorem witness_PauseStopAndHalt :
    (playing closedBank id).takes ∧ ((playing closedBank id).room 0).ctx.state = .playing
      ∧ ((playing closedBank id).room 0).ctx.lyric.finished = false
      ∧ (let s := (playing closedBank fun c => { c with lyric := { c.lyric with finished := true } })
        s.takes ∧ (s.room 0).ctx.lyric.finished = true ∧ ((after (.haltAtLine 0 1) s).room 0).ctx.endReason = some .halted)
      ∧ (roomIn .held).takes ∧ ((roomIn .held).room 0).ctx.state = .held
      ∧ ((after (.resume 0 1) (roomIn .held)).room 0).ctx.state = .playing
      ∧ ((after (.pause 0 1) (playing closedBank id)).room 0).ctx.state = .held
      ∧ (calibrating 3).takes ∧ ((calibrating 3).room 0).ctx.state = .calibrating
      ∧ ((calibrating 3).room 0).port.calibration = some ⟨22, 8000, 8, 2000, 0, 3⟩
      ∧ cued.takes ∧ (cued.room 0).ctx.state = .cued
      ∧ ((after (.stop 0 1) (cued.updRoom 0 fun rm => { rm with latch := some (latch5 0 1280) })).room 0).latch = none
      ∧ (roomIn .ending).takes ∧ ((roomIn .ending).room 0).ctx.state = .ending := by decide

theorem witness_EndingASong :
    let s := (playing closedBank fun c => { c with currentTicket := some 5 }).updRoom 0 fun rm => { rm with
      requests := [entry .playing none], port := { rm.port with queue := [sample false, sample true, sample false] } }
    let almost : State := { s with reports := List.replicate 14 mark1 }
    let late : State := { s with reports := List.replicate 15 mark1 }
    (s.room 0).ctx.singing = true ∧ almost.reports.length ≤ 14 ∧ (almost.room 0).stack.isEmpty = true
      ∧ 15 ≤ late.reports.length ∧ (s.room 0).ctx.cuedBank = none ∧ ((s.room 0).bank 0).loaded = true
      ∧ (takeEnding 0 .stopped almost).reports.length = 16 ∧ ((takeEnding 0 .stopped almost).room 0).ctx.state = .idle
      ∧ ((takeEnding 0 .stopped late).room 0).ctx.state = .ending
      ∧ ((takeEnding 0 .stopped late).room 0).port.queue = [sample false]
      ∧ (s.room 0).port.queue = [sample false] ++ sample true :: [sample false]
      ∧ ((takeEnding 0 .complete late).room 0).port.queue = (s.room 0).port.queue
      ∧ ((audible [] true).room 0).port.pendingEnd = true ∧ ((audible [] true).room 0).ctx.singing = true
      ∧ ((audible [sample false] false).room 0).ctx.singing = true
      ∧ (∀ y ∈ ((audible [sample false] false).room 0).port.queue, y.endMark = false)
      ∧ (let t := takeEnding 0 .stopped (audible [sample false] false)
        (t.room 0).ctx.state = .idle ∧ (t.room 0).ctx.draining = true ∧ (t.room 0).port.audioDiscarded = 1)
      ∧ (let cuedNext (n : Nat) : State := { s.updRoom 0 fun rm => { rm with ctx := { rm.ctx with cuedBank := some 1 } } with
            reports := List.replicate n mark1 }
        ((cuedNext 13).room 0).ctx.cuedBank ≠ none ∧ (takeEnding 0 .stopped (cuedNext 13)).reports.length = 16
          ∧ ((takeEnding 0 .stopped (cuedNext 13)).room 0).port.markState = .low
          ∧ ((takeEnding 0 .stopped (cuedNext 14)).room 0).ctx.state = .cued
          ∧ (((takeEnding 0 .stopped (cuedNext 14)).room 0).stack.queueMark).isSome = true)
      ∧ (takeEnding 0 .stopped late).reports.length = 16 ∧ (late.room 0).stack.isEmpty = true
      ∧ (let full : State := { s.updRoom 0 fun rm => { rm with stack := { lineScore := some ⟨.lineScore
              (({} : Room).lineScore 0 3 false), 9, 65535⟩ } } with reports := List.replicate 16 mark1 }
        (full.room 0).stack.isEmpty = false
          ∧ ((takeEnding 0 .stopped full).room 0).stack.lineScore.map Report.lost = some 65535
          ∧ ((takeEnding 0 .stopped full).room 0).stack.songEnd.isSome = true)
      ∧ (let latched (s : State) := s.updRoom 0 fun rm => { rm with latch := some (latch5 0 1280) }
        ((takeEnding 0 .stopped (latched late)).room 0).latch = some { latch5 0 1280 with bandOff := true }
          ∧ ((takeEnding 0 .stopped (latched almost)).room 0).latch = none) := by decide

theorem witness_RoomResetReturnsTheRoom :
    (calibrating 3).takes ∧ ((calibrating 3).room 0).port.calibration = some ⟨22, 8000, 8, 2000, 0, 3⟩
      ∧ (calibrating 3).reports.length < 16 ∧ (calibrating 3).chip.clearReports = true
      ∧ (let full : State := { calibrating 3 with reports := List.replicate 16 mark1 }
        full.takes ∧ 16 ≤ full.reports.length ∧ ((after (.roomReset 0 1) full).room 0).stack.calDone.isSome = true)
      ∧ (playing closedBank id).takes ∧ ((playing closedBank id).room 0).port.calibration = none
      ∧ (let enabled := (playing closedBank id).updRoom 0 fun rm => { rm with params := { roomEnable := true } }
        enabled.takes ∧ ((after (.roomReset 0 1) enabled).room 0).ctx.state = .idle)
      ∧ (let counted := (playing closedBank id).updRoom 0 fun rm => { rm with
            requestCounters := { timeouts := 3 }, overlay := { frameStarts := 4 }
            mic1 := { assembler := { assembling := true, samples := [7], consumed := 1, dropped := 2 } } }
        let t := (after (.roomReset 0 1) counted).room 0
        t.requestCounters = { timeouts := 3 } ∧ t.overlay = { frameStarts := 4 }
          ∧ t.mic1.assembler = { dropped := 2 }) := by decide

theorem witness_CalibrationsRunAndEnd :
    (roomIn .idle).takes ∧ ((roomIn .idle).room 0).ctx.state = .idle ∧ ((roomIn .idle).room 0).stack.calDone = none
      ∧ (let s := (roomIn .idle).updRoom 0 fun rm =>
          { rm with stack := { calDone := some ⟨.calDone 0 .ok 1 1 true 0, 0, 0⟩ } }
        s.takes ∧ (s.room 0).stack.calDone ≠ none)
      ∧ ((calibrating 23999).room 0).ctx.state = .calibrating
      ∧ ((calibrating 23999).room 0).port.calibration = some ⟨22, 8000, 8, 2000, 0, 23999⟩
      ∧ (calibrating 23999).slotIn.get 4 = some ⟨0, 0⟩ ∧ (∀ j, j ≠ 4 → (calibrating 0).slotIn.get j ≠ some ⟨0, 0⟩)
      ∧ 2000 ≤ ((((Vector.replicate 8 0).set 4 (BitVec.ofInt 16 (-2000))) : Vector Sample 8).get 4).toInt.natAbs
      ∧ ((((Vector.replicate 8 0).set 4 1999) : Vector Sample 8).get 4).toInt.natAbs < 2000
      ∧ (let s : State := { calibrating 23998 with slotIn := Vector.replicate 8 none }
        (∀ j, s.slotIn.get j ≠ some ⟨0, 0⟩) ∧ (s.room 0).ctx.state = .calibrating)
      ∧ ((after (.calTimeout 0) (calibrating 23999)).room 0).ctx.state = .idle
      ∧ ((after (.calTimeout 0) (calibrating 23998)).room 0).ctx.state = .calibrating := by decide

theorem witness_RequestAnswersByEntryState :
    (∀ st ∈ [EntryState.waiting, .sent, .accepted, .cued, .playing, .cancelling],
      (listed [entry st none]).takes
        ∧ ((listed [entry st none]).room 0).requests.find? (fun e => e.ticket == 5) = some (entry st none))
      ∧ ((listed [entry .sent none]).room 0).requests.find? (fun e => e.ticket == 6) = none
      ∧ [253, 254].map (fun n => (after (.reqRefuse 0 1 5 n) (listed [entry .sent none])).replies.map Reply.code)
          = [[.ok], [.range]]
      ∧ [EntryState.waiting, .sent, .accepted, .cued, .playing, .cancelling].map
          (fun st => (after (.reqAccept 0 1 5 9) (listed [entry st none])).replies.map Reply.code)
          = [[.wrongState], [.ok], [.wrongState], [.wrongState], [.wrongState], [.ok]]
      ∧ [EntryState.waiting, .sent, .accepted, .cued, .playing, .cancelling].map
          (fun st => (after (.reqPosition 0 1 5 9) (listed [entry st none])).replies.map Reply.code)
          = [[.wrongState], [.wrongState], [.ok], [.ok], [.wrongState], [.ok]]
      ∧ [EntryState.waiting, .sent, .accepted, .cued, .playing, .cancelling].map
          (fun st => (after (.reqDrop 0 1 5) (listed [entry st none])).replies.map Reply.code)
          = [[.wrongState], [.ok], [.ok], [.ok], [.inUse], [.ok]]
      ∧ (let latched := cued.updRoom 0 fun rm => { rm with
            requests := [entry .cued none], ctx := { rm.ctx with cuedTicket := some 5 }, latch := some (latch5 0 1280) }
        ((after (.reqDrop 0 1 5) latched).room 0).latch = none
          ∧ ((after (.reqDrop 0 1 5) latched).room 0).ctx.state = .idle) := by decide

theorem witness_RequestsAndCancelsAreTaken :
    let free := listed []
    let full := listed (List.replicate 12 (entry .waiting none))
    let strict := (listed [entry .sent none]).updRoom 0 fun rm =>
      { rm with params := { rm.params with duplicatesRefuse := true }, ticketCounter := 255 }
    ([1, 226, 64, 9] : List Byte).length < 5 ∧ fieldAt [15, 66, 64, 0, 0] 0 3 = 1000000 ∧ fieldAt [15, 66, 63, 0, 0] 0 3 = 999999
      ∧ (free.room 0).requests.length < 12 ∧ (full.room 0).requests.length = 12
      ∧ (strict.room 0).params.duplicatesRefuse = true ∧ (∃ x ∈ (strict.room 0).requests, x.song = 1234)
      ∧ ((requestMessage [0, 4, 211, 0, 0] 2 0 strict).room 0).ticketCounter = 1
      ∧ (requestMessage [0, 4, 210, 0, 0] 2 0 strict).panel 2
          = { setEntry true 9 0 with outbox := [⟨.duplicate, false⟩] }
      ∧ (free.room 0).requests.find? (fun x => x.ticket == 5) = none
      ∧ (entry .waiting none).source ≠ 3 ∧ (entry .waiting none).source = 2
      ∧ ∀ st ∈ [EntryState.waiting, .sent, .accepted, .cued, .playing, .cancelling],
        ((listed [entry st none]).room 0).requests.find? (fun x => x.ticket == 5) = some (entry st none) := by decide

theorem witness_VenueTimeAndTimeouts :
    let s : State := { listed [entry .sent (some 4294967295)] with venueTime := 4998 }
    s.chip.replyTimeout * 1000 ≤ (s.venueTime + 1 - 4294967295).toNat ∧ ¬ s.chip.replyTimeout * 1000 ≤ (s.venueTime - 4294967295).toNat
      ∧ (s.room 0).requests = [entry .sent (some 4294967295)] ∧ (∀ k, k ≠ 0 → (s.room k).requests = [])
      ∧ (s.room 0).requests.Nodup
      ∧ ((after .venueTimeTick s).panel 2).outbox = [⟨.unanswered 5, false⟩]
      ∧ ((after .venueTimeTick { s with venueTime := 4997 }).room 0).requests = (s.room 0).requests
      ∧ ((after (.replyTimeout 0 5) { s with venueTime := 4999 }).room 0).requests = []
      ∧ ((after (.replyTimeout 0 5) s).room 0).requests = (s.room 0).requests
      ∧ (after .venueTimeTick { State.reset with venueTime := 4294967295 }).venueTime = 0
      ∧ (let two : State := ({ s with venueTime := 5000 } : State).updRoom 0 fun rm => { rm with
            requests := [{ entry .cancelling (some 1) with ticket := 6 }, entry .sent (some 0)] }
        let t := after .venueTimeTick two
        (t.room 0).requests = [] ∧ (t.room 0).requestCounters.timeouts = 2
          ∧ (t.panel 2).outbox = [⟨.cancelled 6, false⟩, ⟨.unanswered 5, false⟩]) := by decide

theorem witness_ResultsEnterTheOutbox :
    (setEntry true 9 0).enabled = true ∧ (setEntry true 9 0).outbox.length < 4 ∧ (setEntry false 9 0).enabled = false
      ∧ (let p : PollEntry := { setEntry true 9 0 with outbox := [⟨.full, true⟩, ⟨.format, false⟩, ⟨.full, false⟩, ⟨.format, true⟩] }
        3 ≤ p.outbox.tail.length
          ∧ (p.push .duplicate).outbox = [⟨.format, false⟩, ⟨.full, false⟩, ⟨.format, true⟩, ⟨.duplicate, true⟩]) := by decide

theorem witness_PanelAnswersAreHandled :
    State.reset.polling = none ∧ (polled true 0).polling ≠ none ∧ ((polled true 0).panel 2).room = 0
      ∧ ((polled true 0).room 0).ctx.state ≠ .off ∧ ((polled true 0).room 0).params.panelStopPermit = false
      ∧ (let off := (polled true 0).updRoom 0 fun rm => rm.setState .off
        off.polling ≠ none ∧ (off.room (off.panel off.nextEntry).room).ctx.state = .off)
      ∧ (let s := (polled true 0).updRoom 0 fun rm => { rm.setState .playing with params := { panelStopPermit := true } }
        (s.room 0).params.panelStopPermit = true ∧ (s.room 0).ctx.state = .playing
          ∧ ((after (.panelStopMessage []) s).room 0).ctx.endReason = some .panelStop) := by decide

theorem witness_PresenceAndPolling :
    (polled true 2).polling = some ⟨9, 4, none⟩ ∧ ((polled true 2).panel 2).present = true
      ∧ 2 ≤ ((polled true 2).panel 2).missCount ∧ ((polled false 3).panel 2).present = false
      ∧ State.reset.polling = none ∧ (10 : Nat) ≠ 9
      ∧ (ready.panel 3).enabled = true ∧ (ready.panel 7).enabled = true
      ∧ (∀ j : PanelId, 3 < j → j < 7 → (ready.panel j).enabled = false)
      ∧ (∀ j : PanelId, 7 < j → (ready.panel j).enabled = false) ∧ (∀ j : PanelId, j < 3 → (ready.panel j).enabled = false)
      ∧ (∀ k, (State.reset.panel k).enabled = false)
      ∧ (after .noAnswer (polled true 1)).nextEntry = 2 ∧ ((after .noAnswer (polled true 1)).panel 2).present = true := by
  decide

/-- Room 0's L and R on slots 0 and 1, in the state of `s`. -/
def wired (s : State) : State :=
  { s with slotOut := (State.reset.slotOut.set 0 (some ⟨0, .left⟩)).set 1 (some ⟨0, .right⟩) }

theorem witness_SamplePeriodOutputs :
    let out (s : State) : Vector Sample 8 := (after (.samplePeriod (Vector.replicate 8 0) 0 0) s).audioOut
    (inMode .stop).mode = .stop ∧ (wired (audible [sample false] false)).mode ≠ .stop
      ∧ (wired (audible [sample false] false)).slotOut.get 2 = none
      ∧ (wired (audible [sample false] false)).slotOut.get 1 = some ⟨0, .right⟩
      ∧ ((wired (audible [sample false] false)).room 0).port.queue = [sample false]
      ∧ ((wired (audible [sample false] false)).room 0).port.pendingEnd = false
      ∧ (out (wired (audible [sample false] false))).toList = [5, 6, 0, 0, 0, 0, 0, 0]
      ∧ ((wired (audible [] false)).room 0).port.queue = []
      ∧ ((calibrating 23).room 0).port.calibration = some ⟨22, 8000, 8, 2000, 0, 23⟩
      ∧ (out (calibrating 23)).get 0 = 8000 ∧ (out (calibrating 47)).get 0 = BitVec.ofInt 16 (-8000)
      ∧ (out (calibrating 48)).get 0 = 8000 ∧ (out (calibrating 383)).get 0 = BitVec.ofInt 16 (-8000)
      ∧ (out (calibrating 384)).get 0 = 0 ∧ ((wired (roomIn .held)).room 0).ctx.state = .held := by decide

theorem witness_BackingQueueInOnePeriod :
    let last := (audible [sample false] false).updRoom 0 fun rm => rm.updCtx fun c => { c with position := 4294967294 }
    ((roomIn .held).room 0).ctx.state ≠ .playing ∧ ((audible [] true).room 0).ctx.state = .playing
      ∧ ((audible [] true).room 0).port.pendingEnd = true
      ∧ ((audible [] false).room 0).port.pendingEnd = false ∧ ((audible [] false).room 0).port.queue = []
      ∧ ((audible [sample true] false).room 0).port.queue = sample true :: []
      ∧ (last.room 0).ctx.state = .playing ∧ (last.room 0).ctx.position + 1 = 4294967295
      ∧ ((audible [sample false] false).room 0).ctx.position + 1 ≠ 4294967295
      ∧ (audible [sample false] false).mode ≠ .stop
      ∧ (∀ k, k ≠ 0 → ((audible [sample false] false).room k).ctx.state ≠ .playing
          ∧ ((audible [sample false] false).room k).ctx.state ≠ .calibrating)
      ∧ (∀ k m, (((audible [sample false] false).room k).mic m).assembler.assembling = false)
      ∧ (wired last).slotOut.get 1 = some ⟨0, .right⟩ ∧ (wired last).slotOut.get 2 = none
      ∧ (after (.songPositionLimit 0) (wired last)).audioOut.toList = [5, 6, 0, 0, 0, 0, 0, 0]
      ∧ (let at_ (n : Nat) := (audible [sample false] false).updRoom 0 fun rm => rm.updCtx fun c => { c with position := n }
        0 < ((at_ 64).room 0).ctx.position ∧ ((at_ 64).room 0).ctx.position % 64 = 0
          ∧ ((at_ 65).room 0).ctx.position % 64 ≠ 0 ∧ ((at_ 0).room 0).ctx.position = 0) := by decide

theorem witness_LineTestsAdvanceAndHold :
    let s := playing { bank1450 with lines := bank1450.lines ++ [⟨6, 2, .a, true, 1500, 1800⟩] } fun c => { c with position := 64 * 1410 }
    let rm := s.room 0
    let lines := (rm.bank 0).lines
    rm.ctx.currentBank = some 0 ∧ rm.ctx.state = .playing ∧ 0 < rm.ctx.position ∧ rm.ctx.position % 64 = 0
      ∧ rm.ctx.position / 64 = 1410 ∧ rm.ctx.lyric.current < 2 ∧ (lines[2]?).map Line.start = some 1500
      ∧ 1500 ≤ 1410 + rm.params.advanceLead ∧ ¬ 1500 ≤ 1409 + rm.params.advanceLead ∧ lines[3]? = none
      ∧ rm.ctx.lyric.haltPending = false ∧ s.reports.length + (2 - rm.ctx.lyric.current) ≤ 16 ∧ rm.stack.isEmpty = true
      ∧ ((lineTest 0 1410 s).room 0).ctx.lyric.current = 2 ∧ ((lineTest 0 1410 s).room 0).ctx.skipCount = 1
      ∧ ((lineTest 0 1409 s).room 0).ctx.lyric.current = 1
      ∧ (let scored := s.updRoom 0 fun x => { x with mic1 := { x.mic1 with lane := { line := { s := 3, p := 7, near := 3 } } } }
        let empty (x : Assign) : LineLane := ⟨x, 0, 0, ⟨0, true⟩, false⟩
        (advanceTo 0 2 1410 scored).reports.map Report.body
          = [.lineScore ⟨0, 0, 0, false, ⟨.all, 3, 7, ⟨58, false⟩, false⟩, empty .off⟩,
            .lineScore ⟨0, 0, 1, true, empty .all, empty .off⟩])
      ∧ ((lines[2]?).map Line.last = some true) ∧ ((lines[1]?).map Line.last = some false)
      ∧ rm.ctx.lyric.starved = false ∧ rm.ctx.lyric.finished = false
      ∧ (let one := playing { bank1450 with lines := [⟨0, 3, .a, false, 750, 1020⟩] } id
        ((one.room 0).bank 0).lines.length ≤ (one.room 0).ctx.lyric.current + 1
          ∧ ((holdStep 0 1020 one).room 0).ctx.lyric.starved = true ∧ ((holdStep 0 1019 one).room 0).ctx.lyric.starved = false)
      ∧ (let halt := playing closedBank fun c => { c with position := 64, lyric := { c.lyric with haltPending := true } }
        (halt.room 0).ctx.lyric.haltPending = true ∧ ((holdStep 0 200 halt).room 0).ctx.endReason = some .halted
          ∧ ((holdStep 0 199 halt).room 0).ctx.endReason = none)
      ∧ (let none := playing { closedBank with lines := [] } id
        (((none.room 0).bank 0).lines[(none.room 0).ctx.lyric.current]?).isNone = true)
      ∧ ((playing closedBank id).room 0).ctx.position = 0 := by decide

/-- A short frame record of room 0, mic 1. -/
def record (xs : List Sample) : FrameRecord :=
  { room := 0, mic := 0, epoch := 0, consumed := 1024, pEnd := 512, lineIndex := 0, samples := xs, stale := false }

theorem witness_FramesMoveToTheScoreUnit :
    (List.replicate 1022 (0 : Sample)).length < 1023 ∧ (List.replicate 1023 (0 : Sample)).length = 1023
      ∧ ({ assembling := true } : Assembler).assembling = true ∧ ({} : Assembler).assembling = false
      ∧ State.reset.frameQueue = [] ∧ State.reset.engine = none
      ∧ (let s : State := { inMode .run with frameQueue := [record [], record [1]], engine := some ⟨400, 256, []⟩ }
        s.mode ≠ .stop ∧ s.frameQueue.length < 8 ∧ s.engine ≠ none ∧ s.frameQueue = record [] :: [record [1]])
      ∧ (let full : State := { inMode .run with frameQueue := List.replicate 8 (record []), engine := some ⟨400, 256, []⟩ }
        8 ≤ full.frameQueue.length)
      ∧ (inMode .stop).mode = .stop := by
  refine ⟨by simp, by simp, by decide⟩

/-- Room 0 sings into mic 1 on input slot 4, with three samples collected, and plays a backing sample. -/
def collecting : State :=
  { (audible [sample false, sample false] false).updRoom 0 fun rm => { rm with
      mic1 := { rm.mic1 with assembler := { assembling := true, samples := [1, 2, 3], consumed := 1 } } } with
    slotIn := State.reset.slotIn.set 4 (some ⟨0, 0⟩) }

theorem witness_SamplePeriodFeedsTheAssemblers :
    collecting.mode ≠ .stop
      ∧ (∀ i k x, collecting.slotIn.get i = some x → collecting.slotIn.get k = some x → i = k)
      ∧ collecting.slotIn.get 4 = some ⟨0, 0⟩ ∧ ((collecting.room 0).mic 0).assembler.assembling = true
      ∧ ((collecting.room 0).mic 0).assembler.samples.length < 1023 ∧ (collecting.room 0).ctx.state = .playing
      ∧ (collecting.room 0).port.pendingEnd = false ∧ (collecting.room 0).port.queue.head? = some (sample false)
      ∧ (collecting.room 0).ctx.position + 1 ≠ 4294967295 ∧ (collecting.room 0).ctx.lyric.haltPending = false
      ∧ (let t := after (.samplePeriod ((Vector.replicate 8 0).set 4 77) 5 0) collecting
        ((t.room 0).mic 0).assembler = { assembling := true, samples := [1, 2, 3, 77], consumed := 2 })
      ∧ ((collecting.room 0).mic 1).assembler.assembling = false
      ∧ (List.replicate 1023 (0 : Sample)).length = 1023 ∧ collecting.frameQueue.length ≤ 8 := by
  refine ⟨by decide, ?_, by decide, by decide, by decide, by decide, by decide, by decide, by decide, by decide, by decide,
    by decide, by simp, by decide⟩
  have h : ∀ i, collecting.slotIn.get i ≠ none → i = 4 := by decide
  intro i k x hi hk
  rw [h i (by simp [hi]), h k (by simp [hk])]

/-- A frame of 1024 samples; and a ladder that falls strictly, for the note of a period. -/
theorem witness_AnalysisOfAFrame :
    (record (List.replicate 1024 0)).samples.length = 1024 ∧ (∀ k, k ≤ 41 → falling.getD (k + 1) 0 < falling.getD k 0)
      ∧ falling.getD 42 0 ≤ 3492 ∧ 3492 < falling.getD 0 0
      ∧ (let d := detect 256 0 [BitVec.ofInt 16 (-300), 300, BitVec.ofInt 16 (-300), 300] {}
        2 ≤ d.n ∧ d.period = some 32)
      ∧ (detect 256 0 [BitVec.ofInt 16 (-300), 300] {}).n < 2
      ∧ examine 256 ⟨true, 0, 0, 0⟩ 7 256 = ⟨false, 1, 7, 7⟩ ∧ examine 256 ⟨true, 0, 0, 0⟩ 7 255 = ⟨true, 0, 0, 0⟩
      ∧ examine 256 ⟨false, 1, 7, 7⟩ 9 (BitVec.ofInt 16 (-256)) = ⟨true, 1, 7, 7⟩
      ∧ examine 256 ⟨false, 1, 7, 7⟩ 9 (BitVec.ofInt 16 (-255)) = ⟨false, 1, 7, 7⟩
      ∧ (let ladder := (List.range 43).map fun k => 33 + (42 - k)
        let r := analyse ⟨0, 256, 74 :: ladder.tail⟩
          (record (BitVec.ofInt 16 (-300) :: 300 :: 300 :: BitVec.ofInt 16 (-300) :: [300]))
        r.voiced = true ∧ r.period = some 48 ∧ r.note = some (43 + 27 - 1)) := by
  refine ⟨by simp [record], by decide⟩

/-- Room 0 PLAYING with a guide note, and a result record of it. -/
def result (pEnd consumed : Nat) (stale : Bool) : ResultRecord :=
  { room := 0, mic := 0, epoch := 0, stale := stale, consumed := consumed, pEnd := pEnd, lineIndex := 0, mav := 900,
    crossings := 2, period := some 3492, voiced := true, note := some 57 }

def guided : Room := (playing { closedBank with
  declaredNotes := 1, guide := [⟨100, 50, 57, .a⟩], lastGuideStart := some 100 } fun c => { c with comp := 5 }).room 0

theorem witness_FramesAreJudgedAndCredited :
    guided.ctx.singing = true ∧ (result 7232 1024 false).epoch = guided.ctx.epoch ∧ guided.ctx.currentBank = some 0
      ∧ (7232 - 512) / 64 - 5 = 100
      ∧ (guided.mic1.lane.lookUp (guided.bank 0).guide 100).covering (guided.bank 0).guide guided.ctx.assign1 100 = [⟨100, 50, 57, .a⟩]
      ∧ (guided.mic1.lane.lookUp (guided.bank 0).guide 150).covering (guided.bank 0).guide guided.ctx.assign1 150 = []
      ∧ ¬ ((guided.bank 0).state = .filling)
      ∧ (guided.scoreFrame (result 7232 1024 true)) = guided
      ∧ (guided.scoreFrame (result 7232 1024 false)).mic1.lane.song = { s := 1, p := 4, perfect := 1 }
      ∧ (guided.scoreFrame (result 7232 1023 false)).mic1.lane.outcomes = { disturbed := 1 }
      ∧ (guided.scoreFrame (result 511 1024 false)).mic1.lane.outcomes = { rest := 1 }
      ∧ (guided.scoreFrame (result 831 1024 false)).mic1.lane.outcomes = { rest := 1 }
      ∧ ({ guided with bank0 := { guided.bank0 with state := .filling } }.scoreFrame (result 10432 1024 false)).mic1.lane.outcomes
          = { unguided := 1 }
      ∧ judge { octaveFold := false, tolerance := 2 } 0 (some 84) ⟨0, 1, 84, .a⟩ = .perfect
      ∧ judge { octaveFold := false, tolerance := 2 } 1 (some 84) ⟨0, 1, 84, .a⟩ = .off
      ∧ judge { tolerance := 2 } 0 (some 43) ⟨0, 1, 49, .a⟩ = .off
      ∧ ({ s := 65534 } : Accumulators).credit .off = { s := 65535, off := 1, frozen := true }
      ∧ ({ s := 65535, frozen := true } : Accumulators).credit .perfect = { s := 65535, frozen := true }
      ∧ (let l := ({ outcomes := { near := 65535 } } : Lane).count (.graded .near)
        l.song = { s := 1, p := 2, near := 1 } ∧ l.line = { s := 1, p := 2, near := 1 } ∧ l.outcomes.near = 65535)
      ∧ (let guide : List GuideNote := [⟨0, 10, 50, .a⟩, ⟨5, 10, 51, .b⟩, ⟨20, 10, 52, .both⟩]
        let l := ({} : Lane).lookUp guide 12
        (({} : Lane).cursorA ≤ guide.length) ∧ l.cursorA = 2 ∧ l.cursorB = 1 ∧ l.covering guide .all 12 = [⟨5, 10, 51, .b⟩]
          ∧ l.covering guide .a 12 = []) := by decide

end Sys2Proof.Tests
end

section
/-! PROOFS. The state after pin reset (R2, R183). -/

namespace Sys2Proof.Machine

@[simp] theorem reset_room (r : RoomId) : State.reset.room r = {} := vec_get_replicate _ _
@[simp] theorem reset_panel (e : PanelId) : State.reset.panel e = {} := vec_get_replicate _ _
@[simp] theorem pinReset_room (s : State) (r : RoomId) : (pinReset s).room r = {} := reset_room r

theorem reset_stackEmpty (o : Owner) : State.reset.stackEmpty o = true := by
  cases o with
  | room r => simp only [State.stackEmpty, reset_room]; rfl
  | chip => decide

theorem reset_capacityLaw : State.reset.CapacityLaw where
  replies := Nat.zero_le _
  reports := Nat.zero_le _
  frames := Nat.zero_le _
  queues r := by simp
  outboxes e := by simp
  lists r := by simp
  fullQueue o h := by simp [reset_stackEmpty] at h

/-- A room as pin reset leaves it is lawful in every chip mode. -/
theorem pinResetRoom_lawful (m : Mode) : ({} : Room).Lawful m := by
  have hbank : ∀ b, (({} : Room).bank b).Lawful := fun b => by
    rcases bank_cases b with rfl | rfl <;> exact emptyBank_lawful
  have hasm : ({} : Assembler).Lawful false := ⟨nofun, fun _ => rfl, by decide⟩
  exact {
    off := fun _ => rfl, calibration := by decide, songEnd := by decide, queue := fun _ => ⟨rfl, rfl⟩
    current := by decide, cued := nofun, uncued := fun _ => rfl, currentTicket := nofun, cuedTicket := nofun
    roles := nofun, cuedLoaded := nofun, currentLoaded := nofun, banks := hbank, cuedLine := nofun
    currentLine := nofun, cursors := nofun, mic1 := hasm, mic2 := hasm }

theorem reset_roomLaw : State.reset.RoomLaw := fun r => by
  rw [reset_room]
  exact ⟨pinResetRoom_lawful _, empty_lawful r⟩

theorem clearedAccumulators_lawful : ({} : Accumulators).Lawful := ⟨rfl, Nat.le_refl _, by decide, by decide⟩

theorem reset_scoreLaw : State.reset.ScoreLaw := fun r m => by
  rw [reset_room]
  rcases bank_cases m with rfl | rfl <;> exact ⟨clearedAccumulators_lawful, clearedAccumulators_lawful⟩

/-- A room without an entry, a cue or a song has a lawful request list. -/
theorem pinResetRoom_requestsLawful : ({} : Room).RequestsLawful := by
  constructor <;> simp

theorem reset_requestLaw : State.reset.RequestLaw where
  lists r := by rw [reset_room]; exact pinResetRoom_requestsLawful
  items := by simp [State.reset]
  once := .nil

theorem reset_tableLaw : State.reset.TableLaw where
  font := pinResetFont_lawful
  entries e := by rw [reset_panel]; constructor <;> decide
  addresses e k h := by simp at h
  polling := nofun
  inputs i k t h := by simp [State.reset] at h
  outputs i k t h := by simp [State.reset] at h

theorem reset_linkLaw : State.reset.LinkLaw := fun _ => ⟨rfl, fun _ => ⟨rfl, by simp, rfl⟩⟩

/-- Settles O3: every room after PIN_RESET is the room of `State.reset`. -/
theorem pinResetRoomContext : Obligations.PinResetRoomContext := by
  intro s
  refine ⟨pinReset s, rfl, rfl, fun r => ?_⟩
  rw [pinReset_room]
  decide

/-- Settles O20, law by law. -/
theorem resetMeetsTheLaws : Obligations.ResetMeetsTheLaws :=
  ⟨reset_capacityLaw, reset_roomLaw, reset_scoreLaw, reset_requestLaw, reset_tableLaw, reset_linkLaw⟩

end Sys2Proof.Machine
end

section
/-! PROOFS. The shared operations on a room, each as one record: the fields it changes, and by their absence those it
leaves (R7, R8, R17, R18, R20, R36, R78, R99). -/

namespace Sys2Proof.Machine

/-! ### Banks and the frame latch -/

/-- R78: the latch of a room with current bank `current` and cued bank `cued` is kept while its bank has a role. -/
def keptLatch (current cued : Option BankId) (latch : Option FrameLatch) : Option FrameLatch :=
  latch.filter fun l => l.bank = none ∨ l.bank = current ∨ l.bank = cued

theorem Room.dropLostLatch_eq (rm : Room) :
    rm.dropLostLatch = { rm with latch := keptLatch rm.ctx.currentBank rm.ctx.cuedBank rm.latch } := by
  obtain ⟨ctx, params, bank0, bank1, latch⟩ := rm
  unfold Room.dropLostLatch keptLatch
  cases latch with
  | none => rfl
  | some l =>
    dsimp only
    rw [Option.filter_some]
    cases hl : l.bank with
    | none => simp
    | some b =>
      by_cases hr : ctx.currentBank = some b ∨ ctx.cuedBank = some b
      · simp [hr, eq_comm]
      · simp [hr, eq_comm]

/-- R36: a bank once a clearing of it has been asked for: an EMPTY or CLEARING one stays. -/
def Bank.cleared (b : Bank) : Bank := if b.loaded then b.beginClearing else b

/-- R78: the latch once a clearing of bank `b` has begun. -/
def darkenedLatch (b : BankId) (latch : Option FrameLatch) : Option FrameLatch :=
  latch.map fun l => if l.bank = some b then { l with bandOff := true } else l

theorem Room.clearBank_eq (rm : Room) (b : BankId) :
    rm.clearBank b =
      { rm with
        bank0 := if b = 0 then rm.bank0.cleared else rm.bank0
        bank1 := if b = 1 then rm.bank1.cleared else rm.bank1
        latch := if (rm.bank b).loaded then darkenedLatch b rm.latch else rm.latch } := by
  unfold Room.clearBank Bank.cleared darkenedLatch
  rcases bank_cases b with rfl | rfl
  · change (if rm.bank0.loaded then _ else _) = { rm with bank0 := _, latch := if rm.bank0.loaded then _ else _ }
    split <;> rfl
  · change (if rm.bank1.loaded then _ else _) = { rm with bank1 := _, latch := if rm.bank1.loaded then _ else _ }
    split <;> rfl

/-! ### The cue (R7) -/

theorem Room.withdrawCue_eq (rm : Room) :
    rm.withdrawCue =
      { rm with
        ctx := { rm.ctx with
          cuedBank := none, cuedTicket := none
          state := if rm.ctx.state = .cued then .idle else rm.ctx.state }
        port := if rm.ctx.state = .cued then rm.port.emptied else rm.port
        latch := keptLatch rm.ctx.currentBank none rm.latch } := by
  unfold Room.withdrawCue
  rw [Room.dropLostLatch_eq]
  split <;> rfl

theorem Room.moveEntry?_eq (rm : Room) (t : Option Nat) (st : EntryState) :
    rm.moveEntry? t st =
      { rm with requests := rm.requests.map fun e => if t = some e.ticket then { e with state := st } else e } := by
  cases t with
  | none => simp [Room.moveEntry?]
  | some t => simp [Room.moveEntry?, Room.moveEntry, Room.updEntry, eq_comm]

/-! ### The end of a song (R17, R18, R99) -/

/-- R99: what is left of a queue that is flushed. -/
def flushedQueue (q : List QueuedSample) : List QueuedSample := (q.dropWhile fun x => !x.endMark).drop 1

theorem afterFirstEnd_eq (q : List QueuedSample) :
    afterFirstEnd q = if q.all fun x => !x.endMark then none else some (flushedQueue q) := by
  induction q with
  | nil => simp [afterFirstEnd]
  | cons x xs ih =>
    unfold afterFirstEnd
    cases hx : x.endMark
    · simp [ih, hx, flushedQueue]
    · simp [hx, flushedQueue]

theorem flushedQueue_unmarked (q : List QueuedSample) (h : (q.all fun x => !x.endMark) = true) :
    flushedQueue q = [] := by
  have : q.dropWhile (fun x => !x.endMark) = [] := by simpa using h
  simp [flushedQueue, this]

/-- R99: the port after a flush. -/
def Port.flushed (p : Port) : Port :=
  if p.pendingEnd then { p with pendingEnd := false }
  else { p with
    queue := flushedQueue p.queue
    audioDiscarded := p.audioDiscarded + BitVec.ofNat 32 (p.queue.length - (flushedQueue p.queue).length) }

/-- R99: the flush finds no END, pending or on a sample, and sets DRAINING. -/
def Port.endless (p : Port) : Bool := !p.pendingEnd && p.queue.all fun x => !x.endMark

theorem Room.flushed_eq (rm : Room) :
    rm.flushed =
      { rm with
        port := rm.port.flushed, ctx := { rm.ctx with draining := rm.ctx.draining || rm.port.endless } } := by
  unfold Room.flushed Port.flushed Port.endless
  cases hp : rm.port.pendingEnd with
  | true => simp [Room.updPort]
  | false =>
    rw [afterFirstEnd_eq]
    cases hq : rm.port.queue.all fun x => !x.endMark with
    | true => simp [flushedQueue_unmarked _ hq, Room.updPort, Room.updCtx, bump, Port.fill, hp]
    | false => simp [Room.updPort, bump, Port.fill, hp]

/-- R99: the port of a room whose song ends for that reason. -/
def Port.ended (p : Port) (reason : EndReason) : Port := if reason = .complete then p else p.flushed

/-- R99: the ending of a song for that reason sets DRAINING. -/
def Port.drains (p : Port) (reason : EndReason) : Bool := decide (reason ≠ .complete) && p.endless

/-- R36, R78: the latch when the current bank is auto-cleared. -/
def Room.endedLatch (rm : Room) : Option FrameLatch :=
  match rm.ctx.currentBank with
  | some b => if (rm.bank b).loaded then darkenedLatch b rm.latch else rm.latch
  | none => rm.latch

/-- R17, R136: a microphone at the end of its song. -/
def Mic.ended (m : Mic) : Mic := { m with assembler := m.assembler.stopped, lane := { m.lane with line := {} } }

/-- The entries of a list without the one of an optional ticket. -/
def withoutTicket (t : Option Nat) (es : List Entry) : List Entry := es.filter fun e => some e.ticket ≠ t

theorem Room.endSong_eq (rm : Room) (reason : EndReason) :
    rm.endSong reason =
      { rm with
        ctx := { rm.ctx with draining := rm.ctx.draining || rm.port.drains reason }
        port := rm.port.ended reason
        bank0 := if rm.ctx.currentBank = some 0 then rm.bank0.cleared else rm.bank0
        bank1 := if rm.ctx.currentBank = some 1 then rm.bank1.cleared else rm.bank1
        latch := rm.endedLatch
        mic1 := { rm.mic1 with assembler := rm.mic1.assembler.stopped }
        mic2 := { rm.mic2 with assembler := rm.mic2.assembler.stopped } } := by
  have hq : (if reason = .complete then rm else rm.flushed) =
      { rm with
        ctx := { rm.ctx with draining := rm.ctx.draining || rm.port.drains reason }
        port := rm.port.ended reason } := by
    unfold Port.drains Port.ended
    split
    · next h => simp [h]
    · next h => simp [h, Room.flushed_eq]
  unfold Room.endSong Room.endedLatch
  rw [hq]
  cases hc : rm.ctx.currentBank with
  | none => simp [Room.stopAssemblers, Room.updMics]
  | some b =>
    simp only [Room.clearBank_eq, Room.stopAssemblers, Room.updMics, Option.some.injEq]
    rfl

theorem Room.closed_eq (rm : Room) (reason : EndReason) :
    rm.closed reason =
      { rm with
        ctx := { rm.ctx with
          state := .ending, endReason := some reason, currentTicket := none
          draining := rm.ctx.draining || rm.port.drains reason }
        port := rm.port.ended reason
        bank0 := if rm.ctx.currentBank = some 0 then rm.bank0.cleared else rm.bank0
        bank1 := if rm.ctx.currentBank = some 1 then rm.bank1.cleared else rm.bank1
        latch := rm.endedLatch
        mic1 := rm.mic1.ended, mic2 := rm.mic2.ended
        requests := withoutTicket rm.ctx.currentTicket rm.requests } := by
  unfold Room.closed
  simp only [Room.endSong_eq]
  cases hc : rm.ctx.currentTicket with
  | none =>
    have : withoutTicket none rm.requests = rm.requests := by simp [withoutTicket]
    rw [this]
    obtain ⟨ctx⟩ := rm
    obtain ⟨_⟩ := ctx
    dsimp only at hc; subst hc
    rfl
  | some t =>
    have : withoutTicket (some t) rm.requests = rm.requests.filter fun e => e.ticket != t := by
      simp [withoutTicket, bne, BEq.beq]
    rw [this]
    rfl

/-- R8, R18: a room that leaves ENDING, but for the mark state and the stack that the mark test may change. -/
theorem Room.left_eq (rm : Room) :
    rm.left =
      { rm with
        ctx := { rm.ctx with currentBank := none, state := if rm.ctx.cuedBank.isSome then .cued else .idle }
        port := if rm.ctx.cuedBank.isSome then rm.port else rm.port.emptied
        latch := keptLatch none rm.ctx.cuedBank rm.latch } := by
  unfold Room.left
  rw [Room.dropLostLatch_eq]
  split <;> rfl

/-! ### ROOM_RESET (R20) -/

theorem Room.reset_eq (rm : Room) (m : Mode) (clearReports : Bool) :
    rm.reset m clearReports =
      { rm with
        ctx := rm.ctx.reset m rm.params
        bank0 := rm.bank0.cleared, bank1 := rm.bank1.cleared
        latch := none
        port := rm.port.reset
        mic1 := rm.mic1.reset, mic2 := rm.mic2.reset
        requests := [], ticketCounter := 0
        stack := rm.stack.afterReset clearReports } := by
  unfold Room.reset
  simp only [Room.clearBank_eq]
  rfl

end Sys2Proof.Machine
end

section
/-! PROOFS. The room law: what it reads of a room, and what each change of a room does to it. -/

namespace Sys2Proof.Machine

/-! ### What the law reads -/

/-- What the room law reads of a microphone: its assembler and its lane's cursors. -/
def Mic.lawPart (x : Mic) : Mic :=
  { assembler := x.assembler, lane := { cursorA := x.lane.cursorA, cursorB := x.lane.cursorB } }

/-- What the room law reads of a room: all else holds its pin-reset value. -/
def Room.lawPart (rm : Room) : Room :=
  { ctx :=
      { state := rm.ctx.state, currentBank := rm.ctx.currentBank, cuedBank := rm.ctx.cuedBank
        currentTicket := rm.ctx.currentTicket, cuedTicket := rm.ctx.cuedTicket
        lyric := { current := rm.ctx.lyric.current } }
    bank0 := rm.bank0, bank1 := rm.bank1
    port := { queue := rm.port.queue, pendingEnd := rm.port.pendingEnd, calibration := rm.port.calibration }
    mic1 := rm.mic1.lawPart, mic2 := rm.mic2.lawPart
    stack := { songEnd := rm.stack.songEnd } }

theorem lawPart_mic (rm : Room) (m : MicId) : rm.lawPart.mic m = (rm.mic m).lawPart := by
  rcases bank_cases m with rfl | rfl <;> rfl

theorem lawPart_lawful {m : Mode} {rm : Room} : rm.lawPart.Lawful m ↔ rm.Lawful m := by
  refine ⟨fun h => ?_, fun h => ?_⟩
  · have hc := h.cursors
    simp only [lawPart_mic] at hc
    exact { h with cursors := hc }
  · have hc := h.cursors
    refine { h with cursors := fun b k => ?_ }
    rw [lawPart_mic]; exact hc b k

/-- The law speaks of `lawPart` alone. -/
theorem Room.Lawful.congr {m : Mode} {rm x : Room} (h : rm.Lawful m) (e : x.lawPart = rm.lawPart) : x.Lawful m := by
  rw [← lawPart_lawful, e]; exact lawPart_lawful.mpr h

/-- What the law says of room `r` of a state in chip mode `m`. -/
def RoomOk (m : Mode) (r : RoomId) (rm : Room) : Prop := rm.Lawful m ∧ rm.stack.Lawful r

theorem RoomOk.congr {m : Mode} {r : RoomId} {rm x : Room} (h : RoomOk m r rm) (e : x.lawPart = rm.lawPart)
    (hs : x.stack = rm.stack) : RoomOk m r x := ⟨h.1.congr e, hs ▸ h.2⟩

/-! ### Changes of one room -/

/-- Two states with the same chip mode and the same rooms. -/
theorem roomLaw_of_rooms {s t : State} (h : s.RoomLaw) (hm : t.mode = s.mode) (hr : ∀ r, t.room r = s.room r) :
    t.RoomLaw := fun r => by rw [hm, hr]; exact h r

/-- A state one room of which alone has changed. -/
theorem roomLaw_of_room {s t : State} (r : RoomId) (h : s.RoomLaw) (hm : t.mode = s.mode)
    (hk : ∀ k, k ≠ r → t.room k = s.room k) (hr : RoomOk s.mode r (t.room r)) : t.RoomLaw := fun k => by
  by_cases e : k = r
  · subst e; rw [hm]; exact hr
  · rw [hm, hk k e]; exact h k

theorem updRoom_roomLaw {s : State} {r : RoomId} {f : Room → Room} (h : s.RoomLaw)
    (hr : RoomOk s.mode r (f (s.room r))) : (s.updRoom r f).RoomLaw :=
  roomLaw_of_room r h rfl (fun _ e => room_updRoom_ne _ _ _ _ e) (by rwa [room_updRoom_same])

/-- A change of a room that what the law reads does not see. -/
theorem updRoom_roomLaw_of_lawPart {s : State} {r : RoomId} {f : Room → Room} (h : s.RoomLaw)
    (hp : (f (s.room r)).lawPart = (s.room r).lawPart) (hs : (f (s.room r)).stack = (s.room r).stack) :
    (s.updRoom r f).RoomLaw := updRoom_roomLaw h (RoomOk.congr (h r) hp hs)

/-- A stack that holds a SONG_END as the old one did takes its place. -/
theorem Room.Lawful.setStack {m : Mode} {rm : Room} (h : rm.Lawful m) {k : RoomStack}
    (hk : k.songEnd.isSome = rm.stack.songEnd.isSome) : ({ rm with stack := k } : Room).Lawful m :=
  { h with songEnd := hk ▸ h.songEnd }

theorem raise_roomLaw {s : State} {b : ReportBody} (h : s.RoomLaw) (hb : b.isSongEnd = false) :
    (raise b s).RoomLaw := fun k => by
  rw [raise_mode]
  refine ⟨?_, raise_stack_lawful b (h k).2⟩
  rcases raise_room b s k with e | e <;> rw [e]
  · exact (h k).1
  · exact (h k).1.setStack (by rw [put_songEnd _ _ hb])

theorem markTest_roomLaw {s : State} (r : RoomId) (h : s.RoomLaw) : (markTest r s).RoomLaw := by
  rcases markTest_cases r s with e | ⟨m, _, e⟩ <;> rw [e]
  · exact h
  · exact raise_roomLaw (updRoom_roomLaw_of_lawPart h rfl rfl) rfl

/-! ### Banks -/

/-- The room reads records of bank `b`: it is the cued bank, or the current one of a song. -/
def Room.holds (rm : Room) (b : BankId) : Prop :=
  rm.ctx.cuedBank = some b ∨ rm.ctx.singing = true ∧ rm.ctx.currentBank = some b

/-- A bank keeps what a room that holds it reads: it stays loaded and no frontier moves back. -/
structure Bank.Carries (old new : Bank) : Prop where
  loaded : old.loaded = true → new.loaded = true
  lines : old.lines.length ≤ new.lines.length
  guide : old.guide.length ≤ new.guide.length

theorem Bank.Carries.refl (b : Bank) : b.Carries b := ⟨id, Nat.le_refl _, Nat.le_refl _⟩

theorem Room.Lawful.updBank {m : Mode} {rm : Room} (h : rm.Lawful m) {b : BankId} {f : Bank → Bank}
    (hl : (f (rm.bank b)).Lawful) (hb : rm.holds b → (rm.bank b).Carries (f (rm.bank b))) :
    (rm.updBank b f).Lawful m := by
  have hlaw : ∀ c, ((rm.updBank b f).bank c).Lawful := fun c => by
    by_cases e : c = b
    · subst e; rwa [Room.bank_updBank_same]
    · rw [Room.bank_updBank_ne _ _ _ _ e]; exact h.banks c
  have hcar : ∀ c, rm.holds c → (rm.bank c).Carries ((rm.updBank b f).bank c) := fun c hc => by
    by_cases e : c = b
    · subst e; rw [Room.bank_updBank_same]; exact hb hc
    · rw [Room.bank_updBank_ne _ _ _ _ e]; exact .refl _
  have hmic : ∀ k, (rm.updBank b f).mic k = rm.mic k := fun k => by simp [Room.mic]
  constructor
  case banks => exact hlaw
  case cuedLoaded => intro c hc; rw [Room.updBank_ctx] at hc; exact (hcar c (.inl hc)).loaded (h.cuedLoaded c hc)
  case currentLoaded =>
    intro c hs hc
    rw [Room.updBank_ctx] at hs hc
    exact (hcar c (.inr ⟨hs, hc⟩)).loaded (h.currentLoaded c hs hc)
  case cuedLine =>
    intro c hc; rw [Room.updBank_ctx] at hc; exact Nat.le_trans (h.cuedLine c hc) (hcar c (.inl hc)).lines
  case currentLine =>
    intro c hs hc
    rw [Room.updBank_ctx] at hs hc ⊢
    exact Nat.lt_of_lt_of_le (h.currentLine c hs hc) (hcar c (.inr ⟨hs, hc⟩)).lines
  case cursors =>
    intro c k hs hc
    rw [Room.updBank_ctx] at hs hc
    rw [hmic]
    have hg := (hcar c (.inr ⟨hs, hc⟩)).guide
    exact ⟨Nat.le_trans (h.cursors c k hs hc).1 hg, Nat.le_trans (h.cursors c k hs hc).2 hg⟩
  all_goals simp only [Room.updBank_ctx, Room.updBank_port, Room.updBank_stack, Room.updBank_mic1, Room.updBank_mic2]
  · exact h.off
  · exact h.calibration
  · exact h.songEnd
  · exact h.queue
  · exact h.current
  · exact h.cued
  · exact h.uncued
  · exact h.currentTicket
  · exact h.cuedTicket
  · exact h.roles
  · exact h.mic1
  · exact h.mic2

theorem cleared_lawful {b : Bank} (h : b.Lawful) : b.cleared.Lawful := by
  unfold Bank.cleared; split
  · exact beginClearing_lawful b
  · exact h

/-- R35: the clearing of a bank that no cue and no song of the room holds. -/
theorem Room.Lawful.clearBank {m : Mode} {rm : Room} (h : rm.Lawful m) {b : BankId} (hb : ¬rm.holds b) :
    (rm.clearBank b).Lawful m := by
  unfold Room.clearBank
  split
  · exact (h.updBank (f := Bank.beginClearing) (beginClearing_lawful _) (fun e => absurd e hb)).congr rfl
  · exact h

/-! ### Assemblers -/

theorem stopped_lawful (a : Assembler) (singing : Bool) : a.stopped.Lawful singing :=
  ⟨nofun, fun _ => rfl, by simp [Assembler.stopped]⟩

theorem take_lawful {a : Assembler} {singing : Bool} (h : a.Lawful singing) (x : Option Sample) (gave : Bool) :
    (a.take x gave).1.Lawful singing := by
  unfold Assembler.take
  cases x with
  | none => exact h
  | some x =>
    dsimp only
    by_cases ha : a.assembling = true
    · rw [if_pos ha]
      split
      · exact ⟨fun _ => h.assembling ha, fun _ => rfl, by simp⟩
      · next hn => exact ⟨fun _ => h.assembling ha, fun e => by simp [ha] at e, Nat.lt_of_not_le hn⟩
    · rw [if_neg ha]; exact h

/-! ### The chip mode -/

/-- A room that is OFF wherever the chip mode is not RUN. -/
theorem Room.Lawful.inMode {m : Mode} {rm : Room} (h : rm.Lawful m) (n : Mode) (ho : n ≠ .run → rm.ctx.state = .off) :
    rm.Lawful n := { h with off := ho }

/-- A room in any state but OFF shows that the chip is in RUN mode (R3). -/
theorem Room.Lawful.run {m : Mode} {rm : Room} (h : rm.Lawful m) (hs : rm.ctx.state ≠ .off) : m = .run :=
  Decidable.byContradiction fun hm => hs (h.off hm)

/-! ### Rooms without a cue or a song -/

/-- A room with nothing queued, cued or sung and no ending to report. -/
structure Room.Quiet (rm : Room) : Prop where
  queue : rm.port.queue = [] ∧ rm.port.pendingEnd = false
  current : rm.ctx.currentBank = none
  cued : rm.ctx.cuedBank = none
  currentTicket : rm.ctx.currentTicket = none
  cuedTicket : rm.ctx.cuedTicket = none
  songEnd : rm.stack.songEnd = none
  banks : ∀ b, (rm.bank b).Lawful
  mic1 : rm.mic1.assembler.Lawful false
  mic2 : rm.mic2.assembler.Lawful false

theorem RoomContext.singing_iff (c : RoomContext) : c.singing = true ↔ c.state = .playing ∨ c.state = .held := by
  simp [RoomContext.singing]

theorem RoomContext.not_singing {c : RoomContext} (hp : c.state ≠ .playing) (hh : c.state ≠ .held) :
    c.singing = false := by
  simp [RoomContext.singing, hp, hh]

/-- A quiet room state is none of those of a cue or song. -/
theorem RoomState.quiet_ne {st : RoomState} (h : st.quiet = true) :
    st ≠ .cued ∧ st ≠ .playing ∧ st ≠ .held ∧ st ≠ .ending := by
  cases st <;> simp_all [RoomState.quiet]

theorem not_singing_of_quiet {c : RoomContext} (h : c.state.quiet = true) : c.singing = false := by
  obtain ⟨_, hp, hh, _⟩ := RoomState.quiet_ne h
  exact RoomContext.not_singing hp hh

theorem Room.Lawful.quiet {m : Mode} {rm : Room} (h : rm.Lawful m) (hq : rm.ctx.state.quiet = true) : rm.Quiet := by
  have hs : rm.ctx.singing = false := not_singing_of_quiet hq
  obtain ⟨_, _, _, he⟩ := RoomState.quiet_ne hq
  have hnone {α : Type} {o : Option α} (e : ¬o.isSome = true) : o = none := by simpa using e
  have hcued := h.uncued hq
  exact {
    queue := h.queue hq, current := hnone fun e => by simpa [hs, he] using h.current.mp e, cued := hcued
    currentTicket := hnone fun e => by simpa [hs] using h.currentTicket e
    cuedTicket := hnone fun e => by simpa [hcued] using h.cuedTicket e
    songEnd := hnone fun e => he (h.songEnd.mp e), banks := h.banks, mic1 := hs ▸ h.mic1, mic2 := hs ▸ h.mic2 }

/-- A quiet room is lawful in OFF, IDLE or CALIBRATING, where that agrees with the chip mode and its calibration. -/
theorem Room.Quiet.lawful {rm : Room} (h : rm.Quiet) {m : Mode} (hq : rm.ctx.state.quiet = true)
    (ho : m ≠ .run → rm.ctx.state = .off)
    (hc : rm.port.calibration.isSome = true ↔ rm.ctx.state = .calibrating) : rm.Lawful m := by
  have hs : rm.ctx.singing = false := not_singing_of_quiet hq
  obtain ⟨hcued, _, _, he⟩ := RoomState.quiet_ne hq
  exact {
    off := ho, calibration := hc, songEnd := by simp [h.songEnd, he], queue := fun _ => h.queue
    current := by simp [h.current, hs, he], cued := fun e => absurd e hcued, uncued := fun _ => h.cued
    currentTicket := by simp [h.currentTicket], cuedTicket := by simp [h.cuedTicket], roles := by simp [h.current]
    cuedLoaded := by simp [h.cued], currentLoaded := by simp [hs], banks := h.banks, cuedLine := by simp [h.cued]
    currentLine := by simp [hs], cursors := by simp [hs], mic1 := hs ▸ h.mic1, mic2 := hs ▸ h.mic2 }

/-- Quietness reads what the law reads, but for the room state and the calibration. -/
theorem Room.Quiet.setState {rm : Room} (h : rm.Quiet) (st : RoomState) : (rm.setState st).Quiet := { h with }

/-- R3: a room with ROOM_ENABLE on goes from OFF to IDLE. -/
theorem Room.Lawful.enabled {rm : Room} (h : rm.Lawful .config) : rm.enabled.Lawful .run := by
  have ho : rm.ctx.state = .off := h.off (by decide)
  unfold Room.enabled
  split
  · refine ((h.quiet (by rw [ho]; rfl)).setState .idle).lawful rfl nofun ?_
    simpa [ho] using h.calibration
  · exact h.inMode .run (fun e => absurd rfl e)

/-- R101: a room that begins a calibration. -/
theorem Room.Lawful.calibrate {m : Mode} {rm : Room} (h : rm.Lawful m) (hi : rm.ctx.state = .idle) (c : Calibration) :
    ((rm.setState .calibrating).updPort fun p => { p with calibration := some c }).Lawful m := by
  have hq := h.quiet (by rw [hi]; rfl)
  have hrun : m = .run := h.run (by rw [hi]; decide)
  refine Room.Quiet.lawful ?_ rfl (absurd hrun) ⟨fun _ => rfl, fun _ => rfl⟩
  exact { hq with }

/-- R103, R104: a room whose calibration ends, with the port changed by `f`. -/
theorem Room.Lawful.endCalibration {m : Mode} {rm : Room} (h : rm.Lawful m) (hc : rm.ctx.state = .calibrating)
    (f : Port → Port) (hf : (f rm.port).queue = rm.port.queue ∧ (f rm.port).pendingEnd = rm.port.pendingEnd) :
    ((rm.setState .idle).updPort fun p => { f p with calibration := none }).Lawful m := by
  have hq := h.quiet (by rw [hc]; rfl)
  have hrun : m = .run := h.run (by rw [hc]; decide)
  refine Room.Quiet.lawful ?_ rfl (absurd hrun) ⟨nofun, nofun⟩
  exact { hq with queue := ⟨hf.1.trans hq.queue.1, hf.2.trans hq.queue.2⟩ }

/-- R7, R8: a room whose cue is withdrawn. -/
theorem Room.Lawful.withdrawCue {m : Mode} {rm : Room} (h : rm.Lawful m) : rm.withdrawCue.Lawful m := by
  rw [Room.withdrawCue_eq]
  by_cases hc : rm.ctx.state = .cued
  · have hs : rm.ctx.singing = false := by simp [RoomContext.singing, hc]
    have hcur : rm.ctx.currentBank = none := by simpa [hs, hc] using h.current
    have htick : rm.ctx.currentTicket = none := by simpa [hs] using h.currentTicket
    have hend : rm.stack.songEnd = none := by simpa [hc] using h.songEnd
    have hcal : rm.port.calibration = none := by simpa [hc] using h.calibration
    simp only [hc, if_true]
    have hrun : m = .run := h.run (by rw [hc]; decide)
    refine Room.Quiet.lawful ?_ rfl (absurd hrun) (by simp [hcal, Port.emptied])
    exact {
      queue := ⟨rfl, rfl⟩, current := hcur, cued := rfl, currentTicket := htick, cuedTicket := rfl, songEnd := hend
      banks := h.banks, mic1 := hs ▸ h.mic1, mic2 := hs ▸ h.mic2 }
  · simp only [if_neg hc]
    exact { h with
      cued := fun e => absurd e hc, uncued := fun _ => rfl, cuedTicket := nofun
      roles := fun _ _ => nofun, cuedLoaded := nofun, cuedLine := nofun }

/-- R7, R15: a room whose cue is withdrawn and whose entry goes back. -/
theorem Room.Lawful.releaseCue {m : Mode} {rm : Room} (h : rm.Lawful m) : rm.releaseCue.Lawful m := by
  unfold Room.releaseCue
  refine (h.congr ?_).withdrawCue
  rw [Room.moveEntry?_eq]; rfl

/-- R20: a reset room, whatever it was but for its banks. -/
theorem Room.Lawful.reset {m n : Mode} {rm : Room} (h : rm.Lawful m) (clearReports : Bool) {k : RoomStack}
    (hk : k.songEnd = none) : ({ rm.reset n clearReports with stack := k } : Room).Lawful n := by
  rw [Room.reset_eq]
  have hbanks : ∀ b : BankId, (if b = 0 then rm.bank0.cleared else rm.bank1.cleared).Lawful := fun b => by
    split
    · exact cleared_lawful (h.banks 0)
    · exact cleared_lawful (h.banks 1)
  have hst : resetState n rm.params = .off ∨ n = .run ∧ resetState n rm.params = .idle := by
    unfold resetState; split
    · next e => exact .inr ⟨e.1, rfl⟩
    · exact .inl rfl
  refine Room.Quiet.lawful ?_ ?_ (fun e => ?_) ?_
  · exact {
      queue := ⟨rfl, rfl⟩, current := rfl, cued := rfl, currentTicket := rfl, cuedTicket := rfl, songEnd := hk
      banks := hbanks, mic1 := stopped_lawful _ _, mic2 := stopped_lawful _ _ }
  · show (resetState n rm.params).quiet = true
    rcases hst with e | ⟨_, e⟩ <;> rw [e] <;> rfl
  · exact hst.resolve_right fun x => e x.1
  · show false = true ↔ resetState n rm.params = .calibrating
    rcases hst with e | ⟨_, e⟩ <;> rw [e] <;> simp

/-! ### Cues and songs -/

theorem Bank.eligible_iff (b : Bank) :
    b.eligible = true ↔ b.state = .closed ∨ b.state = .filling ∧ 1 ≤ b.lines.length := by
  unfold Bank.eligible
  simp only [Bool.or_eq_true, beq_iff_eq, Bool.and_eq_true, decide_eq_true_eq]
  rfl

/-- R40: an eligible bank is loaded and has a line. -/
theorem Bank.Lawful.line {b : Bank} (h : b.Lawful) (he : b.eligible = true) :
    b.loaded = true ∧ 1 ≤ b.lines.length := by
  rcases b.eligible_iff.mp he with hc | ⟨hf, hl⟩
  · have hd : b.loaded = true := by simp [Bank.loaded, hc]
    exact ⟨hd, (h.closed hc).1 ▸ (h.declared hd).1⟩
  · exact ⟨by simp [Bank.loaded, hf], hl⟩

/-- R6: the room after a CUE, field by field. -/
theorem Room.cue_eq (rm : Room) (b : BankId) (ticket : Nat) :
    rm.cue b ticket =
      { rm with
        ctx := { rm.ctx with
          cuedBank := some b, cuedTicket := ticketOf ticket
          state := if rm.ctx.state = .idle then .cued else rm.ctx.state }
        latch := keptLatch rm.ctx.currentBank (some b) rm.latch
        requests := (rm.cue b ticket).requests } := by
  unfold Room.cue
  simp only [Room.dropLostLatch_eq, Room.moveEntry?_eq]
  split <;> rfl

/-- R6, R40: a room that takes a cue of an eligible bank that is not its current one. -/
theorem Room.Lawful.cue {m : Mode} {rm : Room} (h : rm.Lawful m) {b : BankId} (ticket : Nat)
    (ho : rm.ctx.state ≠ .off) (hc : rm.ctx.state ≠ .calibrating) (hb : rm.ctx.currentBank ≠ some b)
    (he : (rm.bank b).eligible = true) : (rm.cue b ticket).Lawful m := by
  obtain ⟨hl, hline⟩ := (h.banks b).line he
  have hrun : m = .run := h.run ho
  have hroles : ∀ c, rm.ctx.currentBank = some c → some b ≠ some c := fun c hc e => hb (hc.trans e.symm)
  have hcl : ∀ c, some b = some c → (rm.bank c).loaded = true := fun c e => by cases e; exact hl
  have hcline : ∀ c, some b = some c → 1 ≤ (rm.bank c).lines.length := fun c e => by cases e; exact hline
  rw [Room.cue_eq]
  by_cases hi : rm.ctx.state = .idle
  · have hq := h.quiet (by rw [hi]; rfl)
    have hcal : rm.port.calibration = none := by simpa [hi] using h.calibration
    simp only [hi, if_true]
    exact {
      off := absurd hrun, calibration := by simp [hcal], songEnd := by simp [hq.songEnd], queue := nofun
      current := by simp [hq.current, RoomContext.singing], cued := fun _ => rfl, uncued := nofun
      currentTicket := by simp [hq.currentTicket], cuedTicket := fun _ => rfl, roles := hroles, cuedLoaded := hcl
      currentLoaded := nofun, banks := h.banks, cuedLine := hcline, currentLine := nofun, cursors := nofun
      mic1 := hq.mic1, mic2 := hq.mic2 }
  · simp only [if_neg hi]
    have hquiet : rm.ctx.state.quiet = false := by
      cases hst : rm.ctx.state <;> simp_all [RoomState.quiet]
    exact { h with
      off := absurd hrun, cued := fun _ => rfl, uncued := fun e => by simp [hquiet] at e
      cuedTicket := fun _ => rfl, roles := hroles, cuedLoaded := hcl, cuedLine := hcline }

/-- R9: a CUED room that starts its song. -/
theorem Room.Lawful.start {m : Mode} {rm : Room} (h : rm.Lawful m) (hc : rm.ctx.state = .cued) :
    rm.start.Lawful m := by
  have hs : rm.ctx.singing = false := by simp [RoomContext.singing, hc]
  have hcal : rm.port.calibration = none := by simpa [hc] using h.calibration
  have hend : rm.stack.songEnd = none := by simpa [hc] using h.songEnd
  have hrun : m = .run := h.run (by rw [hc]; decide)
  have hasm : ∀ (x : Mic) (assign : Assign), (x.started assign).assembler.Lawful true :=
    fun _ _ => ⟨fun _ => rfl, fun _ => rfl, by simp [Mic.started]⟩
  have e : rm.start.lawPart =
      ({ rm with
        ctx := rm.startedCtx
        mic1 := rm.mic1.started rm.params.micAssign1, mic2 := rm.mic2.started rm.params.micAssign2 } : Room).lawPart := by
    unfold Room.start; simp only [Room.moveEntry?_eq]; rfl
  refine Room.Lawful.congr ?_ e
  exact {
    off := absurd hrun, calibration := by simp [hcal, Room.startedCtx], songEnd := by simp [hend, Room.startedCtx]
    queue := nofun, current := ⟨fun _ => .inl rfl, fun _ => h.cued hc⟩, cued := nofun, uncued := nofun
    currentTicket := fun _ => rfl, cuedTicket := nofun, roles := fun _ _ => nofun, cuedLoaded := nofun
    currentLoaded := fun b _ => h.cuedLoaded b, banks := h.banks, cuedLine := nofun
    currentLine := fun b _ hb => h.cuedLine b hb
    cursors := fun b k _ _ => by rcases bank_cases k with rfl | rfl <;> exact ⟨Nat.zero_le _, Nat.zero_le _⟩
    mic1 := hasm _ _, mic2 := hasm _ _ }

/-- R14: a room that goes from PLAYING to HELD, or back. -/
theorem Room.Lawful.move {m : Mode} {rm : Room} (h : rm.Lawful m) {st : RoomState} (hs : rm.ctx.singing = true)
    (ht : st = .playing ∨ st = .held) : (rm.setState st).Lawful m := by
  have hold := rm.ctx.singing_iff.mp hs
  have hrun : m = .run := h.run (by rcases hold with e | e <;> rw [e] <;> decide)
  have hnew : (rm.setState st).ctx.singing = true := (RoomContext.singing_iff _).mpr ht
  have hcal : rm.port.calibration = none := by
    have := h.calibration; rcases hold with e | e <;> simpa [e] using this
  have hend : rm.stack.songEnd = none := by
    have := h.songEnd; rcases hold with e | e <;> simpa [e] using this
  have hq : st.quiet = false := by rcases ht with rfl | rfl <;> rfl
  exact { h with
    off := absurd hrun, calibration := by rcases ht with rfl | rfl <;> simp [hcal]
    songEnd := by rcases ht with rfl | rfl <;> simp [hend], queue := fun e => by simp [hq] at e
    current := ⟨fun _ => .inl hnew, fun _ => h.current.mpr (.inl hs)⟩
    cued := by rcases ht with rfl | rfl <;> simp, uncued := fun e => by simp [hq] at e
    currentTicket := fun _ => hnew, currentLoaded := fun b _ => h.currentLoaded b hs
    currentLine := fun b _ => h.currentLine b hs, cursors := fun b k _ => h.cursors b k hs
    mic1 := hnew ▸ hs ▸ h.mic1, mic2 := hnew ▸ hs ▸ h.mic2 }

/-! ### The end of a song -/

@[simp] theorem ended_calibration (p : Port) (reason : EndReason) :
    (p.ended reason).calibration = p.calibration := by
  unfold Port.ended Port.flushed; split
  · rfl
  · split <;> rfl

theorem bank_closed (rm : Room) (reason : EndReason) (b : BankId) :
    (rm.closed reason).bank b = if rm.ctx.currentBank = some b then (rm.bank b).cleared else rm.bank b := by
  rw [Room.closed_eq]
  rcases bank_cases b with rfl | rfl <;> rfl

/-- R17: a room that stands in ENDING with its SONG_END stacked. -/
theorem Room.Lawful.closed {m : Mode} {rm : Room} (h : rm.Lawful m) (hs : rm.ctx.singing = true) (reason : EndReason)
    {k : RoomStack} (hk : k.songEnd.isSome = true) : ({ rm.closed reason with stack := k } : Room).Lawful m := by
  have hold := rm.ctx.singing_iff.mp hs
  have hrun : m = .run := h.run (by rcases hold with e | e <;> rw [e] <;> decide)
  have hcal : rm.port.calibration = none := by
    have := h.calibration; rcases hold with e | e <;> simpa [e] using this
  have hbank : ∀ b, rm.ctx.cuedBank = some b → (rm.closed reason).bank b = rm.bank b := fun b hb => by
    rw [bank_closed, if_neg fun e => h.roles b e hb]
  have hbanks : ∀ b, ((rm.closed reason).bank b).Lawful := fun b => by
    rw [bank_closed]; split
    · exact cleared_lawful (h.banks b)
    · exact h.banks b
  have hload : ∀ b, rm.ctx.cuedBank = some b → ((rm.closed reason).bank b).loaded = true :=
    fun b hb => hbank b hb ▸ h.cuedLoaded b hb
  have hline : ∀ b, rm.ctx.cuedBank = some b → 1 ≤ ((rm.closed reason).bank b).lines.length :=
    fun b hb => hbank b hb ▸ h.cuedLine b hb
  rw [Room.closed_eq] at hbanks hload hline ⊢
  exact {
    off := absurd hrun, calibration := by simp [hcal], songEnd := by simp [hk], queue := nofun
    current := ⟨fun _ => .inr rfl, fun _ => h.current.mpr (.inl hs)⟩, cued := nofun, uncued := nofun
    currentTicket := nofun, cuedTicket := h.cuedTicket, roles := h.roles, cuedLoaded := hload, currentLoaded := nofun
    banks := hbanks, cuedLine := hline, currentLine := nofun, cursors := nofun
    mic1 := stopped_lawful _ _, mic2 := stopped_lawful _ _ }

/-- R18: a room that leaves ENDING, its SONG_END no longer stacked. -/
theorem Room.Lawful.left {m : Mode} {rm : Room} {k0 : RoomStack} (h : ({ rm with stack := k0 } : Room).Lawful m)
    (he : rm.ctx.state = .ending) {k : RoomStack} (hk : k.songEnd = none) (mark : MarkState) :
    ({ rm.left with stack := k, port := { rm.left.port with markState := mark } } : Room).Lawful m := by
  have hs : rm.ctx.singing = false := by simp [RoomContext.singing, he]
  have hrun : m = .run := h.run (by simp [he])
  have hcal : rm.port.calibration = none := by simpa [he] using h.calibration
  have htick : rm.ctx.currentTicket = none := by simpa [hs] using h.currentTicket
  have m1 : rm.mic1.assembler.Lawful false := hs ▸ h.mic1
  have m2 : rm.mic2.assembler.Lawful false := hs ▸ h.mic2
  rw [Room.left_eq]
  cases hc : rm.ctx.cuedBank with
  | none =>
    have hct : rm.ctx.cuedTicket = none := by simpa [hc] using h.cuedTicket
    refine Room.Quiet.lawful ?_ rfl (absurd hrun) (by simp [Port.emptied, hcal])
    exact {
      queue := ⟨rfl, rfl⟩, current := rfl, cued := hc, currentTicket := htick, cuedTicket := hct, songEnd := hk
      banks := h.banks, mic1 := m1, mic2 := m2 }
  | some b =>
    exact {
      off := absurd hrun, calibration := by simp [hcal], songEnd := by simp [hk], queue := nofun
      current := by simp [RoomContext.singing], cued := fun _ => by simp [hc], uncued := nofun
      currentTicket := by simp [htick], cuedTicket := fun _ => by simp [hc], roles := nofun
      cuedLoaded := h.cuedLoaded, currentLoaded := nofun, banks := h.banks, cuedLine := h.cuedLine
      currentLine := nofun, cursors := nofun, mic1 := m1, mic2 := m2 }

/-! ### Songs -/

/-- R54: a room whose current line moves to a loaded line of its current bank. -/
theorem Room.Lawful.setLine {m : Mode} {rm : Room} (h : rm.Lawful m) {k : Nat}
    (hk : ∀ b, rm.ctx.currentBank = some b → k < (rm.bank b).lines.length) :
    (rm.updCtx fun c => { c with lyric := { c.lyric with current := k } }).Lawful m :=
  { h with currentLine := fun b _ hb => hk b hb }

/-- A room that changes a microphone and keeps its cursors within the guide frontier of a song's bank. -/
theorem Room.Lawful.updMic {m : Mode} {rm : Room} (h : rm.Lawful m) {k : MicId} {f : Mic → Mic}
    (ha : (rm.mic k).assembler.Lawful rm.ctx.singing → (f (rm.mic k)).assembler.Lawful rm.ctx.singing)
    (hc : ∀ b, rm.ctx.singing = true → rm.ctx.currentBank = some b →
      (f (rm.mic k)).lane.cursorA ≤ (rm.bank b).guide.length ∧ (f (rm.mic k)).lane.cursorB ≤ (rm.bank b).guide.length) :
    (rm.updMic k f).Lawful m := by
  rcases bank_cases k with rfl | rfl
  · exact { h with
      mic1 := ha h.mic1
      cursors := fun b j hs hb => by
        rcases bank_cases j with rfl | rfl
        · exact hc b hs hb
        · exact h.cursors b 1 hs hb }
  · exact { h with
      mic2 := ha h.mic2
      cursors := fun b j hs hb => by
        rcases bank_cases j with rfl | rfl
        · exact h.cursors b 0 hs hb
        · exact hc b hs hb }

/-- R127: a lookup moves no cursor beyond the guide frontier. -/
theorem lookUp_cursors (l : Lane) (guide : List GuideNote) (t : Int)
    (h : l.cursorA ≤ guide.length ∧ l.cursorB ≤ guide.length) :
    (l.lookUp guide t).cursorA ≤ guide.length ∧ (l.lookUp guide t).cursorB ≤ guide.length := by
  have hA := (moveCursor_le Part.hasA t (guide.drop l.cursorA) l.cursorA).2
  have hB := (moveCursor_le Part.hasB t (guide.drop l.cursorB) l.cursorB).2
  rw [List.length_drop] at hA hB
  simp only [Lane.lookUp]
  omega

/-- R125: the lane with its cursors after a frame: as they stood, or after a lookup in the current bank's guide. -/
theorem decideOutcome_lane (rm : Room) (m : MicId) (f : ResultRecord) :
    (decideOutcome rm m f).2 = (rm.mic m).lane ∨
      ∃ t, (decideOutcome rm m f).2 = (rm.mic m).lane.lookUp (rm.currentBank?.getD {}).guide t := by
  unfold decideOutcome
  dsimp only
  split
  · exact .inl rfl
  · split
    · exact .inl rfl
    · split <;> exact .inr ⟨_, rfl⟩

/-- R132: crediting a frame moves no cursor. -/
theorem count_cursors (l : Lane) (o : FrameOutcome) :
    (l.count o).cursorA = l.cursorA ∧ (l.count o).cursorB = l.cursorB := by
  cases o <;> exact ⟨rfl, rfl⟩

/-- R125, R127: a room that takes a result record in a lane. -/
theorem Room.Lawful.scoreFrame {m : Mode} {rm : Room} (h : rm.Lawful m) (f : ResultRecord) :
    (rm.scoreFrame f).Lawful m := by
  unfold Room.scoreFrame
  split
  · exact h
  · refine h.updMic id (fun b hs hb => ?_)
    have hold := h.cursors b f.mic hs hb
    obtain ⟨eA, eB⟩ := count_cursors (decideOutcome rm f.mic f).2 (decideOutcome rm f.mic f).1
    dsimp only
    rw [eA, eB]
    rcases decideOutcome_lane rm f.mic f with e | ⟨t, e⟩ <;> rw [e]
    · exact hold
    · have hg : (rm.currentBank?.getD {}).guide = (rm.bank b).guide := by simp [Room.currentBank?, hb]
      rw [hg]; exact lookUp_cursors _ _ t hold

/-- R109: a room whose assemblers have added the period's input samples. -/
theorem Room.Lawful.assembled {m : Mode} {rm : Room} (h : rm.Lawful m) (x1 x2 : Option Sample) :
    (rm.assembled x1 x2).Lawful m :=
  { h with
    mic1 := take_lawful h.mic1 _ _, mic2 := take_lawful h.mic2 _ _
    cursors := fun b k => by
      rcases bank_cases k with rfl | rfl
      · exact h.cursors b 0
      · exact h.cursors b 1 }

/-- A room whose queue or pending END changes in one of the four states of a cue or song. -/
theorem Room.Lawful.setPort {m : Mode} {rm : Room} (h : rm.Lawful m) (hq : rm.ctx.state.quiet = false) {p : Port}
    (hp : p.calibration = rm.port.calibration) : ({ rm with port := p } : Room).Lawful m :=
  { h with calibration := hp ▸ h.calibration, queue := fun e => by simp [hq] at e }

end Sys2Proof.Machine
end

section
/-! PROOFS. The room law through the shared operations: reports, endings, the line test and the upstream scheduler. -/

namespace Sys2Proof.Machine

/-! ### Line-score events and the endings -/

theorem handLineScore_roomLaw {s : State} (r : RoomId) (line : Nat) (skipped : Bool) (h : s.RoomLaw) :
    (handLineScore r line skipped s).RoomLaw := by
  unfold handLineScore
  have hr := raise_roomLaw (b := .lineScore ((s.room r).lineScore r line skipped)) h rfl
  dsimp only
  split
  · exact hr
  · exact updRoom_roomLaw_of_lawPart hr rfl rfl

theorem dropLostLatch_stack (rm : Room) : rm.dropLostLatch.stack = rm.stack := by rw [Room.dropLostLatch_eq]

theorem leaveEnding_stack_lawful {s : State} {k : RoomId} (r : RoomId) (h : (s.room k).stack.Lawful k) :
    ((leaveEnding r s).room k).stack.Lawful k := by
  by_cases e : k = r
  · subst e
    unfold leaveEnding
    dsimp only
    split
    · refine markTest_stack_lawful _ ?_
      simpa [Room.updCtx, dropLostLatch_stack] using h
    · simpa [Room.updCtx, dropLostLatch_stack] using h
  · rw [leaveEnding_room_ne _ _ _ e]; exact h

theorem endRequest_stack (r k : RoomId) (s : State) : ((endRequest r s).room k).stack = (s.room k).stack := by
  unfold endRequest
  split
  · rfl
  · rw [pushToRoom_room, room_updRoom]
    split
    · next e => subst e; rfl
    · rfl

theorem takeEnding_stack_lawful {s : State} (r : RoomId) (reason : EndReason) (h : s.RoomLaw) (k : RoomId) :
    ((takeEnding r reason s).room k).stack.Lawful k := by
  by_cases e : k = r
  · subst e
    have line : ∀ x : State, (x.room k).stack.Lawful k →
        ((handLineScore k (s.room k).ctx.lyric.current false x).room k).stack.Lawful k := fun x hx => by
      unfold handLineScore
      simpa [Room.clearLines] using raise_stack_lawful _ hx
    have done : ((endRequest k ((raise (.songEnd ((s.room k).songEnd k reason))
        (handLineScore k (s.room k).ctx.lyric.current false (s.updRoom k fun rm =>
          rm.updCtx fun c => { c with state := .ending, endReason := some reason }))).updRoom k
        fun rm => rm.endSong reason)).room k).stack.Lawful k := by
      rw [endRequest_stack, room_updRoom_same, endSong_stack_eq]
      exact raise_stack_lawful _ (line _ (by simpa using (h k).2))
    unfold takeEnding
    dsimp only
    split
    · split
      · exact leaveEnding_stack_lawful k done
      · exact done
    · exact (h k).2
  · rw [takeEnding_room_ne _ _ _ _ e]; exact (h k).2

/-- R17, R18: an ending keeps the law, whether its SONG_END enters the queue or waits in its slot. -/
theorem takeEnding_roomLaw {s : State} (r : RoomId) (reason : EndReason) (h : s.RoomLaw) :
    (takeEnding r reason s).RoomLaw := by
  cases hs : (s.room r).ctx.singing with
  | false => rwa [takeEnding_not_singing _ _ _ hs]
  | true =>
    refine roomLaw_of_room r h (by simp) (fun k e => takeEnding_room_ne _ _ _ _ e) ⟨?_, takeEnding_stack_lawful r reason h r⟩
    have hend : (s.room r).stack.songEnd = none := by
      have hne : (s.room r).ctx.state ≠ .ending := by
        rcases (s.room r).ctx.singing_iff.mp hs with e | e <;> rw [e] <;> decide
      simpa [hne] using (h r).1.songEnd
    have hclosed : ((s.room r).closed reason).ctx.state = .ending := by rw [Room.closed_eq]
    rcases takeEnding_room r reason s hs with ⟨k, mark, hk, e⟩ | ⟨k, hk, e⟩ <;> rw [e]
    · have hc := (h r).1.closed hs reason
        (k := { songEnd := some (s.newReport (.songEnd ((s.room r).songEnd r reason))) }) rfl
      exact hc.left hclosed (hk.trans hend) mark
    · exact (h r).1.closed hs reason hk

/-! ### The line test -/

theorem largestQualifying_lt {lines : List Line} {current lead t k : Nat}
    (h : largestQualifying lines current lead t = some k) : k < lines.length := by
  have hm := List.mem_of_getLast? h
  exact List.mem_range.mp (List.mem_filter.mp hm).1

/-- R32, R56: the lines the sequencer reads are those of the current bank. -/
theorem lyricLines_of_current {rm : Room} {b : BankId} (h : rm.ctx.currentBank = some b) :
    rm.lyricLines = (rm.bank b).lines := by
  simp [Room.lyricLines, Room.currentBank?, h]

theorem handSkipped_roomLaw (r : RoomId) (ls : List Nat) {s : State} (h : s.RoomLaw) :
    (ls.foldl (fun acc j => handLineScore r j true acc) s).RoomLaw := by
  induction ls generalizing s with
  | nil => exact h
  | cons j ls ih => exact ih (handLineScore_roomLaw r j true h)

/-- R58: an advance to a loaded line keeps the law. -/
theorem advanceTo_roomLaw {s : State} {r : RoomId} {k : Nat} (t : Nat) (h : s.RoomLaw)
    (hk : k < (s.room r).lyricLines.length) : (advanceTo r k t s).RoomLaw := by
  obtain ⟨st, hst, e⟩ := advanceTo_room r k t s
  have hpassed := handSkipped_roomLaw r
    (List.range' ((s.room r).ctx.lyric.current + 1) (k - (s.room r).ctx.lyric.current - 1))
    (handLineScore_roomLaw r (s.room r).ctx.lyric.current false h)
  have hmode : (advanceTo r k t s).mode = s.mode := by
    unfold advanceTo
    simp only [updRoom_mode]
    rw [foldl_keeps _ State.mode (fun g j => handLineScore_mode r j true g)]
    simp
  refine roomLaw_of_room r h hmode (fun j hj => advanceTo_room_ne _ _ _ _ _ hj) ⟨?_, ?_⟩
  · rw [e]
    have hline := ((h r).1.setLine (k := k) fun b hb => lyricLines_of_current hb ▸ hk).setStack
      (k := st) (by rw [hst]; rfl)
    exact hline.congr rfl
  · unfold advanceTo
    simpa using (hpassed r).2

/-- R60, R61: the hold step keeps the law. -/
theorem holdStep_roomLaw {s : State} (r : RoomId) (t : Nat) (h : s.RoomLaw) : (holdStep r t s).RoomLaw := by
  have flags : ∀ f : RoomContext → RoomContext,
      ((s.room r).updCtx f).lawPart = (s.room r).lawPart → (s.updRoom r fun rm => rm.updCtx f).RoomLaw :=
    fun f hf => updRoom_roomLaw_of_lawPart h hf rfl
  have starve : ((s.room r).updCtx RoomContext.starve).lawPart = (s.room r).lawPart := by
    unfold Room.updCtx RoomContext.starve; split <;> rfl
  rcases holdStep_cases r t s with e | ⟨f, hf, e⟩ | ⟨_, e⟩ <;> rw [e]
  · exact h
  · rcases hf with rfl | rfl | rfl
    · exact flags _ rfl
    · exact flags _ rfl
    · exact flags _ starve
  · exact takeEnding_roomLaw r .halted (flags _ rfl)

/-- R57: the line test keeps the law. -/
theorem lineTest_roomLaw {s : State} (r : RoomId) (t : Nat) (h : s.RoomLaw) : (lineTest r t s).RoomLaw := by
  unfold lineTest
  dsimp only
  split
  · next k hk =>
    split
    · exact takeEnding_roomLaw r .halted h
    · exact holdStep_roomLaw r t (advanceTo_roomLaw t h (largestQualifying_lt hk))
  · exact holdStep_roomLaw r t h

theorem songTick_roomLaw {s : State} (r : RoomId) (h : s.RoomLaw) : (songTick r s).RoomLaw := by
  rcases songTick_cases r s with e | ⟨_, e⟩ <;> rw [e]
  · exact h
  · exact lineTest_roomLaw r _ h

/-! ### The upstream scheduler -/

/-- R18, R179: a stack gives up a report, and the room leaves ENDING when that is its SONG_END. -/
theorem drainRoom_roomLaw {s : State} (r : RoomId) (h : s.RoomLaw) : (drainRoom r s).RoomLaw := by
  unfold drainRoom
  split
  · exact h
  · next rep k htake =>
    obtain ⟨hk, hrep⟩ := takeFirst_lawful (h r).2 htake
    generalize hg : ({ s.updRoom r (fun rm => { rm with stack := k }) with
      reports := s.reports ++ [rep], lastServed := .room r } : State) = given
    have hroom : given.room r = { s.room r with stack := k } := by
      subst hg; exact room_updRoom_same s r fun rm => { rm with stack := k }
    have hne : ∀ j, j ≠ r → given.room j = s.room j := fun j hj => by
      subst hg; exact room_updRoom_ne s r j (fun rm => { rm with stack := k }) hj
    have hmode : given.mode = s.mode := by subst hg; rfl
    rcases hrep with ⟨⟨b, hb, _⟩, hold, hnone⟩ | ⟨hnot, hsame⟩
    · have hend : (s.room r).ctx.state = .ending := (h r).1.songEnd.mp (by rw [hold]; rfl)
      have hq : songEndQueued r rep given = leaveEnding r given := by simp [songEndQueued, hb, hroom, hend]
      rw [hq]
      refine roomLaw_of_room r h (by simp [hmode]) (fun j hj => by rw [leaveEnding_room_ne _ _ _ hj, hne j hj])
        ⟨?_, leaveEnding_stack_lawful r (by rw [hroom]; exact hk)⟩
      obtain ⟨k', mark, hk', e⟩ := leaveEnding_room r given
      rw [e, hroom, left_stack]
      rw [hroom] at hk'
      exact Room.Lawful.left (k0 := (s.room r).stack) (h r).1 hend (hk'.trans hnone) mark
    · have hq : songEndQueued r rep given = given := by
        unfold songEndQueued; split
        · next b hb => exact absurd hb (hnot b)
        · rfl
      rw [hq]
      refine roomLaw_of_room r h hmode hne ?_
      rw [hroom]
      exact ⟨(h r).1.setStack (by rw [hsame]), hk⟩

theorem drain_roomLaw {s : State} (h : s.RoomLaw) : (drain s).RoomLaw := by
  rcases drain_cases s with ⟨_, e⟩ | ⟨r, _, e⟩ | ⟨_, e⟩ <;> rw [e]
  · exact h
  · exact drainRoom_roomLaw r h
  · unfold drainChip; split
    · exact h
    · exact roomLaw_of_rooms h rfl fun _ => rfl

theorem updEntry_roomLaw {s : State} (r : RoomId) (ticket : Nat) (f : Entry → Entry) (h : s.RoomLaw) :
    (s.updEntry r ticket f).RoomLaw := updRoom_roomLaw_of_lawPart h rfl rfl

theorem schedule_roomLaw {s : State} (h : s.RoomLaw) : (schedule s).RoomLaw := by
  rcases schedule_cases s with ⟨rep, rest, _, e⟩ | ⟨_, _, e⟩ | ⟨sent, _, _, hq, e⟩ | ⟨rep, rest, _, _, _, _, e⟩ <;> rw [e]
  · exact roomLaw_of_rooms h rfl fun _ => rfl
  · exact roomLaw_of_rooms h rfl fun _ => rfl
  · rcases sendRequest_cases s with ⟨i, c, _, e⟩ | ⟨w, _, _, e⟩ | ⟨_, _, e⟩ <;> rw [e] at hq
    · cases hq
      exact roomLaw_of_rooms (updEntry_roomLaw i.room i.ticket _ h) rfl fun _ => rfl
    · cases hq
      exact roomLaw_of_rooms (updEntry_roomLaw w.1 w.2.ticket _ h) rfl fun _ => rfl
    · cases hq
  · exact drain_roomLaw (roomLaw_of_rooms h rfl fun _ => rfl)

theorem sendIfIdle_roomLaw {s : State} (h : s.RoomLaw) : s.sendIfIdle.RoomLaw := by
  rcases sendIfIdle_cases s with ⟨_, e⟩ | ⟨_, e⟩ <;> rw [e]
  · exact h
  · exact schedule_roomLaw h

/-! ### Orders and media cells -/

/-- An order keeps the law where its decision does. -/
theorem takeOrder_roomLaw {s : State} (inStandby : Bool) (room tag kind : Nat) {d : State → Verdict} (h : s.RoomLaw)
    (hd : ∀ x, x.RoomLaw → (d x).state.RoomLaw) : (takeOrder inStandby room tag kind d s).RoomLaw := by
  rcases takeOrder_cases inStandby room tag kind d s with e | e | e <;> rw [e]
  · exact roomLaw_of_rooms h rfl fun _ => rfl
  · exact roomLaw_of_rooms h rfl fun _ => rfl
  · exact sendIfIdle_roomLaw (roomLaw_of_rooms (hd s.countIn (roomLaw_of_rooms h rfl fun _ => rfl)) rfl fun _ => rfl)

theorem takeMedia_roomLaw {s : State} {act : State → State} (h : s.RoomLaw)
    (ha : ∀ x, x.RoomLaw → (act x).RoomLaw) : (takeMedia act s).RoomLaw := by
  rcases takeMedia_cases act s with e | e <;> rw [e]
  · exact roomLaw_of_rooms h rfl fun _ => rfl
  · exact ha _ (roomLaw_of_rooms h rfl fun _ => rfl)

end Sys2Proof.Machine
end

section
/-! PROOFS. The room law through every command (O15). -/

namespace Sys2Proof.Machine

/-! ### Room orders -/

theorem cueOrder_roomLaw (r : RoomId) (bank ticket : Nat) {s : State} (h : s.RoomLaw) :
    (cueOrder r bank ticket s).state.RoomLaw := by
  unfold cueOrder
  dsimp only
  split
  · exact h
  next ho =>
  split
  · exact h
  next hc =>
  split
  · exact h
  next b _ =>
  split
  · exact h
  next hb =>
  split
  · exact h
  next he =>
  split
  · exact h
  have hcued : (s.updRoom r fun x => x.cue b ticket).RoomLaw :=
    updRoom_roomLaw h ⟨(h r).1.cue ticket ho hc hb (by simpa using he), by rw [Room.cue_eq]; exact (h r).2⟩
  show (if _ then _ else _ : State).RoomLaw
  split
  · exact markTest_roomLaw r hcued
  · exact hcued

theorem markStale_roomLaw (r : RoomId) {s : State} (h : s.RoomLaw) : (markStale r s).RoomLaw :=
  roomLaw_of_rooms h rfl fun _ => rfl

theorem start_stack (rm : Room) : rm.start.stack = rm.stack := by
  unfold Room.start; simp only [Room.moveEntry?_eq]

theorem startOrder_roomLaw (r : RoomId) {s : State} (h : s.RoomLaw) : (startOrder r s).state.RoomLaw := by
  unfold startOrder
  split
  · next hc =>
    exact markStale_roomLaw r (updRoom_roomLaw h ⟨(h r).1.start hc, by rw [start_stack]; exact (h r).2⟩)
  · exact h
  · exact h

theorem moveOrder_roomLaw (r : RoomId) {source target : RoomState} {s : State} (h : s.RoomLaw)
    (hs : source = .playing ∨ source = .held) (ht : target = .playing ∨ target = .held) :
    (moveOrder r source target s).state.RoomLaw := by
  unfold moveOrder
  split
  · next e => exact updRoom_roomLaw h ⟨(h r).1.move ((RoomContext.singing_iff _).mpr (e ▸ hs)) ht, (h r).2⟩
  · exact h

theorem endCalibration_roomLaw (r : RoomId) (outcome : CalOutcome) (j : Nat) (f : Port → Port) {s : State}
    (h : s.RoomLaw) (hc : (s.room r).ctx.state = .calibrating)
    (hf : ∀ p, (f p).queue = p.queue ∧ (f p).pendingEnd = p.pendingEnd) :
    (endCalibration r outcome j f s).RoomLaw := by
  unfold endCalibration
  split
  · exact h
  · exact raise_roomLaw (updRoom_roomLaw h ⟨(h r).1.endCalibration hc f (hf _), (h r).2⟩) rfl

theorem calibrateOrder_roomLaw (r : RoomId) {s : State} (h : s.RoomLaw) : (calibrateOrder r s).state.RoomLaw := by
  unfold calibrateOrder
  dsimp only
  split
  · next hi =>
    split
    · exact h
    · exact updRoom_roomLaw h ⟨(h r).1.calibrate hi _, (h r).2⟩
  · exact h

theorem calTimeout_roomLaw (r : RoomId) {s : State} (h : s.RoomLaw) : (calTimeout r s).RoomLaw := by
  unfold calTimeout
  split
  · next hw =>
    have hc : (s.room r).ctx.state = .calibrating := by
      unfold Room.windowEnding at hw
      split at hw
      · cases hw
      · simp only [Bool.and_eq_true, beq_iff_eq] at hw; exact hw.1
    exact sendIfIdle_roomLaw (endCalibration_roomLaw r .timeout 0 id h hc fun _ => ⟨rfl, rfl⟩)
  · exact h

theorem withdrawCue_stack (rm : Room) : rm.withdrawCue.stack = rm.stack := by rw [Room.withdrawCue_eq]

theorem releaseCue_stack (rm : Room) : rm.releaseCue.stack = rm.stack := by
  unfold Room.releaseCue; rw [withdrawCue_stack, Room.moveEntry?_stack]

theorem stopOrder_roomLaw (r : RoomId) {s : State} (h : s.RoomLaw) : (stopOrder r s).state.RoomLaw := by
  unfold stopOrder
  split
  · exact takeEnding_roomLaw r .stopped h
  · exact takeEnding_roomLaw r .stopped h
  · next hc => exact endCalibration_roomLaw r .aborted 0 id h hc fun _ => ⟨rfl, rfl⟩
  · exact updRoom_roomLaw h ⟨(h r).1.releaseCue, by rw [releaseCue_stack]; exact (h r).2⟩
  · exact h

theorem haltOrder_roomLaw (r : RoomId) {s : State} (h : s.RoomLaw) : (haltOrder r s).state.RoomLaw := by
  unfold haltOrder
  dsimp only
  split
  · split
    · exact takeEnding_roomLaw r .halted h
    · exact updRoom_roomLaw_of_lawPart h rfl rfl
  · exact h

/-! ### ROOM_RESET -/

theorem reset_stack (rm : Room) (m : Mode) (clearReports : Bool) :
    (rm.reset m clearReports).stack = rm.stack.afterReset clearReports := by rw [Room.reset_eq]

@[simp] theorem afterReset_songEnd (k : RoomStack) (clearReports : Bool) : (k.afterReset clearReports).songEnd = none := by
  cases clearReports <;> rfl

@[simp] theorem markStale_room (r k : RoomId) (s : State) : (markStale r s).room k = s.room k := rfl

/-- R20: the state after a room's reset, before the CAL_DONE of an aborted calibration is raised. -/
def resetQuietly (r : RoomId) (s : State) : State :=
  let reset := s.updRoom r fun rm => rm.reset s.mode s.chip.clearReports
  markStale r (emptyOutboxes r { reset with cancelQueue := reset.cancelQueue.filter fun i => i.room != r })

theorem resetRoom_eq (r : RoomId) (s : State) :
    resetRoom r s = match (s.room r).port.calibration with
      | none => resetQuietly r s
      | some c => raise (calDone r c .aborted 0 (s.room r).port) (resetQuietly r s) := rfl

theorem resetQuietly_room (r k : RoomId) (s : State) :
    (resetQuietly r s).room k = if k = r then (s.room r).reset s.mode s.chip.clearReports else s.room k := by
  unfold resetQuietly
  rw [markStale_room, emptyOutboxes_room]
  exact room_updRoom s r k fun rm => rm.reset s.mode s.chip.clearReports

/-- Everything that ROOM_RESET can do about a calibration in flight. -/
theorem resetRoom_cases (r : RoomId) (s : State) :
    (s.room r).port.calibration = none ∧ resetRoom r s = resetQuietly r s ∨
      ∃ c, (s.room r).port.calibration = some c ∧
        resetRoom r s = raise (calDone r c .aborted 0 (s.room r).port) (resetQuietly r s) := by
  rw [resetRoom_eq]
  split
  · next h => exact .inl ⟨h, rfl⟩
  · next c h => exact .inr ⟨c, h, rfl⟩

theorem resetRoom_room_ne (r k : RoomId) (s : State) (h : k ≠ r) : (resetRoom r s).room k = s.room k := by
  have hq : (resetQuietly r s).room k = s.room k := by rw [resetQuietly_room, if_neg h]
  rcases resetRoom_cases r s with ⟨_, e⟩ | ⟨c, _, e⟩ <;> rw [e]
  · exact hq
  · rw [raise_room_ne _ _ _ (by simp [calDone, ReportBody.owner, Ne.symm h]), hq]

/-- R20, R21: the room that ROOM_RESET leaves: a CAL_DONE may have gone to the stack. -/
theorem resetRoom_room (r : RoomId) (s : State) :
    (resetRoom r s).room r = (s.room r).reset s.mode s.chip.clearReports ∨
      ∃ rep : Report, rep.body.owner = .room r ∧ rep.body.isSongEnd = false ∧
        (resetRoom r s).room r = { (s.room r).reset s.mode s.chip.clearReports with
          stack := ((s.room r).stack.afterReset s.chip.clearReports).put rep } := by
  have hq : (resetQuietly r s).room r = (s.room r).reset s.mode s.chip.clearReports := by
    rw [resetQuietly_room, if_pos rfl]
  rcases resetRoom_cases r s with ⟨_, e⟩ | ⟨c, _, e⟩ <;> rw [e]
  · exact .inl hq
  · rcases raise_room (calDone r c .aborted 0 (s.room r).port) (resetQuietly r s) r with e | e
    · exact .inl (e.trans hq)
    · refine .inr ⟨(resetQuietly r s).newReport (calDone r c .aborted 0 (s.room r).port), rfl, rfl, ?_⟩
      rw [e, hq, reset_stack]

@[simp] theorem resetRoom_mode (r : RoomId) (s : State) : (resetRoom r s).mode = s.mode := by
  unfold resetRoom; dsimp only; split <;> simp [markStale]

@[simp] theorem resetRoom_chip (r : RoomId) (s : State) : (resetRoom r s).chip = s.chip := by
  unfold resetRoom; dsimp only; split <;> simp [markStale]

/-- A room after its reset agrees with the chip mode, if it agreed with some mode before. -/
theorem resetRoom_ok {m : Mode} (r : RoomId) {s : State} (h : RoomOk m r (s.room r)) :
    RoomOk s.mode r ((resetRoom r s).room r) := by
  have hk := afterReset_lawful h.2 s.chip.clearReports
  rcases resetRoom_room r s with e | ⟨rep, ho, hb, e⟩ <;> rw [e]
  · refine ⟨?_, by rw [reset_stack]; exact hk⟩
    have := h.1.reset (n := s.mode) s.chip.clearReports (afterReset_songEnd (s.room r).stack s.chip.clearReports)
    rwa [← reset_stack _ s.mode] at this
  · exact ⟨h.1.reset _ (by rw [put_songEnd _ _ hb]; simp), put_lawful hk ho⟩

theorem resetRoom_roomLaw (r : RoomId) {s : State} (h : s.RoomLaw) : (resetRoom r s).RoomLaw :=
  roomLaw_of_room r h (resetRoom_mode r s) (fun k e => resetRoom_room_ne r k s e) (resetRoom_ok r (h r))

/-! ### SET_MODE -/

/-- An operation on each room in turn, that changes its own room alone, acts on each room as on the state it finds. -/
theorem foldl_allRooms_room (op : RoomId → State → State) (hop : ∀ r k s, k ≠ r → (op r s).room k = s.room k)
    (hm : ∀ r s, (op r s).mode = s.mode) (s : State) (r : RoomId) :
    ∃ x : State, x.mode = s.mode ∧ x.room r = s.room r
      ∧ (allRooms.foldl (fun acc r => op r acc) s).room r = (op r x).room r := by
  show ∃ x : State, _ ∧ _ ∧ (op 3 (op 2 (op 1 (op 0 s)))).room r = _
  match r with
  | 0 => exact ⟨s, rfl, rfl, by rw [hop _ _ _ (by decide), hop _ _ _ (by decide), hop _ _ _ (by decide)]⟩
  | 1 =>
    exact ⟨op 0 s, hm _ _, hop _ _ _ (by decide), by rw [hop _ _ _ (by decide), hop _ _ _ (by decide)]⟩
  | 2 =>
    exact ⟨op 1 (op 0 s), by simp [hm], by rw [hop _ _ _ (by decide), hop _ _ _ (by decide)],
      by rw [hop _ _ _ (by decide)]⟩
  | 3 =>
    exact ⟨op 2 (op 1 (op 0 s)), by simp [hm],
      by rw [hop _ _ _ (by decide), hop _ _ _ (by decide), hop _ _ _ (by decide)], rfl⟩

@[simp] theorem mapRooms_room (s : State) (f : Room → Room) (r : RoomId) : (s.mapRooms f).room r = f (s.room r) := by
  obtain ⟨x, _, hr, e⟩ := foldl_allRooms_room (fun r x => x.updRoom r f) (fun r k x => room_updRoom_ne x r k f)
    (fun _ _ => rfl) s r
  rw [← hr]; exact e.trans (room_updRoom_same x r f)

@[simp] theorem mapRooms_mode (s : State) (f : Room → Room) : (s.mapRooms f).mode = s.mode := rfl

@[simp] theorem beginPoll_room (e : PanelId) (s : State) (r : RoomId) : (beginPoll e s).room r = s.room r := rfl
@[simp] theorem beginPoll_mode (e : PanelId) (s : State) : (beginPoll e s).mode = s.mode := rfl
@[simp] theorem startPolling_room (s : State) (r : RoomId) : (startPolling s).room r = s.room r := by
  unfold startPolling; split <;> rfl
@[simp] theorem startPolling_mode (s : State) : (startPolling s).mode = s.mode := by
  unfold startPolling; split <;> rfl

theorem enabled_stack (rm : Room) : rm.enabled.stack = rm.stack := by unfold Room.enabled; split <;> rfl

theorem enterRun_roomLaw {s : State} (h : s.RoomLaw) (hm : s.mode = .config) : (enterRun s).RoomLaw := fun r => by
  unfold enterRun
  rw [startPolling_mode, startPolling_room, mapRooms_room, enabled_stack]
  exact ⟨Room.Lawful.enabled (hm ▸ (h r).1), (h r).2⟩

theorem leaveRun_roomLaw {s : State} (h : s.RoomLaw) : (leaveRun s).RoomLaw := fun r => by
  have hmode : (leaveRun s).mode = .config :=
    foldl_keeps (fun acc r => resetRoom r acc) State.mode (fun g j => resetRoom_mode j g) allRooms _
  obtain ⟨x, hx, hr, e⟩ := foldl_allRooms_room resetRoom resetRoom_room_ne resetRoom_mode
    { s with mode := .config, polling := none } r
  have hok : RoomOk s.mode r (x.room r) := by rw [hr]; exact h r
  have hreset := resetRoom_ok r hok
  rw [hx] at hreset
  rw [hmode]
  unfold leaveRun
  rw [e]
  exact hreset

theorem enterStop_roomLaw {s : State} (h : s.RoomLaw) (hm : s.mode = .config) : (enterStop s).RoomLaw := fun r => by
  unfold enterStop
  rw [mapRooms_room]
  exact ⟨((h r).1.inMode .stop fun _ => (h r).1.off (by rw [hm]; decide)).congr rfl, (h r).2⟩

theorem setModeOrder_roomLaw (mode : Nat) {s : State} (h : s.RoomLaw) : (setModeOrder mode s).state.RoomLaw := by
  unfold setModeOrder
  split
  · exact h
  split
  · exact h
  · exact h
  · exact h
  · next hm _ =>
    split
    · exact enterRun_roomLaw h hm
    · exact h
  · split
    · exact h
    · exact leaveRun_roomLaw h
  · exact h
  · next hm _ => exact enterStop_roomLaw h hm
  · next hm _ => exact fun r => ⟨(h r).1.inMode .config fun _ => (h r).1.off (by rw [hm]; decide), (h r).2⟩
  · exact h

/-! ### Banks -/

theorem updBank_roomLaw {s : State} {r : RoomId} {b : BankId} {f : Bank → Bank} (h : s.RoomLaw)
    (hl : (f ((s.room r).bank b)).Lawful)
    (hb : (s.room r).holds b → ((s.room r).bank b).Carries (f ((s.room r).bank b))) :
    (s.updRoom r fun rm => rm.updBank b f).RoomLaw :=
  updRoom_roomLaw h ⟨(h r).1.updBank hl hb, by rw [Room.updBank_stack]; exact (h r).2⟩

/-- R35, R40: a bank that a cue or song holds is loaded. -/
theorem Room.Lawful.loaded_of_holds {m : Mode} {rm : Room} (h : rm.Lawful m) {b : BankId} (hb : rm.holds b) :
    (rm.bank b).loaded = true := by
  rcases hb with hc | ⟨hs, hc⟩
  · exact h.cuedLoaded b hc
  · exact h.currentLoaded b hs hc

theorem bankOpenOrder_roomLaw (r : RoomId) (bank songId lines syllables notes : Nat) {s : State} (h : s.RoomLaw) :
    (bankOpenOrder r bank songId lines syllables notes s).state.RoomLaw := by
  unfold bankOpenOrder
  split
  · exact h
  split
  · exact h
  · exact h
  · exact h
  · next b _ he =>
    split
    · next hd =>
      refine updBank_roomLaw h (openedBank_lawful songId lines syllables notes hd) fun hb => ?_
      have := (h r).1.loaded_of_holds hb
      simp [Bank.loaded, he] at this
    · exact h

theorem bankCloseOrder_roomLaw (r : RoomId) (bank : Nat) {s : State} (h : s.RoomLaw) :
    (bankCloseOrder r bank s).state.RoomLaw := by
  unfold bankCloseOrder
  split
  · exact h
  next b _ =>
  dsimp only
  split
  · next hf =>
    split
    · next hc =>
      exact updBank_roomLaw h (closeBank_lawful _ ((h r).1.banks b) hf hc)
        fun _ => ⟨fun _ => rfl, Nat.le_refl _, Nat.le_refl _⟩
    · exact h
  · exact h

theorem clearBank_stack (rm : Room) (b : BankId) : (rm.clearBank b).stack = rm.stack := by rw [Room.clearBank_eq]

theorem bankClearOrder_roomLaw (r : RoomId) (bank : Nat) {s : State} (h : s.RoomLaw) :
    (bankClearOrder r bank s).state.RoomLaw := by
  unfold bankClearOrder
  split
  · exact h
  next b _ =>
  dsimp only
  split
  · exact h
  next hcur =>
  split
  · refine updRoom_roomLaw h ?_
    split
    · have hl := (h r).1.releaseCue
      refine ⟨hl.clearBank fun hb => ?_, by rw [clearBank_stack, releaseCue_stack]; exact (h r).2⟩
      have hctx : (s.room r).releaseCue.ctx.cuedBank = none
          ∧ (s.room r).releaseCue.ctx.currentBank = (s.room r).ctx.currentBank
          ∧ ((s.room r).releaseCue.ctx.singing = true → (s.room r).ctx.singing = true) := by
        unfold Room.releaseCue
        rw [Room.withdrawCue_eq, Room.moveEntry?_ctx]
        refine ⟨rfl, rfl, fun e => ?_⟩
        by_cases hc : (s.room r).ctx.state = .cued
        · simp [hc, RoomContext.singing] at e
        · simpa [hc, RoomContext.singing] using e
      obtain ⟨hn, he, hs⟩ := hctx
      rcases hb with e | ⟨e, e'⟩
      · simp [hn] at e
      · exact hcur ⟨he ▸ e', hs e⟩
    · next hcue =>
      refine ⟨(h r).1.clearBank fun hb => ?_, by rw [clearBank_stack]; exact (h r).2⟩
      rcases hb with e | ⟨e, e'⟩
      · exact hcue e
      · exact hcur ⟨e', e⟩
  · exact h

/-- What a record check keeps of a bank that takes the record: no frontier moves back. -/
def Grows {α : Type} (take : Bank → α → Option Bank) : Prop :=
  ∀ b b' x, take b x = some b' → b.lines.length ≤ b'.lines.length ∧ b.guide.length ≤ b'.guide.length

theorem takeRecords_grows {α : Type} {take : Bank → α → Option Bank} (hg : Grows take) (xs : List α) (b b' : Bank)
    (i : Nat) (e : takeRecords take b i xs = .ok b') :
    b.lines.length ≤ b'.lines.length ∧ b.guide.length ≤ b'.guide.length := by
  induction xs generalizing b i with
  | nil => cases e; exact ⟨Nat.le_refl _, Nat.le_refl _⟩
  | cons x xs ih =>
    simp only [takeRecords] at e
    split at e
    · cases e
    · next c hc =>
      have h1 := hg b c x hc
      have h2 := ih c (i + 1) e
      exact ⟨Nat.le_trans h1.1 h2.1, Nat.le_trans h1.2 h2.2⟩

/-- R27: an APPEND that is taken has passed every check, and its records are in the bank. -/
theorem appendVerdict_taken {α : Type} {take : Bank → α → Option Bank} {frontier declared : Bank → Nat}
    {b b' : Bank} {first : Nat} {xs : List α} (e : appendVerdict take frontier declared b first xs = .taken b') :
    takeRecords take b 0 xs = .ok b' := by
  unfold appendVerdict at e
  split at e
  · cases e
  split at e
  · cases e
  split at e
  · cases e
  split at e
  · cases e
  · next hok => cases e; exact hok

theorem takeSyllable_grows : Grows takeSyllable := fun b b' x e => by
  unfold takeSyllable at e
  split at e
  · cases e
  · cases e; exact ⟨Nat.le_refl _, Nat.le_refl _⟩

theorem takeLine_grows : Grows takeLine := fun b b' x e => by
  unfold takeLine at e
  split at e
  · cases e
  · split at e
    · cases e
    · cases e; exact ⟨by simp, Nat.le_refl _⟩

theorem takeGuide_grows : Grows takeGuide := fun b b' x e => by
  unfold takeGuide at e
  split at e
  · cases e
  · split at e
    · cases e
    · cases e; exact ⟨Nat.le_refl _, by simp⟩

/-- R27: an APPEND keeps the law where its record's check keeps a bank lawful, and what follows it keeps the law. -/
theorem appendOrder_roomLaw {α : Type} {take : Bank → α → Option Bank} {frontier declared : Bank → Nat}
    {after : BankId → State → State} (r : RoomId) (bank first : Nat) (xs : List α) {s : State} (h : s.RoomLaw)
    (one : ∀ b b' x, b.Lawful → b.state = .filling → frontier b < declared b → take b x = some b' →
      b'.Lawful ∧ b'.state = .filling ∧ frontier b' = frontier b + 1 ∧ declared b' = declared b)
    (hg : Grows take) (hafter : ∀ b x, x.RoomLaw → (after b x).RoomLaw) :
    (appendOrder take frontier declared after r bank first xs s).state.RoomLaw := by
  unfold appendOrder
  split
  · exact h
  next b _ =>
  split
  · exact h
  · next record htaken =>
    obtain ⟨hl, _, hf, _⟩ := appendVerdict_lawful take frontier declared one _ _ first xs ((h r).1.banks b) htaken
    obtain ⟨hlines, hguide⟩ := takeRecords_grows hg xs _ _ 0 (appendVerdict_taken htaken)
    exact hafter b _ (updBank_roomLaw h hl fun _ => ⟨fun _ => by simp [Bank.loaded, hf], hlines, hguide⟩)

theorem linesOrder_roomLaw (r : RoomId) (bank first : Nat) (recs : List LineRec) {s : State} (h : s.RoomLaw) :
    (linesOrder r bank first recs s).state.RoomLaw := by
  refine appendOrder_roomLaw r bank first recs h (fun b b' x => takeLine_lawful b b' x) takeLine_grows fun b x hx => ?_
  unfold lineAppendEvent
  dsimp only
  split
  · exact lineTest_roomLaw r _ hx
  · exact hx

theorem syllablesOrder_roomLaw (r : RoomId) (bank first : Nat) (recs : List SyllableRec) {s : State} (h : s.RoomLaw) :
    (syllablesOrder r bank first recs s).state.RoomLaw :=
  appendOrder_roomLaw r bank first recs h (fun b b' x => takeSyllable_lawful b b' x) takeSyllable_grows fun _ _ hx => hx

theorem guideOrder_roomLaw (r : RoomId) (bank first : Nat) (recs : List GuideRec) {s : State} (h : s.RoomLaw) :
    (guideOrder r bank first recs s).state.RoomLaw :=
  appendOrder_roomLaw r bank first recs h (fun b b' x => takeGuide_lawful b b' x) takeGuide_grows fun _ _ hx => hx

theorem bankClearingComplete_roomLaw (r : RoomId) (b : BankId) {s : State} (h : s.RoomLaw) :
    (bankClearingComplete r b s).RoomLaw := by
  unfold bankClearingComplete
  split
  · next hc =>
    refine sendIfIdle_roomLaw (raise_roomLaw (updBank_roomLaw h emptyBank_lawful fun hb => ?_) rfl)
    have := (h r).1.loaded_of_holds hb
    simp [Bank.loaded, hc.2] at this
  · exact h

end Sys2Proof.Machine
end

section
/-! PROOFS. The room law through the sample period, the panels, the requests and the cells of the trunk; and O15. -/

namespace Sys2Proof.Machine

/-! ### Audio and the sample period -/

/-- R95: the queue of a room in one of the four states of a cue or song takes a cell. -/
theorem audioCell_roomLaw (r : RoomId) (endFlag : Bool) (samples : List Stereo) {s : State} (h : s.RoomLaw) :
    (audioCell r endFlag samples s).RoomLaw := by
  unfold audioCell
  dsimp only
  split
  · exact updRoom_roomLaw_of_lawPart h rfl rfl
  split
  · exact updRoom_roomLaw_of_lawPart h rfl rfl
  split
  · exact updRoom_roomLaw_of_lawPart h rfl rfl
  · exact updRoom_roomLaw_of_lawPart h rfl rfl
  · exact updRoom_roomLaw_of_lawPart h rfl rfl
  · next ho hi hc =>
    have hq : (s.room r).ctx.state.quiet = false := by
      cases hst : (s.room r).ctx.state <;> simp_all [RoomState.quiet]
    refine sendIfIdle_roomLaw (markTest_roomLaw r (updRoom_roomLaw h ⟨(h r).1.setPort hq ?_, (h r).2⟩))
    unfold Port.queueCell
    dsimp only
    split
    · split <;> rfl
    · rfl

/-- R97: the backing queue's work of one period keeps the law. -/
theorem backingOutput_roomLaw (r : RoomId) {s : State} (h : s.RoomLaw) : (backingOutput r s).RoomLaw := by
  unfold backingOutput
  dsimp only
  split
  · next hp =>
    have hq : (s.room r).ctx.state.quiet = false := by rw [hp]; rfl
    split
    · exact takeEnding_roomLaw r .complete (updRoom_roomLaw h ⟨(h r).1.setPort hq rfl, (h r).2⟩)
    split
    · refine updRoom_roomLaw_of_lawPart h ?_ ?_
      · unfold Room.underrun; dsimp only; split <;> rfl
      · unfold Room.underrun; dsimp only; split <;> rfl
    · next x rest _ =>
      have hport := (h r).1.setPort hq (p := { (s.room r).port with queue := rest, inUnderrun := false }) rfl
      have hadv : (s.updRoom r fun y => y.advanced rest).RoomLaw := updRoom_roomLaw h ⟨hport.congr rfl, (h r).2⟩
      have hmarked := markTest_roomLaw r (songTick_roomLaw r hadv)
      split
      · exact takeEnding_roomLaw r .complete hmarked
      · exact hmarked
  · exact h

theorem captureStep_roomLaw (r : RoomId) (c : Calibration) (input : Option Sample) {s : State} (h : s.RoomLaw)
    (hc : (s.room r).ctx.state = .calibrating) : (captureStep r c input s).RoomLaw := by
  unfold captureStep
  split
  · exact endCalibration_roomLaw r .ok c.period _ h hc fun _ => ⟨rfl, rfl⟩
  split
  · exact endCalibration_roomLaw r .timeout 0 id h hc fun _ => ⟨rfl, rfl⟩
  · refine updRoom_roomLaw h ⟨{ (h r).1 with calibration := by simp [hc] }, (h r).2⟩

theorem calibrationStep_roomLaw (r : RoomId) (inputs : Vector Sample 8) {s : State} (h : s.RoomLaw) :
    (calibrationStep r inputs s).RoomLaw := by
  unfold calibrationStep
  split
  · next hc _ => exact captureStep_roomLaw r _ _ h hc
  · exact h

/-- R90: a room's share of a sample period keeps the law. -/
theorem roomShare_roomLaw (r : RoomId) (inputs : Vector Sample 8) {s : State} (h : s.RoomLaw) :
    (roomShare r inputs s).1.RoomLaw := by
  unfold roomShare
  exact calibrationStep_roomLaw r inputs (backingOutput_roomLaw r
    (updRoom_roomLaw h ⟨(h r).1.assembled (s.micInput inputs r 0) (s.micInput inputs r 1), (h r).2⟩))

theorem roomShares_roomLaw (inputs : Vector Sample 8) (order : List RoomId) {s : State} (h : s.RoomLaw) :
    (roomShares inputs order s).1.RoomLaw := by
  unfold roomShares
  suffices ∀ acc : State × List FrameRecord, acc.1.RoomLaw →
      (order.foldl (fun acc r => ((roomShare r inputs acc.1).1, acc.2 ++ (roomShare r inputs acc.1).2)) acc).1.RoomLaw
    from this (s, []) h
  induction order with
  | nil => exact fun _ h => h
  | cons r rs ih => exact fun acc h => ih _ (roomShare_roomLaw r inputs h)

theorem beginAnalysis_roomLaw {s : State} (h : s.RoomLaw) : (beginAnalysis s).RoomLaw := by
  unfold beginAnalysis; split
  · exact roomLaw_of_rooms h rfl fun _ => rfl
  · exact h

/-- A change of a microphone that leaves its lane's cursors and keeps its assembler lawful. -/
theorem updMic_roomLaw {s : State} {r : RoomId} {k : MicId} {f : Mic → Mic} (h : s.RoomLaw)
    (hf : (f ((s.room r).mic k)).lawPart.lane = ((s.room r).mic k).lawPart.lane)
    (ha : ∀ b, ((s.room r).mic k).assembler.Lawful b → (f ((s.room r).mic k)).assembler.Lawful b) :
    (s.updRoom r fun rm => rm.updMic k f).RoomLaw := by
  refine updRoom_roomLaw h ⟨(h r).1.updMic (ha _) fun b hs hb => ?_, by rw [Room.updMic_stack]; exact (h r).2⟩
  simp only [Mic.lawPart, Lane.mk.injEq, true_and] at hf
  rw [hf.1, hf.2]
  exact (h r).1.cursors b k hs hb

/-- R111: a frame record offered to the frame queue is queued, or counts in DROPPED. -/
theorem offerFrame_roomLaw (f : FrameRecord) {s : State} (h : s.RoomLaw) : (offerFrame f s).RoomLaw := by
  unfold offerFrame
  split
  · exact beginAnalysis_roomLaw (roomLaw_of_rooms h rfl fun _ => rfl)
  · exact updMic_roomLaw h rfl fun _ ha => ⟨ha.assembling, ha.empty, ha.partialFrame⟩

/-- A fold keeps the law where each of its steps does. -/
theorem foldl_roomLaw {α : Type} (f : State → α → State) (hf : ∀ s a, s.RoomLaw → (f s a).RoomLaw) (l : List α)
    {s : State} (h : s.RoomLaw) : (l.foldl f s).RoomLaw := by
  induction l generalizing s with
  | nil => exact h
  | cons a l ih => exact ih (hf s a h)

theorem samplePeriod_roomLaw (inputs : Vector Sample 8) (roomOrder offerOrder : Nat) {s : State} (h : s.RoomLaw) :
    (samplePeriod inputs roomOrder offerOrder s).RoomLaw := by
  unfold samplePeriod
  split
  · exact roomLaw_of_rooms h rfl fun _ => rfl
  · refine sendIfIdle_roomLaw (foldl_roomLaw _ (fun s f hs => offerFrame_roomLaw f hs) _ ?_)
    exact roomShares_roomLaw inputs _ (roomLaw_of_rooms h rfl fun _ => rfl)

theorem songPositionLimit_roomLaw (r : RoomId) {s : State} (h : s.RoomLaw) : (songPositionLimit r s).RoomLaw := by
  unfold songPositionLimit
  split
  · exact sendIfIdle_roomLaw (backingOutput_roomLaw r (roomLaw_of_rooms h rfl fun _ => rfl))
  · exact h

theorem scoreFrame_stack (rm : Room) (f : ResultRecord) : (rm.scoreFrame f).stack = rm.stack := by
  unfold Room.scoreFrame; split
  · rfl
  · simp

/-- R112: a completed analysis is handed to the lane of its microphone. -/
theorem analysisComplete_roomLaw {s : State} (h : s.RoomLaw) : (analysisComplete s).RoomLaw := by
  unfold analysisComplete
  split
  · exact h
  split
  · next a f rest _ _ =>
    have hscored : (s.updRoom f.room fun rm => rm.scoreFrame (analyse a f)).RoomLaw :=
      updRoom_roomLaw h ⟨(h f.room).1.scoreFrame _, by rw [scoreFrame_stack]; exact (h f.room).2⟩
    have hkept := updMic_roomLaw (r := f.room) (k := f.mic) (f := fun m => { m with lastResult := some (analyse a f) })
      hscored rfl fun _ ha => ha
    have hboth : (s.updRoom f.room fun rm => (rm.scoreFrame (analyse a f)).updMic f.mic fun m =>
        { m with lastResult := some (analyse a f) }).RoomLaw := by
      have hok := hkept f.room
      rw [room_updRoom_same, room_updRoom_same] at hok
      exact updRoom_roomLaw h hok
    exact beginAnalysis_roomLaw (roomLaw_of_rooms hboth rfl fun _ => rfl)
  · exact h

/-! ### Requests -/

theorem pushResult_roomLaw (e : PanelId) (k : ResultKind) {s : State} (h : s.RoomLaw) : (pushResult e k s).RoomLaw :=
  roomLaw_of_rooms h rfl fun _ => rfl

theorem removeWithResult_roomLaw (r : RoomId) (e : Entry) (k : ResultKind) {s : State} (h : s.RoomLaw) :
    (removeWithResult r e k s).RoomLaw :=
  pushResult_roomLaw _ _ (updRoom_roomLaw_of_lawPart h rfl rfl)

theorem takeRequest_roomLaw (r : RoomId) (e : PanelId) (song : Nat) (keyShift : Int) (tag : Nat) {s : State}
    (h : s.RoomLaw) : (takeRequest r e song keyShift tag s).RoomLaw := by
  unfold takeRequest
  dsimp only
  split
  · exact pushResult_roomLaw _ _ (updRoom_roomLaw_of_lawPart h rfl rfl)
  split
  · exact pushResult_roomLaw _ _ (updRoom_roomLaw_of_lawPart h rfl rfl)
  · refine pushResult_roomLaw _ _ (roomLaw_of_rooms (updRoom_roomLaw_of_lawPart (r := r) (f := fun rm => { rm with
        requests := rm.requests ++ [s.newEntry e song keyShift tag (s.room r).nextTicket]
        ticketCounter := (s.room r).nextTicket
        requestCounters :=
          { rm.requestCounters with ticketsIssued := bump rm.requestCounters.ticketsIssued 1 } }) h rfl rfl) rfl
      fun _ => rfl)

theorem beginCancel_roomLaw (r : RoomId) (ticket : Nat) {s : State} (h : s.RoomLaw) :
    (beginCancel r ticket s).RoomLaw :=
  roomLaw_of_rooms (updEntry_roomLaw r ticket (fun x => { x with state := .cancelling, sentTime := none }) h) rfl
    fun _ => rfl

theorem takeCancel_roomLaw (r : RoomId) (e : PanelId) (ticket : Nat) {s : State} (h : s.RoomLaw) :
    (takeCancel r e ticket s).RoomLaw := by
  unfold takeCancel
  split
  · exact pushResult_roomLaw _ _ h
  split
  · exact pushResult_roomLaw _ _ h
  split
  · exact removeWithResult_roomLaw _ _ _ h
  · exact beginCancel_roomLaw _ _ h
  · exact beginCancel_roomLaw _ _ h
  · exact h
  · exact pushResult_roomLaw _ _ h
  · exact pushResult_roomLaw _ _ h

/-- An answering order keeps the law where what it does to the named entry does. -/
theorem withEntry_roomLaw (r : RoomId) (ticket : Nat) {act : Entry → State → Verdict} {s : State} (h : s.RoomLaw)
    (ha : ∀ e, (act e s).state.RoomLaw) : (withEntry r ticket act s).state.RoomLaw := by
  unfold withEntry; split
  · exact h
  · exact ha _

theorem acceptEntry_roomLaw (r : RoomId) (ticket position : Nat) (e : Entry) {s : State} (h : s.RoomLaw) :
    (acceptEntry r ticket position e s).state.RoomLaw := by
  unfold acceptEntry
  split
  · exact pushResult_roomLaw _ _ (updEntry_roomLaw _ _ _ h)
  · exact updEntry_roomLaw _ _ _ h
  all_goals exact h

theorem positionEntry_roomLaw (r : RoomId) (ticket position : Nat) (e : Entry) {s : State} (h : s.RoomLaw) :
    (positionEntry r ticket position e s).state.RoomLaw := by
  unfold positionEntry
  dsimp only
  split
  · exact pushResult_roomLaw _ _ (updEntry_roomLaw _ _ _ h)
  · exact pushResult_roomLaw _ _ (updEntry_roomLaw _ _ _ h)
  · exact updEntry_roomLaw _ _ _ h
  all_goals exact h

theorem confirmCancel_roomLaw (r : RoomId) (e : Entry) {s : State} (h : s.RoomLaw) : (confirmCancel r e s).RoomLaw :=
  removeWithResult_roomLaw _ _ _ (roomLaw_of_rooms h rfl fun _ => rfl)

theorem refuseOrder_roomLaw (r : RoomId) (ticket reason : Nat) {s : State} (h : s.RoomLaw) :
    (refuseOrder r ticket reason s).state.RoomLaw := by
  unfold refuseOrder
  split
  · exact h
  · refine withEntry_roomLaw r ticket h fun e => ?_
    unfold refuseEntry
    split
    · exact removeWithResult_roomLaw _ _ _ h
    · exact removeWithResult_roomLaw _ _ _ h
    · exact confirmCancel_roomLaw _ _ h
    all_goals exact h

theorem dropOrder_roomLaw (r : RoomId) (e : Entry) {s : State} (h : s.RoomLaw) : (dropOrder r e s).state.RoomLaw := by
  unfold dropOrder
  split
  · exact removeWithResult_roomLaw _ _ _ h
  · exact removeWithResult_roomLaw _ _ _ h
  · exact removeWithResult_roomLaw _ _ _
      (updRoom_roomLaw h ⟨(h r).1.withdrawCue, by rw [withdrawCue_stack]; exact (h r).2⟩)
  · exact confirmCancel_roomLaw _ _ h
  all_goals exact h

theorem timeOutEntry_roomLaw (r : RoomId) (e : Entry) {s : State} (h : s.RoomLaw) : (timeOutEntry r e s).RoomLaw :=
  removeWithResult_roomLaw _ _ _ (updRoom_roomLaw_of_lawPart h rfl rfl)

theorem venueTimeTick_roomLaw {s : State} (h : s.RoomLaw) : (venueTimeTick s).RoomLaw :=
  foldl_roomLaw timeOutRoom (fun _ r hs => foldl_roomLaw _ (fun _ e hx => timeOutEntry_roomLaw r e hx) _ hs) allRooms
    (roomLaw_of_rooms h rfl fun _ => rfl)

theorem replyTimeout_roomLaw (r : RoomId) (ticket : Nat) {s : State} (h : s.RoomLaw) :
    (replyTimeout r ticket s).RoomLaw := by
  unfold replyTimeout
  split
  · exact h
  split
  · exact timeOutEntry_roomLaw _ _ h
  · exact h

/-! ### Panels -/

theorem nextPoll_roomLaw {s : State} (h : s.RoomLaw) : (nextPoll s).RoomLaw := by
  unfold nextPoll; split
  · exact roomLaw_of_rooms h rfl fun _ => rfl
  · exact roomLaw_of_rooms h (beginPoll_mode _ s) (beginPoll_room _ s)

theorem updPanel_roomLaw (e : PanelId) (f : PollEntry → PollEntry) {s : State} (h : s.RoomLaw) :
    (s.updPanel e f).RoomLaw := roomLaw_of_rooms h rfl fun _ => rfl

theorem markGood_roomLaw (e : PanelId) {s : State} (h : s.RoomLaw) : (markGood e s).RoomLaw := by
  unfold markGood
  dsimp only
  split
  · exact updPanel_roomLaw _ _ h
  · exact raise_roomLaw (updPanel_roomLaw _ _ h) rfl

theorem markMiss_roomLaw (e : PanelId) (count : PollEntry → PollEntry) {s : State} (h : s.RoomLaw) :
    (markMiss e count s).RoomLaw := by
  unfold markMiss
  dsimp only
  split
  · exact raise_roomLaw (updPanel_roomLaw _ _ h) rfl
  · exact updPanel_roomLaw _ _ h

/-- R143: the end of a poll keeps the law where what it does for the polled entry does. -/
theorem endPoll_roomLaw {act : PanelId → State → State} {s : State} (h : s.RoomLaw)
    (ha : ∀ e x, x.RoomLaw → (act e x).RoomLaw) : (endPoll act s).RoomLaw := by
  unfold endPoll; split
  · exact h
  · exact sendIfIdle_roomLaw (nextPoll_roomLaw (ha _ _ h))

theorem goodAnswer_roomLaw {handle : PanelId → RoomId → State → State} {s : State} (h : s.RoomLaw)
    (ha : ∀ e r x, x.RoomLaw → (handle e r x).RoomLaw) : (goodAnswer handle s).RoomLaw :=
  endPoll_roomLaw h fun e _ hx => ha e _ _ (markGood_roomLaw e hx)

theorem roomMessage_roomLaw {handle : PanelId → RoomId → State → State}
    (ha : ∀ e r x, x.RoomLaw → (handle e r x).RoomLaw) (e : PanelId) (r : RoomId) {s : State} (h : s.RoomLaw) :
    (roomMessage handle e r s).RoomLaw := by
  unfold roomMessage; split
  · exact pushResult_roomLaw _ _ h
  · exact ha _ _ _ h

theorem requestMessage_roomLaw (payload : List Byte) (e : PanelId) (r : RoomId) {s : State} (h : s.RoomLaw) :
    (requestMessage payload e r s).RoomLaw := by
  unfold requestMessage
  split
  · exact pushResult_roomLaw _ _ h
  dsimp only
  split
  · exact pushResult_roomLaw _ _ h
  · exact takeRequest_roomLaw _ _ _ _ _ h

theorem cancelMessage_roomLaw (payload : List Byte) (e : PanelId) (r : RoomId) {s : State} (h : s.RoomLaw) :
    (cancelMessage payload e r s).RoomLaw := by
  unfold cancelMessage; split
  · exact pushResult_roomLaw _ _ h
  · exact takeCancel_roomLaw _ _ _ h

theorem stopMessage_roomLaw (e : PanelId) (r : RoomId) {s : State} (h : s.RoomLaw) : (stopMessage e r s).RoomLaw := by
  unfold stopMessage
  split
  · exact pushResult_roomLaw _ _ h
  split
  · exact takeEnding_roomLaw _ _ h
  · exact pushResult_roomLaw _ _ h

/-! ### The chip's tables, parameters and reads -/

theorem ladderOrder_roomLaw (first : Nat) (bounds : List Nat) {s : State} (h : s.RoomLaw) :
    (ladderOrder first bounds s).state.RoomLaw := by
  unfold ladderOrder
  split
  · exact h
  split
  · exact h
  split
  · exact h
  · exact roomLaw_of_rooms h rfl fun _ => rfl

theorem slotMapOrder_roomLaw (direction slot target : Nat) {s : State} (h : s.RoomLaw) :
    (slotMapOrder direction slot target s).state.RoomLaw := by
  unfold slotMapOrder
  split
  · exact h
  split
  · split
    · exact h
    split
    · exact h
    · exact roomLaw_of_rooms h rfl fun _ => rfl
  · split
    · exact h
    split
    · exact h
    · exact roomLaw_of_rooms h rfl fun _ => rfl
  · exact h

theorem pollEntryOrder_roomLaw (entry enabled address room : Nat) {s : State} (h : s.RoomLaw) :
    (pollEntryOrder entry enabled address room s).state.RoomLaw := by
  unfold pollEntryOrder
  split
  · exact h
  split
  · split
    · exact h
    split
    · exact h
    · exact updPanel_roomLaw _ _ h
  · exact h

theorem fontClearOrder_roomLaw (height spaceAdvance missingAdvance : Nat) {s : State} (h : s.RoomLaw) :
    (fontClearOrder height spaceAdvance missingAdvance s).state.RoomLaw := by
  unfold fontClearOrder
  split
  · exact h
  split
  · exact h
  split
  · exact roomLaw_of_rooms h rfl fun _ => rfl
  · exact h

theorem fontAppendOrder_roomLaw (first count : Option Nat) (records : List Byte) {s : State} (h : s.RoomLaw) :
    (fontAppendOrder first count records s).state.RoomLaw := by
  unfold fontAppendOrder
  dsimp only
  split
  · exact h
  split
  · exact h
  split
  · exact h
  split
  · exact h
  split
  · exact h
  · exact roomLaw_of_rooms h rfl fun _ => rfl

theorem fontClearingComplete_roomLaw {s : State} (h : s.RoomLaw) : (fontClearingComplete s).RoomLaw := by
  unfold fontClearingComplete; split
  · exact roomLaw_of_rooms h rfl fun _ => rfl
  · exact h

theorem chipParamOrder_roomLaw (id : ChipParamId) (v : Nat) {s : State} (h : s.RoomLaw) :
    (chipParamOrder id v s).state.RoomLaw := by
  unfold chipParamOrder; split
  · exact h
  · exact roomLaw_of_rooms h rfl fun _ => rfl

theorem roomParamOrder_roomLaw (r : RoomId) (setting : RoomSetting) {s : State} (h : s.RoomLaw) :
    (roomParamOrder r setting s).state.RoomLaw := by
  unfold roomParamOrder
  split
  · exact h
  split
  · exact h
  · next p _ =>
    have hset : (s.updRoom r fun rm => { rm with params := p }).RoomLaw := updRoom_roomLaw_of_lawPart h rfl rfl
    show (if _ then _ else _ : State).RoomLaw
    split
    · exact markTest_roomLaw r hset
    · exact hset

theorem readBankOrder_roomLaw (r : RoomId) (bank : Nat) {s : State} (h : s.RoomLaw) :
    (readBankOrder r bank s).state.RoomLaw := by
  unfold readBankOrder; split <;> exact h

/-! ### Video -/

/-- The compositor changes the latch, the counters and the output port of its room alone. -/
theorem layOut_frame (glyphs : List Glyph) (bank : Bank) (rm : Room) (i : Nat) :
    ∃ latch overlay, rm.layOut glyphs bank i = { rm with latch := latch, overlay := overlay } := by
  unfold Room.layOut
  split
  · split
    · exact ⟨rm.latch, rm.overlay, rfl⟩
    · exact ⟨_, _, rfl⟩
  · exact ⟨rm.latch, rm.overlay, rfl⟩

theorem layOuts_frame (glyphs : List Glyph) (bank : Bank) (is : List Nat) (rm : Room) :
    ∃ latch overlay, is.foldl (Room.layOut glyphs bank) rm = { rm with latch := latch, overlay := overlay } := by
  induction is generalizing rm with
  | nil => exact ⟨rm.latch, rm.overlay, rfl⟩
  | cons i is ih =>
    obtain ⟨_, _, e⟩ := layOut_frame glyphs bank rm i
    obtain ⟨latch, overlay, e'⟩ := ih (rm.layOut glyphs bank i)
    exact ⟨latch, overlay, by rw [List.foldl_cons, e', e]⟩

theorem drawVideo_frame (rm : Room) (m : Mode) (t : GlyphTable) (y : Nat) (pixels : List Rgb) :
    ∃ latch overlay, (rm.drawVideo m t y pixels).2 = { rm with latch := latch, overlay := overlay } := by
  unfold Room.drawVideo
  split
  · exact ⟨rm.latch, rm.overlay, rfl⟩
  split
  · exact ⟨rm.latch, rm.overlay, rfl⟩
  · exact layOuts_frame _ _ _ _

theorem videoLine_frame (rm : Room) (m : Mode) (t : GlyphTable) (line : Nat) (frameStart : Bool) (pixels : List Rgb) :
    ∃ latch overlay out, rm.videoLine m t line frameStart pixels
      = { rm with latch := latch, overlay := overlay, videoOut := out } := by
  unfold Room.videoLine
  dsimp only
  cases frameStart with
  | true =>
    obtain ⟨latch, overlay, e⟩ := drawVideo_frame (rm.takeLatch m t) m t line pixels
    exact ⟨latch, overlay, _, by rw [if_pos rfl, e]; rfl⟩
  | false =>
    obtain ⟨latch, overlay, e⟩ := drawVideo_frame rm m t line pixels
    exact ⟨latch, overlay, _, by rw [if_neg (by decide), e]⟩

theorem videoCell_roomLaw (r : RoomId) (line : Nat) (frameStart : Bool) (pixels : List Rgb) {s : State}
    (h : s.RoomLaw) : (videoCell r line frameStart pixels s).RoomLaw := by
  unfold videoCell
  obtain ⟨latch, overlay, out, e⟩ := videoLine_frame (s.room r) s.mode s.font line frameStart pixels
  refine updRoom_roomLaw h ?_
  split
  · exact RoomOk.congr (h r) rfl rfl
  · rw [e]; exact RoomOk.congr (h r) rfl rfl

/-! ### The trunk -/

theorem discardCell_roomLaw (bytes : List Byte) {s : State} (h : s.RoomLaw) : (discardCell bytes s).RoomLaw := by
  have hcount : ∀ f, (s.count f).RoomLaw := fun f => roomLaw_of_rooms h rfl fun _ => rfl
  unfold discardCell
  dsimp only
  split
  · exact hcount _
  split
  · exact hcount _
  split
  · exact hcount _
  split
  · exact hcount _
  split
  · exact hcount _
  split
  · exact hcount _
  · exact h

theorem answerMalformed_roomLaw (bytes : List Byte) {s : State} (h : s.RoomLaw) :
    (answerMalformed bytes s).RoomLaw := by
  unfold answerMalformed
  dsimp only
  split
  · exact roomLaw_of_rooms h rfl fun _ => rfl
  split
  · exact roomLaw_of_rooms h rfl fun _ => rfl
  · exact sendIfIdle_roomLaw (roomLaw_of_rooms h rfl fun _ => rfl)

theorem pinReset_roomLaw (s : State) : (pinReset s).RoomLaw := roomLaw_of_rooms reset_roomLaw rfl fun _ => rfl

/-! ### Every command -/

/-- Every command answers a state whose rooms are lawful. -/
theorem exec_roomLaw (c : Instr) {s t : State} (h : s.RoomLaw) (e : exec c s = .next t) : t.RoomLaw := by
  have order {b : Bool} {room tag kind : Nat} {d : State → Verdict} (hd : ∀ x, x.RoomLaw → (d x).state.RoomLaw)
      (e : (.next (takeOrder b room tag kind d s) : Host.Outcome State Fault Refusal) = .next t) : t.RoomLaw := by
    cases e; exact takeOrder_roomLaw b room tag kind h hd
  have ends {x : State} (hx : x.RoomLaw) (e : (.next x : Host.Outcome State Fault Refusal) = .next t) : t.RoomLaw := by
    cases e; exact hx
  cases c with
  | pinReset => exact ends (pinReset_roomLaw s) e
  | cellDiscarded bytes => exact ends (discardCell_roomLaw bytes h) e
  | unknownOrder bytes =>
    refine ends ?_ e
    split
    · exact answerMalformed_roomLaw bytes h
    · exact h
  | video r line frameStart pixels => exact ends (takeMedia_roomLaw h fun _ => videoCell_roomLaw r line frameStart pixels) e
  | audio r endFlag samples => exact ends (takeMedia_roomLaw h fun _ => audioCell_roomLaw r endFlag samples) e
  | appendLines r tag bank first recs => exact order (fun _ => linesOrder_roomLaw r bank first recs) e
  | appendSyllables r tag bank first recs => exact order (fun _ => syllablesOrder_roomLaw r bank first recs) e
  | appendGuide r tag bank first recs => exact order (fun _ => guideOrder_roomLaw r bank first recs) e
  | appendFont tag first count records => exact order (fun _ => fontAppendOrder_roomLaw first count records) e
  | appendLadder tag first bounds => exact order (fun _ => ladderOrder_roomLaw first bounds) e
  | setMode tag mode => exact order (fun _ => setModeOrder_roomLaw mode) e
  | chipParam tag param value => exact order (fun _ => chipParamOrder_roomLaw param value) e
  | slotMap tag direction slot target => exact order (fun _ => slotMapOrder_roomLaw direction slot target) e
  | pollEntry tag entry enabled address room => exact order (fun _ => pollEntryOrder_roomLaw entry enabled address room) e
  | fontClear tag height space missing => exact order (fun _ => fontClearOrder_roomLaw height space missing) e
  | readChip tag => exact order (fun _ hx => hx) e
  | readRoom r tag => exact order (fun _ hx => hx) e
  | readBank r tag bank => exact order (fun _ => readBankOrder_roomLaw r bank) e
  | readRequestList r tag => exact order (fun _ hx => hx) e
  | readScores r tag => exact order (fun _ hx => hx) e
  | readCounters room tag =>
    cases room with
    | none => exact order (fun _ hx => hx) e
    | some r => exact order (fun _ hx => hx) e
  | cue r tag bank ticket => exact order (fun _ => cueOrder_roomLaw r bank ticket) e
  | start r tag => exact order (fun _ => startOrder_roomLaw r) e
  | pause r tag => exact order (fun _ hx => moveOrder_roomLaw r hx (.inl rfl) (.inr rfl)) e
  | resume r tag => exact order (fun _ hx => moveOrder_roomLaw r hx (.inr rfl) (.inl rfl)) e
  | stop r tag => exact order (fun _ => stopOrder_roomLaw r) e
  | haltAtLine r tag => exact order (fun _ => haltOrder_roomLaw r) e
  | roomReset r tag => exact order (fun _ => resetRoom_roomLaw r) e
  | calibrate r tag => exact order (fun _ => calibrateOrder_roomLaw r) e
  | roomParam r tag setting => exact order (fun _ => roomParamOrder_roomLaw r setting) e
  | bankOpen r tag bank songId lines syllables notes =>
    exact order (fun _ => bankOpenOrder_roomLaw r bank songId lines syllables notes) e
  | bankClose r tag bank => exact order (fun _ => bankCloseOrder_roomLaw r bank) e
  | bankClear r tag bank => exact order (fun _ => bankClearOrder_roomLaw r bank) e
  | reqAccept r tag ticket position =>
    exact order (fun _ hx => withEntry_roomLaw r ticket hx fun en => acceptEntry_roomLaw r ticket position en hx) e
  | reqPosition r tag ticket position =>
    exact order (fun _ hx => withEntry_roomLaw r ticket hx fun en => positionEntry_roomLaw r ticket position en hx) e
  | reqRefuse r tag ticket reason => exact order (fun _ => refuseOrder_roomLaw r ticket reason) e
  | reqDrop r tag ticket => exact order (fun _ hx => withEntry_roomLaw r ticket hx fun en => dropOrder_roomLaw r en hx) e
  | samplePeriod inputs roomOrder offerOrder => exact ends (samplePeriod_roomLaw inputs roomOrder offerOrder h) e
  | songPositionLimit r => exact ends (songPositionLimit_roomLaw r h) e
  | songTick r =>
    refine ends ?_ e
    split
    · exact sendIfIdle_roomLaw (songTick_roomLaw r h)
    · exact h
  | analysisComplete => exact ends (analysisComplete_roomLaw h) e
  | calTimeout r => exact ends (calTimeout_roomLaw r h) e
  | bankClearingComplete r b => exact ends (bankClearingComplete_roomLaw r b h) e
  | fontClearingComplete => exact ends (fontClearingComplete_roomLaw h) e
  | panelNone payload => exact ends (goodAnswer_roomLaw h fun _ _ _ hx => hx) e
  | panelRequest payload =>
    exact ends (goodAnswer_roomLaw h fun en r _ =>
      roomMessage_roomLaw (fun en r _ => requestMessage_roomLaw payload en r) en r) e
  | panelCancel payload =>
    exact ends (goodAnswer_roomLaw h fun en r _ =>
      roomMessage_roomLaw (fun en r _ => cancelMessage_roomLaw payload en r) en r) e
  | panelStopMessage payload =>
    exact ends (goodAnswer_roomLaw h fun en r _ => roomMessage_roomLaw (fun en r _ => stopMessage_roomLaw en r) en r) e
  | panelUnknownKind kind payload => exact ends (goodAnswer_roomLaw h fun _ _ _ => pushResult_roomLaw _ _) e
  | wrongEcho address =>
    refine ends ?_ e
    split
    · exact h
    · exact endPoll_roomLaw h fun en _ => markMiss_roomLaw en _
  | garbled => exact ends (endPoll_roomLaw h fun en _ => markMiss_roomLaw en _) e
  | noAnswer => exact ends (endPoll_roomLaw h fun en _ => markMiss_roomLaw en _) e
  | venueTimeTick => exact ends (venueTimeTick_roomLaw h) e
  | replyTimeout r ticket => exact ends (replyTimeout_roomLaw r ticket h) e
  | cellSent => exact ends (schedule_roomLaw h) e

/-- Settles O15: each command's effect is a composition of operations that keep the law. -/
theorem stepKeepsTheRoomLaw : Obligations.StepKeepsTheRoomLaw := by
  intro s t h e
  unfold step at e
  split at e
  · cases e; exact h
  · refine exec_roomLaw _ ?_ e
    exact roomLaw_of_rooms h rfl fun _ => rfl

end Sys2Proof.Machine
end

section
/-! PROOFS. What the work of a room leaves of the rest of the chip, and the one REPLY of every order (O7). -/

namespace Sys2Proof.Machine

/-! ### Beyond the rooms -/

/-- What the work of a room leaves as it is: all of the chip but the rooms, the panels, the report queue and the counts
of stacked and replaced reports, which hold their pin-reset values here. -/
def State.beyondRooms (s : State) : State :=
  { s with
    rooms := State.reset.rooms, panels := State.reset.panels, reports := []
    link := { s.link with reportsStacked := Vector.replicate 5 0, reportsReplaced := Vector.replicate 5 0 } }

@[simp] theorem updRoom_beyond (s : State) (r : RoomId) (f : Room → Room) :
    (s.updRoom r f).beyondRooms = s.beyondRooms := rfl
@[simp] theorem setRoom_beyond (s : State) (r : RoomId) (x : Room) : (s.setRoom r x).beyondRooms = s.beyondRooms := rfl
@[simp] theorem updPanel_beyond (s : State) (e : PanelId) (f : PollEntry → PollEntry) :
    (s.updPanel e f).beyondRooms = s.beyondRooms := rfl
@[simp] theorem pushResult_beyond (e : PanelId) (k : ResultKind) (s : State) :
    (pushResult e k s).beyondRooms = s.beyondRooms := rfl

@[simp] theorem pushToRoom_beyond (r : RoomId) (k : ResultKind) (s : State) :
    (pushToRoom r k s).beyondRooms = s.beyondRooms :=
  foldl_keeps _ State.beyondRooms (fun g e => by split <;> rfl) allPanels s

@[simp] theorem emptyOutboxes_beyond (r : RoomId) (s : State) : (emptyOutboxes r s).beyondRooms = s.beyondRooms :=
  foldl_keeps _ State.beyondRooms (fun g e => by split <;> rfl) allPanels s

/-- A report of a room changes the report queue, or the room's stack and two counts. -/
theorem raise_beyond {b : ReportBody} {r : RoomId} (hb : b.owner = .room r) (s : State) :
    (raise b s).beyondRooms = s.beyondRooms := by
  rcases raise_cases b s with ⟨_, e⟩ | ⟨_, e⟩ <;> rw [e]
  · rfl
  · unfold stackReport
    rw [fillSlot_room _ _ r hb]; rfl

@[simp] theorem markTest_beyond (r : RoomId) (s : State) : (markTest r s).beyondRooms = s.beyondRooms := by
  rcases markTest_cases r s with e | ⟨m, _, e⟩ <;> rw [e]
  exact raise_beyond rfl _

@[simp] theorem handLineScore_beyond (r : RoomId) (line : Nat) (skipped : Bool) (s : State) :
    (handLineScore r line skipped s).beyondRooms = s.beyondRooms := by
  have hr := raise_beyond (b := .lineScore ((s.room r).lineScore r line skipped)) rfl s
  unfold handLineScore; dsimp only; split
  · exact hr
  · exact hr

@[simp] theorem leaveEnding_beyond (r : RoomId) (s : State) : (leaveEnding r s).beyondRooms = s.beyondRooms := by
  unfold leaveEnding; dsimp only; split <;> simp

@[simp] theorem endRequest_beyond (r : RoomId) (s : State) : (endRequest r s).beyondRooms = s.beyondRooms := by
  unfold endRequest; split <;> simp

@[simp] theorem takeEnding_beyond (r : RoomId) (reason : EndReason) (s : State) :
    (takeEnding r reason s).beyondRooms = s.beyondRooms := by
  have hraise (x : State) : (raise (.songEnd ((s.room r).songEnd r reason)) x).beyondRooms = x.beyondRooms :=
    raise_beyond (r := r) rfl x
  unfold takeEnding; dsimp only; split
  · split <;> simp [hraise]
  · rfl

@[simp] theorem advanceTo_beyond (r : RoomId) (k t : Nat) (s : State) :
    (advanceTo r k t s).beyondRooms = s.beyondRooms := by
  unfold advanceTo
  rw [updRoom_beyond, foldl_keeps _ State.beyondRooms (fun g j => handLineScore_beyond r j true g)]
  simp

@[simp] theorem holdStep_beyond (r : RoomId) (t : Nat) (s : State) : (holdStep r t s).beyondRooms = s.beyondRooms := by
  rcases holdStep_cases r t s with e | ⟨f, _, e⟩ | ⟨_, e⟩ <;> rw [e] <;> simp

@[simp] theorem lineTest_beyond (r : RoomId) (t : Nat) (s : State) : (lineTest r t s).beyondRooms = s.beyondRooms := by
  rcases lineTest_cases r t s with e | e | ⟨k, e⟩ <;> rw [e] <;> simp

@[simp] theorem endCalibration_beyond (r : RoomId) (outcome : CalOutcome) (j : Nat) (f : Port → Port) (s : State) :
    (endCalibration r outcome j f s).beyondRooms = s.beyondRooms := by
  unfold endCalibration; split
  · rfl
  · rw [raise_beyond (r := r) rfl]; rfl

/-- R20: beside its rooms, panels and reports a reset of a room changes the cancel queue and the frame queue. -/
theorem resetRoom_beyond (r : RoomId) (s : State) :
    (resetRoom r s).beyondRooms =
      { s.beyondRooms with
        cancelQueue := s.cancelQueue.filter fun i => i.room != r
        frameQueue := s.frameQueue.map fun f => if f.room = r then { f with stale := true } else f } := by
  have hq : (resetQuietly r s).beyondRooms =
      { s.beyondRooms with
        cancelQueue := s.cancelQueue.filter fun i => i.room != r
        frameQueue := s.frameQueue.map fun f => if f.room = r then { f with stale := true } else f } := by
    have stale (x : State) : (markStale r x).beyondRooms = { x.beyondRooms with
        frameQueue := x.frameQueue.map fun f => if f.room = r then { f with stale := true } else f } := rfl
    unfold resetQuietly
    rw [stale, emptyOutboxes_beyond, emptyOutboxes_frameQueue]
    rfl
  rcases resetRoom_cases r s with ⟨_, e⟩ | ⟨c, _, e⟩ <;> rw [e]
  · exact hq
  · rw [raise_beyond (r := r) rfl, hq]

/-! ### The part of an order that its reply does not see -/

/-- What an order must leave for its reply: the cell on the link, the replies that wait, and both counts. -/
def State.replyPart (s : State) : Option UpCell × List Reply × Counter × Counter :=
  (s.upstream, s.replies, s.link.cellsIn, s.link.repliesSent)

theorem beyondRooms_replyPart (s : State) : s.beyondRooms.replyPart = s.replyPart := rfl

theorem replyPart_of_beyond {s t : State} (h : t.beyondRooms = s.beyondRooms) : t.replyPart = s.replyPart := by
  rw [← beyondRooms_replyPart, h, beyondRooms_replyPart]

@[simp] theorem resetRoom_replyPart (r : RoomId) (s : State) : (resetRoom r s).replyPart = s.replyPart := by
  rw [← beyondRooms_replyPart, resetRoom_beyond]; rfl

@[simp] theorem leaveRun_replyPart (s : State) : (leaveRun s).replyPart = s.replyPart :=
  foldl_keeps (fun acc r => resetRoom r acc) State.replyPart (fun g r => resetRoom_replyPart r g) allRooms _

@[simp] theorem startPolling_replyPart (s : State) : (startPolling s).replyPart = s.replyPart := by
  unfold startPolling; split <;> rfl

/-- An order's decision leaves what its reply needs, and changes nothing when it refuses (R4). -/
structure Verdict.Answers (v : Verdict) (s : State) : Prop where
  replyPart : v.state.replyPart = s.replyPart
  refused : v.code ≠ .ok → v.state = s

theorem refuse_answers (s : State) (code : ReplyCode) (data : List Byte) : (refuse s code data).Answers s :=
  ⟨rfl, fun _ => rfl⟩

theorem accept_answers {s t : State} {data : List Byte} (h : t.replyPart = s.replyPart) : (accept t data).Answers s :=
  ⟨h, fun e => absurd rfl e⟩

theorem accept_answers_of_beyond {s t : State} {data : List Byte} (h : t.beyondRooms = s.beyondRooms) :
    (accept t data).Answers s := accept_answers (replyPart_of_beyond h)

/-! ### The decisions, one by one -/

theorem appendOrder_answers {α : Type} (take : Bank → α → Option Bank) (frontier declared : Bank → Nat)
    (after : BankId → State → State) (ha : ∀ b x, (after b x).beyondRooms = x.beyondRooms) (r : RoomId)
    (bank first : Nat) (xs : List α) (s : State) :
    (appendOrder take frontier declared after r bank first xs s).Answers s := by
  unfold appendOrder
  split
  · exact refuse_answers ..
  split
  · exact refuse_answers ..
  · exact accept_answers_of_beyond (ha _ _)

theorem linesOrder_answers (r : RoomId) (bank first : Nat) (recs : List LineRec) (s : State) :
    (linesOrder r bank first recs s).Answers s :=
  appendOrder_answers _ _ _ _ (fun b x => by unfold lineAppendEvent; dsimp only; split <;> simp) r bank first recs s

theorem fontAppendOrder_answers (first count : Option Nat) (records : List Byte) (s : State) :
    (fontAppendOrder first count records s).Answers s := by
  unfold fontAppendOrder
  dsimp only
  split
  · exact refuse_answers ..
  split
  · exact refuse_answers ..
  split
  · exact refuse_answers ..
  split
  · exact refuse_answers ..
  split
  · exact refuse_answers ..
  · exact accept_answers rfl

theorem ladderOrder_answers (first : Nat) (bounds : List Nat) (s : State) : (ladderOrder first bounds s).Answers s := by
  unfold ladderOrder
  split
  · exact refuse_answers ..
  split
  · exact refuse_answers ..
  split
  · exact refuse_answers ..
  · exact accept_answers rfl

theorem setModeOrder_answers (mode : Nat) (s : State) : (setModeOrder mode s).Answers s := by
  unfold setModeOrder
  split
  · exact refuse_answers ..
  split
  · exact accept_answers rfl
  · exact accept_answers rfl
  · exact accept_answers rfl
  · split
    · exact accept_answers (startPolling_replyPart _)
    · exact refuse_answers ..
  · split
    · exact refuse_answers ..
    · exact accept_answers (leaveRun_replyPart s)
  · exact refuse_answers ..
  · exact accept_answers rfl
  · exact accept_answers rfl
  · exact refuse_answers ..

theorem chipParamOrder_answers (id : ChipParamId) (v : Nat) (s : State) : (chipParamOrder id v s).Answers s := by
  unfold chipParamOrder; split
  · exact refuse_answers ..
  · exact accept_answers rfl

theorem slotMapOrder_answers (direction slot target : Nat) (s : State) :
    (slotMapOrder direction slot target s).Answers s := by
  unfold slotMapOrder
  split
  · exact refuse_answers ..
  split
  · split
    · exact refuse_answers ..
    split
    · exact refuse_answers ..
    · exact accept_answers rfl
  · split
    · exact refuse_answers ..
    split
    · exact refuse_answers ..
    · exact accept_answers rfl
  · exact refuse_answers ..

theorem pollEntryOrder_answers (entry enabled address room : Nat) (s : State) :
    (pollEntryOrder entry enabled address room s).Answers s := by
  unfold pollEntryOrder
  split
  · exact refuse_answers ..
  split
  · split
    · exact refuse_answers ..
    split
    · exact refuse_answers ..
    · exact accept_answers rfl
  · exact refuse_answers ..

theorem fontClearOrder_answers (height spaceAdvance missingAdvance : Nat) (s : State) :
    (fontClearOrder height spaceAdvance missingAdvance s).Answers s := by
  unfold fontClearOrder
  split
  · exact refuse_answers ..
  split
  · exact refuse_answers ..
  split
  · exact accept_answers rfl
  · exact refuse_answers ..

theorem readBankOrder_answers (r : RoomId) (bank : Nat) (s : State) : (readBankOrder r bank s).Answers s := by
  unfold readBankOrder; split
  · exact refuse_answers ..
  · exact accept_answers rfl

theorem cueOrder_answers (r : RoomId) (bank ticket : Nat) (s : State) : (cueOrder r bank ticket s).Answers s := by
  unfold cueOrder
  dsimp only
  split
  · exact refuse_answers ..
  split
  · exact refuse_answers ..
  split
  · exact refuse_answers ..
  split
  · exact refuse_answers ..
  split
  · exact refuse_answers ..
  split
  · exact refuse_answers ..
  · refine accept_answers_of_beyond ?_
    split <;> simp

theorem startOrder_answers (r : RoomId) (s : State) : (startOrder r s).Answers s := by
  unfold startOrder; split
  · exact accept_answers rfl
  · exact refuse_answers ..
  · exact refuse_answers ..

theorem moveOrder_answers (r : RoomId) (source target : RoomState) (s : State) :
    (moveOrder r source target s).Answers s := by
  unfold moveOrder; split
  · exact accept_answers rfl
  · exact refuse_answers ..

theorem stopOrder_answers (r : RoomId) (s : State) : (stopOrder r s).Answers s := by
  unfold stopOrder; split
  · exact accept_answers_of_beyond (takeEnding_beyond ..)
  · exact accept_answers_of_beyond (takeEnding_beyond ..)
  · exact accept_answers_of_beyond (endCalibration_beyond ..)
  · exact accept_answers rfl
  · exact refuse_answers ..

theorem haltOrder_answers (r : RoomId) (s : State) : (haltOrder r s).Answers s := by
  unfold haltOrder
  dsimp only
  split
  · split
    · exact accept_answers_of_beyond (takeEnding_beyond ..)
    · exact accept_answers rfl
  · exact refuse_answers ..

theorem calibrateOrder_answers (r : RoomId) (s : State) : (calibrateOrder r s).Answers s := by
  unfold calibrateOrder
  dsimp only
  split
  · split
    · exact refuse_answers ..
    · exact accept_answers rfl
  · exact refuse_answers ..

theorem roomParamOrder_answers (r : RoomId) (setting : RoomSetting) (s : State) :
    (roomParamOrder r setting s).Answers s := by
  unfold roomParamOrder
  split
  · exact refuse_answers ..
  split
  · exact refuse_answers ..
  · refine accept_answers_of_beyond ?_
    split <;> simp

theorem bankOpenOrder_answers (r : RoomId) (bank songId lines syllables notes : Nat) (s : State) :
    (bankOpenOrder r bank songId lines syllables notes s).Answers s := by
  unfold bankOpenOrder
  split
  · exact refuse_answers ..
  split
  · exact refuse_answers ..
  · exact refuse_answers ..
  · exact refuse_answers ..
  · split
    · exact accept_answers rfl
    · exact refuse_answers ..

theorem bankCloseOrder_answers (r : RoomId) (bank : Nat) (s : State) : (bankCloseOrder r bank s).Answers s := by
  unfold bankCloseOrder
  split
  · exact refuse_answers ..
  dsimp only
  split
  · split
    · exact accept_answers rfl
    · exact refuse_answers ..
  · exact refuse_answers ..

theorem bankClearOrder_answers (r : RoomId) (bank : Nat) (s : State) : (bankClearOrder r bank s).Answers s := by
  unfold bankClearOrder
  split
  · exact refuse_answers ..
  dsimp only
  split
  · exact refuse_answers ..
  split
  · exact accept_answers rfl
  · exact accept_answers rfl

theorem withEntry_answers (r : RoomId) (ticket : Nat) {act : Entry → State → Verdict} {s : State}
    (ha : ∀ e, (act e s).Answers s) : (withEntry r ticket act s).Answers s := by
  unfold withEntry; split
  · exact refuse_answers ..
  · exact ha _

theorem acceptEntry_answers (r : RoomId) (ticket position : Nat) (e : Entry) (s : State) :
    (acceptEntry r ticket position e s).Answers s := by
  unfold acceptEntry; split
  · exact accept_answers rfl
  · exact accept_answers rfl
  all_goals exact refuse_answers ..

theorem positionEntry_answers (r : RoomId) (ticket position : Nat) (e : Entry) (s : State) :
    (positionEntry r ticket position e s).Answers s := by
  unfold positionEntry
  dsimp only
  split
  · exact accept_answers rfl
  · exact accept_answers rfl
  · exact accept_answers rfl
  all_goals exact refuse_answers ..

theorem refuseOrder_answers (r : RoomId) (ticket reason : Nat) (s : State) :
    (refuseOrder r ticket reason s).Answers s := by
  unfold refuseOrder
  split
  · exact refuse_answers ..
  · refine withEntry_answers r ticket fun e => ?_
    unfold refuseEntry; split
    · exact accept_answers rfl
    · exact accept_answers rfl
    · exact accept_answers rfl
    all_goals exact refuse_answers ..

theorem dropOrder_answers (r : RoomId) (e : Entry) (s : State) : (dropOrder r e s).Answers s := by
  unfold dropOrder; split
  · exact accept_answers rfl
  · exact accept_answers rfl
  · exact accept_answers rfl
  · exact accept_answers rfl
  all_goals exact refuse_answers ..

/-! ### Every order -/

/-- Every command that arrives as an ORDER or APPEND cell is taken as an order with its own header, and its decision
leaves what the reply needs. -/
theorem exec_order {c : Instr} {h : Nat × Nat × Nat} (hc : orderHeader c = some h) (s : State) :
    ∃ (inStandby : Bool) (d : State → Verdict),
      exec c s = .next (takeOrder inStandby h.1 h.2.1 h.2.2 d s) ∧ ∀ x, (d x).Answers x := by
  have read (f : State → List Byte) (x : State) : (accept x (f x)).Answers x := accept_answers rfl
  cases c with
  | appendLines r tag bank first recs => cases hc; exact ⟨false, _, rfl, linesOrder_answers r bank first recs⟩
  | appendSyllables r tag bank first recs =>
    cases hc; exact ⟨false, _, rfl, appendOrder_answers _ _ _ _ (fun _ _ => rfl) r bank first recs⟩
  | appendGuide r tag bank first recs =>
    cases hc; exact ⟨false, _, rfl, appendOrder_answers _ _ _ _ (fun _ _ => rfl) r bank first recs⟩
  | appendFont tag first count records => cases hc; exact ⟨false, _, rfl, fontAppendOrder_answers first count records⟩
  | appendLadder tag first bounds => cases hc; exact ⟨false, _, rfl, ladderOrder_answers first bounds⟩
  | setMode tag mode => cases hc; exact ⟨true, _, rfl, setModeOrder_answers mode⟩
  | chipParam tag param value => cases hc; exact ⟨false, _, rfl, chipParamOrder_answers param value⟩
  | slotMap tag direction slot target => cases hc; exact ⟨false, _, rfl, slotMapOrder_answers direction slot target⟩
  | pollEntry tag entry enabled address room =>
    cases hc; exact ⟨false, _, rfl, pollEntryOrder_answers entry enabled address room⟩
  | fontClear tag height space missing => cases hc; exact ⟨false, _, rfl, fontClearOrder_answers height space missing⟩
  | readChip tag => cases hc; exact ⟨false, _, rfl, read _⟩
  | readRoom r tag => cases hc; exact ⟨false, _, rfl, read _⟩
  | readBank r tag bank => cases hc; exact ⟨false, _, rfl, readBankOrder_answers r bank⟩
  | readRequestList r tag => cases hc; exact ⟨false, _, rfl, read _⟩
  | readScores r tag => cases hc; exact ⟨false, _, rfl, read _⟩
  | readCounters room tag =>
    cases room with
    | none => cases hc; exact ⟨false, _, rfl, read _⟩
    | some r => cases hc; exact ⟨false, _, rfl, read _⟩
  | cue r tag bank ticket => cases hc; exact ⟨false, _, rfl, cueOrder_answers r bank ticket⟩
  | start r tag => cases hc; exact ⟨false, _, rfl, startOrder_answers r⟩
  | pause r tag => cases hc; exact ⟨false, _, rfl, moveOrder_answers r .playing .held⟩
  | resume r tag => cases hc; exact ⟨false, _, rfl, moveOrder_answers r .held .playing⟩
  | stop r tag => cases hc; exact ⟨false, _, rfl, stopOrder_answers r⟩
  | haltAtLine r tag => cases hc; exact ⟨false, _, rfl, haltOrder_answers r⟩
  | roomReset r tag => cases hc; exact ⟨false, _, rfl, fun x => accept_answers (resetRoom_replyPart r x)⟩
  | calibrate r tag => cases hc; exact ⟨false, _, rfl, calibrateOrder_answers r⟩
  | roomParam r tag setting => cases hc; exact ⟨false, _, rfl, roomParamOrder_answers r setting⟩
  | bankOpen r tag bank songId lines syllables notes =>
    cases hc; exact ⟨false, _, rfl, bankOpenOrder_answers r bank songId lines syllables notes⟩
  | bankClose r tag bank => cases hc; exact ⟨false, _, rfl, bankCloseOrder_answers r bank⟩
  | bankClear r tag bank => cases hc; exact ⟨false, _, rfl, bankClearOrder_answers r bank⟩
  | reqAccept r tag ticket position =>
    cases hc; exact ⟨false, _, rfl, fun x => withEntry_answers r ticket fun e => acceptEntry_answers r ticket position e x⟩
  | reqPosition r tag ticket position =>
    cases hc
    exact ⟨false, _, rfl, fun x => withEntry_answers r ticket fun e => positionEntry_answers r ticket position e x⟩
  | reqRefuse r tag ticket reason => cases hc; exact ⟨false, _, rfl, refuseOrder_answers r ticket reason⟩
  | reqDrop r tag ticket =>
    cases hc; exact ⟨false, _, rfl, fun x => withEntry_answers r ticket fun e => dropOrder_answers r e x⟩
  | pinReset | cellDiscarded | unknownOrder | video | audio | samplePeriod | songPositionLimit | songTick
  | analysisComplete | calTimeout | bankClearingComplete | fontClearingComplete | panelNone | panelRequest
  | panelCancel | panelStopMessage | panelUnknownKind | wrongEcho | garbled | noAnswer | venueTimeTick
  | replyTimeout | cellSent => cases hc

/-- R180: an idle link sends the only reply that waits. -/
theorem sendIfIdle_oneReply {t : State} {reply : Reply} (hidle : t.upstream = none) (hone : t.replies = [reply]) :
    t.sendIfIdle =
      { t with
        replies := [], upstream := some (.reply reply)
        link := { t.link with repliesSent := t.link.repliesSent + 1 } } := by
  rw [sendIfIdle_idle hidle]
  unfold schedule
  rw [hone]; rfl

/-- Settles O7: the reply of `exec_order` is the only one the order adds, and an idle link sends it. -/
theorem everyOrderIsAnsweredOnce : Obligations.EveryOrderIsAnsweredOnce := by
  intro c h s hc hs
  obtain ⟨inStandby, d, he, hd⟩ := exec_order hc s
  rw [takeOrder_taken hs] at he
  obtain ⟨hpart, hrefused⟩ := hd s.countIn
  simp only [State.replyPart, Prod.mk.injEq] at hpart
  obtain ⟨hup, hreplies, hin, hsent⟩ := hpart
  refine ⟨_, (d s.countIn).code, (d s.countIn).data, he, hup, congrArg (· ++ [_]) hreplies, hin, hsent,
    fun hbusy => ?_, fun hidle hnone => ?_, fun hcode => ?_⟩
  · obtain ⟨cell, hcell⟩ := Option.ne_none_iff_exists'.mp hbusy
    exact sendIfIdle_busy (hup.trans hcell)
  · exact sendIfIdle_oneReply (hup.trans hidle) (congrArg (· ++ [_]) (hreplies.trans hnone))
  · rw [he, hrefused hcode]; rfl

end Sys2Proof.Machine
end

section
/-! PROOFS. The room orders of chapter 1: CUE, START, PAUSE, RESUME, STOP and HALT_AT_LINE (O41 to O44). -/

namespace Sys2Proof.Machine

/-! ### Operands and replies -/

@[simp] theorem bankOf_val (b : BankId) : bankOf b.val = some b := by
  unfold bankOf; rw [dif_pos b.isLt]

theorem bankOf_none {n : Nat} (h : 2 ≤ n) : bankOf n = none := by
  unfold bankOf; rw [dif_neg (Nat.not_lt.mpr h)]

/-- An order of a room that is taken, decided with the state `t` beside the counted cell. -/
theorem roomOrder_replied {s t : State} (h : s.takes) {r : RoomId} {tag kind : Nat} {d : State → Verdict}
    {code : ReplyCode} {data : List Byte} (e : d s.countIn = ⟨t.countIn, code, data⟩) :
    roomOrder r tag kind d s = t.replied r.val tag kind code data := by
  unfold roomOrder
  rw [takeOrder_taken h, e]; rfl

/-- An order of a room that is taken with OK. -/
theorem roomOrder_accepted {s : State} (h : s.takes) {r : RoomId} {tag kind : Nat} {d : State → Verdict}
    {act : State → State} {data : List Byte} (e : d s.countIn = accept (act s.countIn) data) :
    roomOrder r tag kind d s = s.accepted r.val tag kind act data := by
  unfold roomOrder
  rw [takeOrder_taken h, e]; rfl

/-! ### CUE -/

/-- R5: CUE is decided as `code` says when that is the code of the first check that fails. -/
theorem execCue_refused {s : State} (h : s.takes) {r : RoomId} {tag bank ticket : Nat} {code : ReplyCode}
    (e : cueOrder r bank ticket s.countIn = refuse s.countIn code) :
    exec (.cue r tag bank ticket) s = .next (s.replied r.val tag 16 code) :=
  congrArg Host.Outcome.next (roomOrder_replied h e)

section
variable {s : State} {r : RoomId} {b : BankId} {ticket : Nat}

/-- R5, R40: CUE in a room that is neither OFF nor CALIBRATING, whose bank passes and whose ticket does not. -/
theorem cueOrder_ticket_refused (ho : (s.room r).ctx.state ≠ .off) (hc : (s.room r).ctx.state ≠ .calibrating)
    (hb : (s.room r).ctx.currentBank ≠ some b) (he : ((s.room r).bank b).eligible = true) {code : ReplyCode}
    (ht : (s.room r).cueTicketCode ticket = some code) : cueOrder r b.val ticket s = refuse s code := by
  simp [cueOrder, ho, hc, hb, he, ht]

/-- R6: CUE in such a room, whose bank and ticket pass. -/
theorem cueOrder_passes (ho : (s.room r).ctx.state ≠ .off) (hc : (s.room r).ctx.state ≠ .calibrating)
    (hb : (s.room r).ctx.currentBank ≠ some b) (he : ((s.room r).bank b).eligible = true)
    (ht : (s.room r).cueTicketCode ticket = none) :
    cueOrder r b.val ticket s =
      accept (if (s.room r).ctx.state = .idle then markTest r (s.updRoom r fun x => x.cue b ticket)
        else s.updRoom r fun x => x.cue b ticket) := by
  simp [cueOrder, ho, hc, hb, he, ht]

end

/-- R5, check 6: a ticket that no entry holds. -/
theorem cueTicketCode_unheld {rm : Room} {ticket : Nat} (h0 : ticket ≠ 0) (h : rm.entry? ticket = none) :
    rm.cueTicketCode ticket = some .noTicket := by
  simp [Room.cueTicketCode, h0, h]

/-- R5, checks 6 and 7: a ticket that an entry holds. -/
theorem cueTicketCode_held {rm : Room} {ticket : Nat} {e : Entry} (h0 : ticket ≠ 0) (h : rm.entry? ticket = some e) :
    rm.cueTicketCode ticket = match e.state with
      | .cancelling => some .cancelled
      | .waiting | .sent | .playing => some .noTicket
      | .cued => if rm.ctx.cuedTicket = some ticket then none else some .noTicket
      | .accepted => none := by
  cases hs : e.state <;> simp [Room.cueTicketCode, h0, h, hs]

/-- Settles O41, check by check of R5. -/
theorem cueIsChecked : Obligations.CueIsChecked := by
  intro r tag bank ticket s h
  dsimp only
  refine ⟨fun ho => ?_, fun hc => ?_, fun ho hc => ⟨fun hb => ?_, fun b hb => ?_⟩⟩
  · exact execCue_refused h (by simp [cueOrder, ho])
  · exact execCue_refused h (by simp [cueOrder, hc])
  · exact execCue_refused h (by simp [cueOrder, ho, hc, bankOf_none hb])
  subst hb
  refine ⟨fun hcur => ?_, fun hcur he => ?_, fun hcur he h0 => ?_⟩
  · exact execCue_refused h (by simp [cueOrder, ho, hc, hcur])
  · have hn : ((s.room r).bank b).eligible = false := Bool.eq_false_iff.mpr fun e => he ((Bank.eligible_iff _).mp e)
    exact execCue_refused h (by simp [cueOrder, ho, hc, hcur, hn])
  · have hel := ((s.room r).bank b).eligible_iff.mpr he
    have code {c : ReplyCode} (e : (s.room r).cueTicketCode ticket = some c) :
        exec (.cue r tag b.val ticket) s = .next (s.replied r.val tag 16 c) :=
      execCue_refused h (cueOrder_ticket_refused (s := s.countIn) ho hc hcur hel e)
    refine ⟨fun e hn hs => ?_, fun hn => ?_, fun e hn hs => ?_⟩
    · exact code (by rw [cueTicketCode_held h0 hn, hs])
    · exact code (cueTicketCode_unheld h0 hn)
    · refine code ?_
      rw [cueTicketCode_held h0 hn]
      rcases hs with hs | hs | hs | ⟨hs, ht⟩ <;> rw [hs]
      exact if_neg ht

/-! ### The effect of CUE -/

theorem ticketOf_eq_some {ticket t : Nat} : ticketOf ticket = some t ↔ ticket ≠ 0 ∧ t = ticket := by
  unfold ticketOf; split
  · next h => simp [h]
  · next h => simp [h, eq_comm]

/-- R6: the entries of a room after a CUE: the old cued one is released and the named one linked. -/
theorem cue_requests (rm : Room) (b : BankId) (ticket : Nat) :
    (rm.cue b ticket).requests = rm.requests.map fun e =>
      if ticket ≠ 0 ∧ e.ticket = ticket then { e with state := .cued }
      else if rm.ctx.cuedTicket = some e.ticket then { e with state := .accepted } else e := by
  unfold Room.cue
  simp only [Room.dropLostLatch_eq, Room.moveEntry?_eq]
  by_cases hsame : rm.ctx.cuedTicket = ticketOf ticket
  · rw [if_pos hsame]
    refine List.map_congr_left fun e _ => ?_
    simp only [hsame, ticketOf_eq_some]
    split <;> rfl
  · rw [if_neg hsame]
    show List.map _ (List.map _ _) = _
    rw [List.map_map]
    refine List.map_congr_left fun e _ => ?_
    simp only [Function.comp_apply, ticketOf_eq_some]
    split <;> rfl

theorem keptLatch_some {current cued : Option BankId} {l : FrameLatch}
    (h : l.bank = none ∨ l.bank = current ∨ l.bank = cued) : keptLatch current cued (some l) = some l := by
  unfold keptLatch; rw [Option.filter_some, if_pos (decide_eq_true h)]

theorem keptLatch_lost {current cued : Option BankId} {l : FrameLatch}
    (h : ¬(l.bank = none ∨ l.bank = current ∨ l.bank = cued)) : keptLatch current cued (some l) = none := by
  unfold keptLatch; rw [Option.filter_some, if_neg (by simpa using h)]

/-- Settles O42: `Room.cue_eq` and `cue_requests` give every field of the room. -/
theorem cueTakesEffect : Obligations.CueTakesEffect := by
  intro r tag ticket b s h
  dsimp only
  intro ho hc hcur he hticket
  have hcode : (s.room r).cueTicketCode ticket = none := by
    by_cases h0 : ticket = 0
    · simp [Room.cueTicketCode, h0]
    · obtain ⟨e, hn, hs⟩ := hticket h0
      rw [cueTicketCode_held h0 hn]
      rcases hs with hs | ⟨hs, ht⟩ <;> rw [hs]
      exact if_pos ht
  refine ⟨(s.room r).cue b ticket, congrArg Host.Outcome.next (roomOrder_accepted h ?_), ?_, cue_requests _ _ _, ?_⟩
  · rw [cueOrder_passes (s := s.countIn) ho hc hcur ((Bank.eligible_iff _).mpr he) hcode]
    rfl
  · rw [Room.cue_eq]; rfl
  rw [Room.cue_eq]
  refine ⟨fun l hl hk => ?_, fun l k hl hk hk1 hk2 => ?_, fun hl => ?_, rfl, rfl, rfl, rfl, rfl, rfl, rfl, rfl, rfl, rfl, rfl⟩
  · rw [hl]; exact keptLatch_some hk
  · rw [hl]
    refine keptLatch_lost ?_
    rw [hk]
    simp only [reduceCtorEq, Option.some.injEq, false_or, not_or]
    exact ⟨fun e => hk1 e.symm, hk2⟩
  · rw [hl]; rfl

/-! ### START -/

theorem execStart_replied {s t : State} (h : s.takes) {r : RoomId} {tag : Nat} {code : ReplyCode}
    (e : startOrder r s.countIn = ⟨t.countIn, code, []⟩) :
    exec (.start r tag) s = .next (t.replied r.val tag 17 code) :=
  congrArg Host.Outcome.next (roomOrder_replied h e)

/-- R9: START in a room that is not CUED. -/
theorem startOrder_refused {s : State} {r : RoomId} (hc : (s.room r).ctx.state ≠ .cued) :
    startOrder r s = refuse s (if (s.room r).ctx.state = .calibrating then .busy else .wrongState) := by
  unfold startOrder
  cases hs : (s.room r).ctx.state <;> simp_all

theorem startOrder_cued {s : State} {r : RoomId} (hc : (s.room r).ctx.state = .cued) :
    startOrder r s = accept (markStale r (s.updRoom r Room.start)) := by
  unfold startOrder; rw [hc]

/-- R9: the room after START, field by field. -/
theorem Room.start_eq (rm : Room) :
    rm.start =
      { rm with
        ctx := rm.startedCtx
        port := { rm.port with inUnderrun := false }
        mic1 := rm.mic1.started rm.params.micAssign1, mic2 := rm.mic2.started rm.params.micAssign2
        requests := rm.requests.map fun e => if rm.ctx.cuedTicket = some e.ticket then { e with state := .playing } else e } := by
  unfold Room.start; simp only [Room.moveEntry?_eq]

/-- R124: the compensation of a room, by its mode. -/
theorem compensation_measured {p : RoomParams} (port : Port) (h : p.compMode = .measuredPlusOffset) :
    let sum := ((if port.delayValid then port.delay else 0) + 32) / 64 + p.compOffset
    (compensation p port).1 = min sum 188 ∧ ((compensation p port).2 = true ↔ 188 < sum) := by
  unfold compensation
  rw [h]
  dsimp only
  generalize ((if port.delayValid then port.delay else 0) + 32) / 64 + p.compOffset = sum
  by_cases hle : sum ≤ 188
  · rw [if_pos hle]
    exact ⟨(Nat.min_eq_left hle).symm, by simpa using hle⟩
  · rw [if_neg hle]
    exact ⟨(Nat.min_eq_right (Nat.le_of_not_le hle)).symm, by simpa using hle⟩

theorem compensation_offset {p : RoomParams} (port : Port) (h : p.compMode = .offsetOnly) :
    (compensation p port).1 = p.compOffset ∧ (compensation p port).2 = false := by
  unfold compensation; rw [h]; exact ⟨rfl, rfl⟩

/-- Settles O43. -/
theorem startBeginsTheSong : Obligations.StartBeginsTheSong := by
  intro r tag s h
  dsimp only
  refine ⟨fun hc => ?_, fun hc hb => ?_, fun hc => ?_⟩
  · refine execStart_replied (t := s) h ?_
    rw [startOrder_refused (by rw [room_countIn, hc]; decide), room_countIn, if_pos hc]; rfl
  · refine execStart_replied (t := s) h ?_
    rw [startOrder_refused (s := s.countIn) hc, room_countIn, if_neg hb]; rfl
  · refine ⟨(s.room r).start, _, _, _, execStart_replied h ?_, by rw [Room.start_eq]; rfl, fun hn => ?_, fun t e ht he => ?_,
      ⟨compensation_measured _, compensation_offset _⟩, by rw [Room.start_eq], fun m x hm => ?_, ?_⟩
    · rw [startOrder_cued (s := s.countIn) hc]; rfl
    · rw [hn]; rfl
    · rw [ht]
      show ((((s.room r).entry? t).map Entry.keyShift).getD 0) = _
      rw [show (s.room r).entry? t = some e from he]; rfl
    · rw [Room.start_eq]
      rcases hm with ⟨rfl, rfl⟩ | ⟨rfl, rfl⟩
      · exact ⟨rfl, rfl, rfl, decide_eq_true_iff, rfl, rfl⟩
      · exact ⟨rfl, rfl, rfl, decide_eq_true_iff, rfl, rfl⟩
    · rw [Room.start_eq]; exact ⟨rfl, rfl, rfl, rfl, rfl, rfl, rfl, rfl, rfl, rfl⟩

/-! ### PAUSE, RESUME, STOP and HALT_AT_LINE -/

theorem moveOrder_eq (r : RoomId) (source target : RoomState) (s : State) :
    moveOrder r source target s.countIn =
      if (s.room r).ctx.state = source then accept (s.setRoom r ((s.room r).setState target)).countIn
      else refuse s.countIn .wrongState := rfl

/-- R14: an order that moves a room from one state to another. -/
theorem roomOrder_move {s : State} (h : s.takes) (r : RoomId) (tag kind : Nat) (source target : RoomState) :
    roomOrder r tag kind (moveOrder r source target) s =
      if (s.room r).ctx.state = source then (s.setRoom r ((s.room r).setState target)).replied r.val tag kind .ok
      else s.replied r.val tag kind .wrongState := by
  split
  · next e => exact roomOrder_replied h (by rw [moveOrder_eq, if_pos e]; rfl)
  · next e => exact roomOrder_replied h (by rw [moveOrder_eq, if_neg e]; rfl)

theorem execStop_accepted {s : State} (h : s.takes) {r : RoomId} {tag : Nat} {act : State → State}
    (e : stopOrder r s.countIn = accept (act s.countIn)) :
    exec (.stop r tag) s = .next (s.accepted r.val tag 20 act) :=
  congrArg Host.Outcome.next (roomOrder_accepted h e)

/-- R7, R15: a CUED room whose cue is released, field by field. -/
theorem releaseCue_eq (rm : Room) :
    rm.releaseCue =
      { rm with
        ctx := { rm.ctx with
          cuedBank := none, cuedTicket := none
          state := if rm.ctx.state = .cued then .idle else rm.ctx.state }
        port := if rm.ctx.state = .cued then rm.port.emptied else rm.port
        latch := keptLatch rm.ctx.currentBank none rm.latch
        requests := rm.requests.map fun e =>
          if rm.ctx.cuedTicket = some e.ticket then { e with state := .accepted } else e } := by
  unfold Room.releaseCue
  rw [Room.withdrawCue_eq, Room.moveEntry?_eq]

/-- R78: with the cue withdrawn a latch keeps its bank only in the song. -/
theorem keptLatch_uncued (current : Option BankId) (latch : Option FrameLatch) :
    keptLatch current none latch = latch.filter fun l => l.bank = none ∨ l.bank = current := by
  unfold keptLatch
  congr 1
  funext l
  simp only [decide_eq_decide]
  tauto

theorem endCalibration_eq {s : State} {r : RoomId} {c : Calibration} (h : (s.room r).port.calibration = some c)
    (outcome : CalOutcome) (j : Nat) :
    endCalibration r outcome j id s =
      raise (.calDone r outcome j (s.room r).port.delay (s.room r).port.delayValid c.mic)
        (s.setRoom r { s.room r with
          ctx := { (s.room r).ctx with state := .idle }, port := { (s.room r).port with calibration := none } }) := by
  unfold endCalibration
  rw [h]
  dsimp only [calDone]
  rw [room_updRoom_same]
  rfl

/-- Settles O44, order by order. -/
theorem pauseStopAndHalt : Obligations.PauseStopAndHalt := by
  intro r tag s h
  dsimp only
  refine ⟨?_, ?_, fun hs => ?_, fun hs => ?_, fun c hs hc => ?_, fun hs => ?_, fun hp hh => ?_, fun hs => ⟨fun hf => ?_, fun hf => ?_⟩⟩
  · exact congrArg Host.Outcome.next (roomOrder_move h r tag 18 .playing .held)
  · exact congrArg Host.Outcome.next (roomOrder_move h r tag 19 .held .playing)
  · refine congrArg Host.Outcome.next (roomOrder_replied (t := s) h ?_)
    unfold stopOrder
    rw [room_countIn]
    rcases hs with hs | hs | hs <;> rw [hs] <;> rfl
  · refine execStop_accepted h ?_
    unfold stopOrder
    rw [room_countIn]
    rcases hs with hs | hs <;> rw [hs]
  · refine execStop_accepted h ?_
    unfold stopOrder
    rw [room_countIn, hs]
    exact congrArg (accept ·) (endCalibration_eq (s := s.countIn) hc .aborted 0)
  · refine ⟨(s.room r).releaseCue, congrArg Host.Outcome.next (roomOrder_replied h ?_), ?_⟩
    · unfold stopOrder
      rw [room_countIn, hs]; rfl
    · rw [releaseCue_eq, hs, keptLatch_uncued]
      exact ⟨rfl, rfl, rfl, rfl, rfl, rfl, rfl, rfl, rfl, rfl, rfl, rfl, rfl, rfl⟩
  · refine congrArg Host.Outcome.next (roomOrder_replied (t := s) h ?_)
    have hn : (s.countIn.room r).ctx.singing = false := RoomContext.not_singing hp hh
    unfold haltOrder
    dsimp only
    rw [if_neg (by rw [hn]; decide)]
    rfl
  · have hn : (s.countIn.room r).ctx.singing = true := (RoomContext.singing_iff _).mpr hs
    have hf' : (s.countIn.room r).ctx.lyric.finished = true := hf
    refine congrArg Host.Outcome.next (roomOrder_accepted h ?_)
    unfold haltOrder
    dsimp only
    rw [if_pos hn, if_pos hf']
  · have hn : (s.countIn.room r).ctx.singing = true := (RoomContext.singing_iff _).mpr hs
    have hf' : ¬(s.countIn.room r).ctx.lyric.finished = true := by rw [room_countIn, hf]; decide
    refine congrArg Host.Outcome.next (roomOrder_replied h ?_)
    unfold haltOrder
    dsimp only
    rw [if_pos hn, if_neg hf']
    rfl

end Sys2Proof.Machine
end

section
/-! PROOFS. The orders on banks and requests: BANK_CLOSE and BANK_CLEAR (O32), and the answering orders REQ_ACCEPT,
REQ_POSITION, REQ_REFUSE and REQ_DROP (O48). -/

namespace Sys2Proof.Machine

/-! ### BANK_CLOSE and BANK_CLEAR (R34, R35) -/

theorem Bank.loaded_iff (b : Bank) : b.loaded = true ↔ b.state = .filling ∨ b.state = .closed := by
  simp [Bank.loaded]

/-- R34: the three frontiers equal the declared counts. -/
theorem Bank.complete_iff (b : Bank) :
    b.complete = true ↔ b.lines.length = b.declaredLines ∧ b.syllables.length = b.declaredSyllables
      ∧ b.guide.length = b.declaredNotes := by
  simp only [Bank.complete, Bank.lineFrontier, Bank.syllableFrontier, Bank.guideFrontier, Bool.and_eq_true, beq_iff_eq,
    and_assoc]

theorem bankOrders_badBank {s : State} {r : RoomId} {bank : Nat} (h : 2 ≤ bank) :
    bankCloseOrder r bank s = refuse s .range ∧ bankClearOrder r bank s = refuse s .range := by
  unfold bankCloseOrder bankClearOrder
  rw [bankOf_none h]
  exact ⟨rfl, rfl⟩

theorem bankCloseOrder_eq (r : RoomId) (b : BankId) (s : State) :
    let bank := (s.room r).bank b
    bankCloseOrder r b.val s =
      if bank.state = .filling then
        if bank.complete then
          accept (s.updRoom r fun rm => rm.updBank b fun x => { x with state := .closed }) bank.frontierData
        else refuse s .countMismatch bank.frontierData
      else refuse s .wrongState := by
  unfold bankCloseOrder; rw [bankOf_val]

theorem bankClearOrder_eq (r : RoomId) (b : BankId) (s : State) :
    bankClearOrder r b.val s =
      if (s.room r).ctx.currentBank = some b ∧ (s.room r).ctx.singing = true then refuse s .inUse
      else if ((s.room r).bank b).loaded then
        accept (s.updRoom r fun x => (if x.ctx.cuedBank = some b then x.releaseCue else x).clearBank b)
      else accept s := by
  unfold bankClearOrder; rw [bankOf_val]

/-- R35: the room whose loaded bank BANK_CLEAR has cleared. -/
def Room.bankCleared (rm : Room) (b : BankId) : Room :=
  (if rm.ctx.cuedBank = some b then rm.releaseCue else rm).clearBank b

theorem Room.clearBank_loaded {rm : Room} {b : BankId} (h : (rm.bank b).loaded = true) :
    rm.clearBank b =
      { rm with
        bank0 := if b = 0 then rm.bank0.beginClearing else rm.bank0
        bank1 := if b = 1 then rm.bank1.beginClearing else rm.bank1
        latch := darkenedLatch b rm.latch } := by
  rw [Room.clearBank_eq, if_pos h]
  rcases bank_cases b with rfl | rfl
  · rw [show rm.bank0.cleared = rm.bank0.beginClearing from if_pos h]; rfl
  · rw [show rm.bank1.cleared = rm.bank1.beginClearing from if_pos h]; rfl

/-- R35, R36, R78: the room after BANK_CLEAR of a loaded bank, field by field. -/
theorem Room.bankCleared_eq {rm : Room} {b : BankId} (h : (rm.bank b).loaded = true) :
    rm.bankCleared b =
      { (if rm.ctx.cuedBank = some b then rm.releaseCue else rm) with
        bank0 := if b = 0 then rm.bank0.beginClearing else rm.bank0
        bank1 := if b = 1 then rm.bank1.beginClearing else rm.bank1
        latch := darkenedLatch b
          (if rm.ctx.cuedBank = some b then keptLatch rm.ctx.currentBank none rm.latch else rm.latch) } := by
  unfold Room.bankCleared
  split
  · rw [Room.clearBank_loaded (rm := rm.releaseCue) (by rw [releaseCue_eq]; exact h), releaseCue_eq]
  · rw [Room.clearBank_loaded h]

theorem Room.bankCleared_bank {rm : Room} {b : BankId} (h : (rm.bank b).loaded = true) :
    (rm.bankCleared b).bank b = (rm.bank b).beginClearing ∧ ∀ c, c ≠ b → (rm.bankCleared b).bank c = rm.bank c := by
  rw [Room.bankCleared_eq h]
  rcases bank_cases b with rfl | rfl
  · refine ⟨rfl, fun c hc => ?_⟩
    rcases bank_cases c with rfl | rfl
    · exact absurd rfl hc
    · rfl
  · refine ⟨rfl, fun c hc => ?_⟩
    rcases bank_cases c with rfl | rfl
    · rfl
    · exact absurd rfl hc

/-- R78: the latch after BANK_CLEAR of a loaded bank. -/
theorem Room.bankCleared_latch {rm : Room} {b : BankId} (h : (rm.bank b).loaded = true) :
    (rm.bankCleared b).latch =
      darkenedLatch b (rm.latch.filter fun l => rm.ctx.cuedBank ≠ some b ∨ l.bank = none ∨ l.bank = rm.ctx.currentBank) := by
  rw [Room.bankCleared_eq h]
  by_cases hc : rm.ctx.cuedBank = some b
  · simp only [hc, if_true, keptLatch_uncued, ne_eq, not_true_eq_false, false_or]
  · simp only [hc, if_false, ne_eq, not_false_eq_true, true_or, decide_true]
    cases rm.latch <;> rfl

/-- Settles O32: the code by the bank's state and role, and the room after the clearing. -/
theorem bankCloseAndClear : Obligations.BankCloseAndClear := by
  intro r tag s h
  have close {t : State} {bank : Nat} {code : ReplyCode} {data : List Byte}
      (e : bankCloseOrder r bank s.countIn = ⟨t.countIn, code, data⟩) :
      exec (.bankClose r tag bank) s = .next (t.replied r.val tag 26 code data) :=
    congrArg Host.Outcome.next (roomOrder_replied h e)
  have clear {t : State} {bank : Nat} {code : ReplyCode} (e : bankClearOrder r bank s.countIn = ⟨t.countIn, code, []⟩) :
      exec (.bankClear r tag bank) s = .next (t.replied r.val tag 27 code) :=
    congrArg Host.Outcome.next (roomOrder_replied h e)
  refine ⟨fun bank hb => ⟨close (t := s) (bankOrders_badBank hb).1, clear (t := s) (bankOrders_badBank hb).2⟩, fun b => ?_⟩
  dsimp only
  refine ⟨?_, fun hc hs => ?_, fun hn hb => ?_, fun hn hb => ?_⟩
  · have he := bankCloseOrder_eq r b s.countIn
    dsimp only [room_countIn] at he
    by_cases hf : ((s.room r).bank b).state = .filling
    · rw [if_neg (not_not.mpr hf)]
      rw [if_pos hf] at he
      by_cases hcomplete : ((s.room r).bank b).complete = true
      · rw [if_pos ((Bank.complete_iff _).mp hcomplete)]
        exact close (he.trans (if_pos hcomplete))
      · rw [if_neg (mt (Bank.complete_iff _).mpr hcomplete)]
        exact close (t := s) (he.trans (if_neg hcomplete))
    · rw [if_pos hf]
      exact close (t := s) (he.trans (if_neg hf))
  · exact clear (t := s) ((bankClearOrder_eq r b s.countIn).trans (if_pos ⟨hc, hs⟩))
  · have hl : ¬((s.countIn.room r).bank b).loaded = true := by
      rw [Bank.loaded_iff, room_countIn]
      rcases hb with hb | hb <;> rw [hb] <;> decide
    refine clear (t := s) ((bankClearOrder_eq r b s.countIn).trans ?_)
    rw [if_neg (by exact hn), if_neg hl]
    rfl
  · have hl : ((s.room r).bank b).loaded = true := (Bank.loaded_iff _).mpr hb
    refine ⟨(s.room r).bankCleared b, clear (t := s.setRoom r ((s.room r).bankCleared b)) ?_,
      (Room.bankCleared_bank hl).1, (Room.bankCleared_bank hl).2, ?_⟩
    · refine (bankClearOrder_eq r b s.countIn).trans ?_
      rw [if_neg (by exact hn), if_pos (by exact hl)]
      rfl
    · have hlatch := Room.bankCleared_latch hl
      rw [Room.bankCleared_eq hl] at hlatch ⊢
      by_cases hc : (s.room r).ctx.cuedBank = some b
      · rw [if_pos hc, releaseCue_eq] at hlatch ⊢
        refine ⟨rfl, rfl, rfl, rfl, rfl, rfl, rfl, rfl, hlatch, fun hn => absurd hc hn, fun _ => ⟨rfl, ?_, ?_, ?_⟩⟩
        · simp only [eq_comm]
        · exact fun hs => if_pos hs
        · exact fun hs => if_neg hs
      · rw [if_neg hc] at hlatch ⊢
        exact ⟨rfl, rfl, rfl, rfl, rfl, rfl, rfl, rfl, hlatch, fun _ => ⟨rfl, rfl, rfl⟩, fun hn => absurd hn hc⟩

/-! ### The answering orders (R158 to R161) -/

section
variable {r : RoomId} {ticket : Nat} {s : State}

theorem withEntry_unheld {act : Entry → State → Verdict} (h : (s.room r).entry? ticket = none) :
    withEntry r ticket act s = refuse s .unknownTicket := by
  unfold withEntry; rw [h]

theorem withEntry_held {act : Entry → State → Verdict} {e : Entry} (h : (s.room r).entry? ticket = some e) :
    withEntry r ticket act s = act e s := by
  unfold withEntry; rw [h]

end

theorem entry?_ticket {rm : Room} {ticket : Nat} {e : Entry} (h : rm.entry? ticket = some e) : e.ticket = ticket := by
  simpa using List.find?_some h

theorem Room.dropEntry_eq (rm : Room) (ticket : Nat) :
    rm.dropEntry ticket = { rm with requests := rm.requests.filter fun e => e.ticket ≠ ticket } := by
  unfold Room.dropEntry
  congr 2
  funext e
  simp [bne, BEq.beq]

theorem withdrawCancel_eq (r : RoomId) (ticket : Nat) (s : State) :
    withdrawCancel r ticket s =
      { s with cancelQueue := s.cancelQueue.filter fun i => ¬(i.room = r ∧ i.ticket = ticket) } := by
  unfold withdrawCancel
  congr 2
  funext i
  simp [BEq.beq]

theorem removeWithResult_eq (r : RoomId) (e : Entry) (k : ResultKind) (s : State) :
    removeWithResult r e k s =
      (s.setRoom r { s.room r with requests := (s.room r).requests.filter fun x => x.ticket ≠ e.ticket }).updPanel
        e.source fun p => p.push k := by
  unfold removeWithResult pushResult
  simp only [Room.dropEntry_eq]
  rfl

@[simp] theorem setRoom_setRoom (s : State) (r : RoomId) (x y : Room) : (s.setRoom r x).setRoom r y = s.setRoom r y := by
  unfold State.setRoom Vector.set
  simp

/-- R161: the entry of a withdrawn cue leaves the list. -/
theorem removeWithResult_withdrawn (r : RoomId) (e : Entry) (k : ResultKind) (s : State) :
    removeWithResult r e k (s.updRoom r Room.withdrawCue) =
      (s.setRoom r { (s.room r).withdrawCue with
        requests := (s.room r).withdrawCue.requests.filter fun x => x.ticket ≠ e.ticket }).updPanel
          e.source fun p => p.push k := by
  rw [removeWithResult_eq, room_updRoom_same]
  unfold State.updRoom
  rw [setRoom_setRoom]

/-- Settles O48, state by state. -/
theorem requestAnswersByEntryState : Obligations.RequestAnswersByEntryState := by
  intro r tag ticket position reason s h
  dsimp only
  have answers {t : State} {kind : Nat} {d : State → Verdict} {code : ReplyCode} {data : List Byte}
      (e : d s.countIn = ⟨t.countIn, code, data⟩) :
      (.next (roomOrder r tag kind d s) : Host.Outcome State Fault Refusal) = .next (t.replied r.val tag kind code data) :=
    congrArg Host.Outcome.next (roomOrder_replied h e)
  refine ⟨fun hn => ?_, fun hr => ?_, fun e he => ?_⟩
  · have none (act : Entry → State → Verdict) : withEntry r ticket act s.countIn = ⟨s.countIn, .unknownTicket, []⟩ :=
      withEntry_unheld hn
    refine ⟨answers (none _), answers (none _), fun hr => answers ?_, answers (none _)⟩
    exact (if_neg (Nat.not_lt.mpr hr)).trans (none _)
  · exact answers (t := s) (if_pos hr)
  · obtain rfl : e.ticket = ticket := entry?_ticket he
    have found (act : Entry → State → Verdict) : withEntry r e.ticket act s.countIn = act e s.countIn := withEntry_held he
    refine ⟨?_, ?_, fun hr => ?_, fun hs => ?_, fun hs => ?_, fun hs => ?_, fun hs => ?_, fun hs => ?_⟩
    · cases hs : e.state <;> refine answers ((found _).trans ?_) <;> rw [acceptEntry, hs] <;> rfl
    · cases hs : e.state <;> refine answers ((found _).trans ?_) <;> rw [positionEntry, hs] <;> rfl
    · cases hs : e.state <;> refine answers ((if_neg (Nat.not_lt.mpr hr)).trans ((found _).trans ?_)) <;>
        simp only [refuseEntry, hs, confirmCancel, withdrawCancel_eq, removeWithResult_eq] <;> rfl
    · refine answers ((found _).trans ?_)
      rcases hs with hs | hs <;> simp only [dropOrder, hs, removeWithResult_eq] <;> rfl
    · refine answers ((found _).trans ?_)
      simp only [dropOrder, hs, confirmCancel, withdrawCancel_eq, removeWithResult_eq]; rfl
    · refine answers (t := s) ((found _).trans ?_)
      simp only [dropOrder, hs]; rfl
    · refine answers (t := s) ((found _).trans ?_)
      simp only [dropOrder, hs]; rfl
    · refine answers ((found _).trans ?_)
      simp only [dropOrder, hs, removeWithResult_withdrawn, Room.withdrawCue_eq, keptLatch_uncued]; rfl

end Sys2Proof.Machine
end

section
/-! PROOFS. Reports of a room and the outboxes of its panels, and ROOM_RESET (O46). -/

namespace Sys2Proof.Machine

/-! ### A report of a room (R177, R178) -/

section
variable {b : ReportBody} {r : RoomId} {s : State}

/-- R177: a room's report enters the queue. -/
theorem raise_enters (hb : b.owner = .room r) (h : s.reports.length < 16) (hk : (s.room r).stack.isEmpty = true) :
    raise b s = { s with reports := s.reports ++ [s.newReport b] } := by
  have he : s.reportEnters b.owner = true := by
    rw [hb]; simp [State.reportEnters, State.stackEmpty, h, hk]
  unfold raise
  rw [if_pos he]

/-- R178: a room's report goes to its slot. -/
theorem raise_stacks (hb : b.owner = .room r) (h : 16 ≤ s.reports.length ∨ (s.room r).stack.isEmpty = false) :
    raise b s =
      (s.count fun l => l.stacked (.room r) (s.replaces (s.newReport b))).updRoom r fun rm =>
        { rm with stack := rm.stack.put (s.newReport b) } := by
  have he : ¬s.reportEnters b.owner = true := by
    rw [hb]
    rcases h with h | h <;> simp [State.reportEnters, State.stackEmpty, h]
  unfold raise
  rw [if_neg he]
  unfold stackReport
  rw [fillSlot_room _ _ r hb]
  show State.updRoom _ _ _ = _
  rw [show (s.newReport b).body.owner = .room r from hb]

end

/-! ### The panels of a room (R20, R149, R165) -/

/-- An operation on those panels of a list that meet `c` changes each of them once. -/
theorem foldl_panels {c : PollEntry → Bool} {f : PollEntry → PollEntry} {l : List PanelId} (hl : l.Nodup) (s : State)
    (e : PanelId) :
    (l.foldl (fun acc k => if c (acc.panel k) then acc.updPanel k f else acc) s).panel e =
      if e ∈ l ∧ c (s.panel e) then f (s.panel e) else s.panel e := by
  induction l generalizing s with
  | nil => simp
  | cons k l ih =>
    obtain ⟨hk, hl⟩ := List.nodup_cons.mp hl
    rw [List.foldl_cons, ih hl]
    have hstep : (if c (s.panel k) then s.updPanel k f else s).panel e =
        if e = k ∧ c (s.panel e) then f (s.panel e) else s.panel e := by
      by_cases he : e = k
      · subst he
        split <;> simp [*]
      · split <;> simp [he, panel_updPanel_ne]
    rw [hstep]
    by_cases he : e = k
    · subst he; simp [hk]
    · simp [he]

theorem mem_allPanels (e : PanelId) : e ∈ allPanels := by revert e; decide

theorem mappedTo_iff (p : PollEntry) (r : RoomId) : p.mappedTo r = true ↔ p.enabled = true ∧ p.room = r := by
  simp [PollEntry.mappedTo]

theorem emptyOutboxes_panel (r : RoomId) (s : State) (e : PanelId) :
    (emptyOutboxes r s).panel e =
      if (s.panel e).enabled = true ∧ (s.panel e).room = r then { s.panel e with outbox := [] } else s.panel e := by
  unfold emptyOutboxes
  rw [foldl_panels (c := fun p => p.mappedTo r) (by decide)]
  simp only [mem_allPanels, true_and, mappedTo_iff]

theorem pushToRoom_panel (r : RoomId) (k : ResultKind) (s : State) (e : PanelId) :
    (pushToRoom r k s).panel e =
      if (s.panel e).enabled = true ∧ (s.panel e).room = r then (s.panel e).push k else s.panel e := by
  unfold pushToRoom pushResult
  rw [foldl_panels (c := fun p => p.mappedTo r) (by decide)]
  simp only [mem_allPanels, true_and, mappedTo_iff]

/-- What agrees beyond the rooms, panels, reports and their counts differs in these alone. -/
theorem eq_of_beyondRooms {s t : State} (h : t.beyondRooms = s.beyondRooms) :
    t = { s with
      rooms := t.rooms, panels := t.panels, reports := t.reports
      link := { s.link with
        reportsStacked := t.link.reportsStacked, reportsReplaced := t.link.reportsReplaced } } := by
  calc
    t = { t.beyondRooms with
          rooms := t.rooms, panels := t.panels, reports := t.reports
          link := { t.beyondRooms.link with
            reportsStacked := t.link.reportsStacked, reportsReplaced := t.link.reportsReplaced } } := rfl
    _ = _ := by rw [h]; rfl

/-! ### ROOM_RESET (R20, R21) -/

theorem emptyOutboxes_countIn (r : RoomId) (s : State) : emptyOutboxes r s.countIn = (emptyOutboxes r s).countIn := by
  refine List.foldl_hom State.countIn fun x e => ?_
  rw [panel_countIn]
  split <;> rfl

theorem raise_countIn {b : ReportBody} (s : State) : raise b s.countIn = (raise b s).countIn := by
  unfold raise
  rw [show s.countIn.reportEnters b.owner = s.reportEnters b.owner by cases b.owner <;> rfl]
  split
  · rfl
  · unfold stackReport fillSlot
    cases b <;> rfl

theorem markStale_countIn (r : RoomId) (s : State) : markStale r s.countIn = (markStale r s).countIn := rfl

theorem resetQuietly_countIn (r : RoomId) (s : State) : resetQuietly r s.countIn = (resetQuietly r s).countIn := by
  have before (x : State) :
      { x.countIn.updRoom r fun rm => rm.reset x.countIn.mode x.countIn.chip.clearReports with
        cancelQueue := x.cancelQueue.filter fun i => i.room != r } =
      State.countIn { x.updRoom r fun rm => rm.reset x.mode x.chip.clearReports with
        cancelQueue := x.cancelQueue.filter fun i => i.room != r } := rfl
  unfold resetQuietly
  dsimp only [updRoom_cancelQueue]
  rw [← markStale_countIn, ← emptyOutboxes_countIn]
  exact congrArg (fun x => markStale r (emptyOutboxes r x)) (before s)

theorem resetRoom_countIn (r : RoomId) (s : State) : resetRoom r s.countIn = (resetRoom r s).countIn := by
  rw [resetRoom_eq, resetRoom_eq, room_countIn, resetQuietly_countIn]
  split
  · rfl
  · exact raise_countIn _

@[simp] theorem markStale_panel (r : RoomId) (s : State) (e : PanelId) : (markStale r s).panel e = s.panel e := rfl

theorem resetRoom_panel (r : RoomId) (s : State) (e : PanelId) :
    (resetRoom r s).panel e =
      if (s.panel e).enabled = true ∧ (s.panel e).room = r then { s.panel e with outbox := [] } else s.panel e := by
  have hq : (resetQuietly r s).panel e =
      if (s.panel e).enabled = true ∧ (s.panel e).room = r then { s.panel e with outbox := [] } else s.panel e := by
    unfold resetQuietly
    rw [markStale_panel, emptyOutboxes_panel]
    rfl
  rcases resetRoom_cases r s with ⟨_, h⟩ | ⟨c, _, h⟩ <;> rw [h]
  · exact hq
  · rw [raise_panel, hq]

theorem resetRoom_cancelQueue (r : RoomId) (s : State) :
    (resetRoom r s).cancelQueue = s.cancelQueue.filter fun i => i.room != r :=
  congrArg State.cancelQueue (resetRoom_beyond r s)

theorem resetRoom_frameQueue (r : RoomId) (s : State) :
    (resetRoom r s).frameQueue = s.frameQueue.map fun f => if f.room = r then { f with stale := true } else f :=
  congrArg State.frameQueue (resetRoom_beyond r s)

/-- All of a room after ROOM_RESET but its stack, which may hold the CAL_DONE of an aborted calibration. -/
theorem resetRoom_room_but_stack (r : RoomId) (s : State) :
    ∃ k, (resetRoom r s).room r = { (s.room r).reset s.mode s.chip.clearReports with stack := k } := by
  rcases resetRoom_room r s with e | ⟨_, _, _, e⟩
  · exact ⟨_, e⟩
  · exact ⟨_, e⟩

/-- R35: a bank once a clearing has been asked for, by its state. -/
theorem Bank.cleared_cases (b : Bank) :
    (b.state = .filling ∨ b.state = .closed → b.cleared = { state := .clearing, songId := b.songId })
      ∧ (b.state = .empty ∨ b.state = .clearing → b.cleared = b) := by
  refine ⟨fun h => if_pos ((Bank.loaded_iff b).mpr h), fun h => if_neg fun hl => ?_⟩
  rcases h with h | h <;> rw [Bank.loaded_iff, h] at hl <;> simp at hl

@[simp] theorem markStale_reports (r : RoomId) (s : State) : (markStale r s).reports = s.reports := rfl
@[simp] theorem markStale_venueTime (r : RoomId) (s : State) : (markStale r s).venueTime = s.venueTime := rfl

@[simp] theorem resetQuietly_reports (r : RoomId) (s : State) : (resetQuietly r s).reports = s.reports := by
  unfold resetQuietly
  rw [markStale_reports, emptyOutboxes_reports]
  rfl

@[simp] theorem resetQuietly_venueTime (r : RoomId) (s : State) : (resetQuietly r s).venueTime = s.venueTime := by
  unfold resetQuietly
  rw [markStale_venueTime, emptyOutboxes_venueTime]
  rfl

/-- R20, R178: the reports and the room's stack after ROOM_RESET. -/
theorem resetRoom_reports (r : RoomId) (s : State) :
    let kept := (s.room r).stack.afterReset s.chip.clearReports
    ((s.room r).port.calibration = none →
      (resetRoom r s).reports = s.reports ∧ ((resetRoom r s).room r).stack = kept)
    ∧ ∀ c, (s.room r).port.calibration = some c →
      let done : Report :=
        ⟨.calDone r .aborted 0 (s.room r).port.delay (s.room r).port.delayValid c.mic, s.venueTime, 0⟩
      (s.reports.length < 16 → kept.isEmpty = true →
        (resetRoom r s).reports = s.reports ++ [done] ∧ ((resetRoom r s).room r).stack = kept)
      ∧ (16 ≤ s.reports.length ∨ kept.isEmpty = false →
        (resetRoom r s).reports = s.reports ∧ ((resetRoom r s).room r).stack = { kept with calDone := some done }) := by
  have hstack : ((resetQuietly r s).room r).stack = (s.room r).stack.afterReset s.chip.clearReports := by
    rw [resetQuietly_room, if_pos rfl, reset_stack]
  have hrep := resetQuietly_reports r s
  have htime := resetQuietly_venueTime r s
  rw [resetRoom_eq]
  generalize resetQuietly r s = x at hstack hrep htime ⊢
  dsimp only
  rw [← hstack, ← hrep, ← htime]
  refine ⟨fun hn => ?_, fun c hc => ⟨fun hl hk => ?_, fun hl => ?_⟩⟩
  · rw [hn]
    exact ⟨rfl, rfl⟩
  · rw [hc]
    dsimp only
    rw [raise_enters (r := r) rfl hl hk]
    exact ⟨rfl, rfl⟩
  · rw [hc]
    dsimp only
    rw [raise_stacks (r := r) rfl hl, room_updRoom_same]
    exact ⟨rfl, rfl⟩

/-- Settles O46. -/
theorem roomResetReturnsTheRoom : Obligations.RoomResetReturnsTheRoom := by
  intro r tag s h
  obtain ⟨k, hroom⟩ := resetRoom_room_but_stack r s
  have hreports := resetRoom_reports r s
  rw [Room.reset_eq] at hroom
  refine ⟨resetRoom r s, congrArg Host.Outcome.next (roomOrder_replied h (by rw [resetRoom_countIn]; rfl)), ?_, ?_⟩
  · refine eq_of_beyondRooms (s := { s with
      cancelQueue := (resetRoom r s).cancelQueue, frameQueue := (resetRoom r s).frameQueue }) ?_
    rw [resetRoom_beyond, resetRoom_cancelQueue, resetRoom_frameQueue]
    rfl
  refine ⟨?_, fun b => ?_, ?_, fun m => ?_, by rw [hroom], by rw [hroom], by rw [hroom], by rw [hroom], by rw [hroom],
    by rw [hroom], by rw [hroom], ?_,
    resetRoom_frameQueue r s, resetRoom_panel r s, fun k hk => resetRoom_room_ne r k s hk, hreports⟩
  · rw [hroom]; rfl
  · rw [hroom]
    rcases bank_cases b with rfl | rfl
    · exact Bank.cleared_cases _
    · exact Bank.cleared_cases _
  · rw [hroom]; rfl
  · rw [hroom]
    rcases bank_cases m with rfl | rfl <;> rfl
  · rw [resetRoom_cancelQueue]
    refine List.filter_congr fun i _ => ?_
    simp [bne, BEq.beq]

end Sys2Proof.Machine
end

section
/-! PROOFS. The drain arbiter and the room that leaves ENDING (O13). -/

namespace Sys2Proof.Machine

/-! ### What a stack gives up (R179) -/

/-- R179: the slots of a stack in the order they are given up. -/
theorem takeFirst_order (k : RoomStack) :
    (k.isEmpty = true → k.takeFirst = none)
    ∧ (∀ x, k.lineScore = some x → k.takeFirst = some (x, { k with lineScore := none }))
    ∧ (∀ x, k.lineScore = none → k.songEnd = some x → k.takeFirst = some (x, { k with songEnd := none }))
    ∧ (∀ x, k.lineScore = none → k.songEnd = none → k.bankFree = some x →
        k.takeFirst = some (x, { k with bankFree := none }))
    ∧ (∀ x, k.lineScore = none → k.songEnd = none → k.bankFree = none → k.calDone = some x →
        k.takeFirst = some (x, { k with calDone := none }))
    ∧ (∀ x, k.lineScore = none → k.songEnd = none → k.bankFree = none → k.calDone = none → k.queueMark = some x →
        k.takeFirst = some (x, { k with queueMark := none })) := by
  unfold RoomStack.takeFirst
  refine ⟨fun h => ?_, fun x h1 => by rw [h1], fun x h1 h2 => by rw [h1, h2], fun x h1 h2 h3 => by rw [h1, h2, h3],
    fun x h1 h2 h3 h4 => by rw [h1, h2, h3, h4], fun x h1 h2 h3 h4 h5 => by rw [h1, h2, h3, h4, h5]⟩
  simp only [RoomStack.isEmpty, Bool.and_eq_true, Option.isNone_iff_eq_none] at h
  obtain ⟨⟨⟨⟨h1, h2⟩, h3⟩, h4⟩, h5⟩ := h
  rw [h1, h2, h3, h4, h5]

theorem takeFirst_nonempty {k : RoomStack} {x : Report × RoomStack} (h : k.takeFirst = some x) : k.isEmpty = false := by
  cases he : k.isEmpty with
  | false => rfl
  | true => rw [(takeFirst_order k).1 he] at h; cases h

/-- R18: what is done about the room whose report has entered the queue. -/
theorem songEndQueued_eq (r : RoomId) (rep : Report) (s : State) :
    songEndQueued r rep s =
      if rep.body.fields.1 = 2 ∧ (s.room r).ctx.state = .ending then leaveEnding r s else s := by
  unfold songEndQueued
  cases rep.body <;> simp [ReportBody.fields]

/-! ### The arbiter (R179) -/

theorem allPanels_getElem (e : PanelId) : allPanels[e.val]'e.isLt = e := by revert e; decide

/-- The lowest-numbered entry that meets a test. -/
theorem allPanels_find? {p : PanelId → Bool} {e : PanelId} (he : p e = true) (hlt : ∀ k, k < e → p k = false) :
    allPanels.find? p = some e := by
  refine List.find?_eq_some_iff_getElem.mpr ⟨he, e.val, e.isLt, allPanels_getElem e, fun j hj => ?_⟩
  have h8 : j < 8 := Nat.lt_trans hj e.isLt
  exact (congrArg (fun k => !p k) (allPanels_getElem ⟨j, h8⟩)).trans (by rw [hlt ⟨j, h8⟩ hj]; rfl)

/-- The owner numbered `n` in the cyclic order of R179. -/
def cyclicOwner (n : Nat) : Owner := [Owner.room 0, .room 1, .room 2, .room 3, .chip].getD (n % 5) .chip

/-- The number of an owner in that order. -/
def Owner.rank : Owner → Nat
  | .room r => r.val
  | .chip => 4

theorem ownersAfter_eq (o : Owner) : ownersAfter o = (List.range 5).map fun k => cyclicOwner (o.rank + 1 + k) := by
  cases o with
  | chip => rfl
  | room r => revert r; decide

theorem servedNext_none {s : State} (h : ∀ o, s.stackEmpty o = true) : s.servedNext = none := by
  refine List.find?_eq_none.mpr fun o _ => ?_
  rw [h]; decide

theorem servedNext_some {s : State} {n : Nat} (hn : n < 5)
    (hk : ∀ k, k < n → s.stackEmpty (cyclicOwner (s.lastServed.rank + 1 + k)) = true)
    (h : s.stackEmpty (cyclicOwner (s.lastServed.rank + 1 + n)) = false) :
    s.servedNext = some (cyclicOwner (s.lastServed.rank + 1 + n)) := by
  unfold State.servedNext
  rw [ownersAfter_eq]
  refine List.find?_eq_some_iff_getElem.mpr ⟨by rw [h]; rfl, n, by simpa using hn, by simp, fun j hj => ?_⟩
  simp [hk j hj]

theorem chipStack_nonempty {s : State} {e : PanelId} {x : Report} (h : s.chipStack.get e = some x) :
    s.stackEmpty .chip = false := by
  refine Bool.eq_false_iff.mpr fun hall => ?_
  have := List.all_eq_true.mp hall e (mem_allPanels e)
  rw [h] at this
  cases this

/-- R157: with no CANCEL item and no WAITING entry the Request Manager offers nothing. -/
theorem sendRequest_none {s : State} (hc : s.cancelQueue = [])
    (hw : ∀ r, ∀ e ∈ (s.room r).requests, e.state ≠ .waiting) : sendRequest s = none := by
  have hnone : s.waiting = [] := by
    refine List.filterMap_eq_nil_iff.mpr fun r _ => ?_
    rw [List.find?_eq_none.mpr fun e he => by simpa using hw r e he]
    rfl
  unfold sendRequest State.nextAdd
  rw [hc, hnone]
  rfl

/-- R179: the head report on the link, the place it frees not yet given away. -/
def reportSent (rep : Report) (rest : List Report) (s : State) : State :=
  { s with
    reports := rest
    upstream := some (.report rep)
    link := { s.link with reportsSent := s.link.reportsSent + 1 } }

theorem sendReport_eq (rep : Report) (rest : List Report) (s : State) :
    sendReport rep rest s = drain (reportSent rep rest s) := rfl

theorem reportSent_stackEmpty (rep : Report) (rest : List Report) (s : State) (o : Owner) :
    (reportSent rep rest s).stackEmpty o = s.stackEmpty o := by cases o <;> rfl

/-- R180: with nothing else to send, the head report is sent and its place given away. -/
theorem schedule_report {s : State} {rep : Report} {rest : List Report} (hr : s.replies = []) (hm : s.mode ≠ .stop)
    (hq : sendRequest s = none) (h : s.reports = rep :: rest) : schedule s = sendReport rep rest s := by
  unfold schedule
  rw [hr]
  dsimp only
  rw [if_neg hm, hq]
  dsimp only
  rw [h]

/-! ### Leaving ENDING (R18) -/

/-- R78: without a song a latch keeps its bank only in the cue. -/
theorem keptLatch_songless (cued : Option BankId) (latch : Option FrameLatch) :
    keptLatch none cued latch = latch.filter fun l => l.bank = none ∨ l.bank = cued := by
  unfold keptLatch
  congr 1
  funext l
  simp only [decide_eq_decide]
  tauto

theorem leaveEnding_eq (r : RoomId) (s : State) :
    let rm := s.room r
    let left (st : RoomState) : Room := { rm with
      ctx := { rm.ctx with state := st, currentBank := none }
      latch := rm.latch.filter fun l => l.bank = none ∨ l.bank = rm.ctx.cuedBank }
    leaveEnding r s =
      if rm.ctx.cuedBank = none then s.setRoom r { left .idle with port := rm.port.emptied }
      else markTest r (s.setRoom r (left .cued)) := by
  dsimp only
  unfold leaveEnding
  rw [← keptLatch_songless]
  cases h : (s.room r).ctx.cuedBank with
  | none =>
    dsimp only
    rw [if_pos rfl]
    unfold State.updRoom
    rw [setRoom_setRoom, room_setRoom_same]
    dsimp only
    rw [Room.dropLostLatch_eq]
    unfold Room.updCtx
    dsimp only
    rw [h]
    rfl
  | some b =>
    dsimp only
    rw [if_neg (by simp)]
    unfold State.updRoom
    rw [setRoom_setRoom, room_setRoom_same]
    dsimp only
    rw [Room.dropLostLatch_eq]
    unfold Room.updCtx
    dsimp only
    rw [h]
    rfl

/-- Settles O13. -/
theorem freedPlacesGoToTheStacks : Obligations.FreedPlacesGoToTheStacks := by
  refine ⟨fun s rep rest hr hm hc hw h => ?_, leaveEnding_eq, takeFirst_order⟩
  have hsend : exec .cellSent s = .next (drain (reportSent rep rest s)) :=
    congrArg Host.Outcome.next
      ((schedule_report hr hm (sendRequest_none hc hw) h).trans (sendReport_eq rep rest s))
  have hempty := reportSent_stackEmpty rep rest s
  dsimp only
  rw [hsend]
  refine ⟨fun he => ?_, fun n hn hk => ?_⟩
  · rw [drain, servedNext_none fun o => (hempty o).trans (he o)]
    rfl
  have served (o : Owner) (ho : cyclicOwner (s.lastServed.rank + 1 + n) = o) (hfull : s.stackEmpty o = false) :
      (reportSent rep rest s).servedNext = some o := by
    rw [← ho] at hfull ⊢
    exact servedNext_some (s := reportSent rep rest s) hn (fun k h => (hempty _).trans (hk k h)) ((hempty _).trans hfull)
  refine ⟨fun r ho first k ht => ?_, fun ho e first hf hlt => ?_⟩
  · rw [drain, served (.room r) ho (takeFirst_nonempty ht)]
    dsimp only
    rw [drainRoom, show ((reportSent rep rest s).room r).stack.takeFirst = some (first, k) from ht]
    dsimp only
    rw [songEndQueued_eq]
    have hctx := congrArg (fun rm => rm.ctx.state)
      (room_updRoom_same (reportSent rep rest s) r fun rm => { rm with stack := k })
    refine congrArg Host.Outcome.next (if_congr (and_congr_right fun _ => ?_) rfl rfl)
    exact Iff.of_eq (congrArg (· = RoomState.ending) hctx)
  · rw [drain, served .chip ho (chipStack_nonempty hf)]
    have hfirst : (reportSent rep rest s).firstPanelState = some e :=
      allPanels_find? (by rw [show (reportSent rep rest s).chipStack = s.chipStack from rfl, hf]; rfl) fun k h => by
        rw [show (reportSent rep rest s).chipStack = s.chipStack from rfl, hlt k h]; rfl
    dsimp only
    rw [drainChip, hfirst]
    dsimp only
    rw [show (reportSent rep rest s).chipStack = s.chipStack from rfl, hf]
    rfl

end Sys2Proof.Machine
end

section
/-! PROOFS. The moves of the chip mode (O11). -/

namespace Sys2Proof.Machine

/-! ### An order that any chip mode takes -/

/-- R180: once a reply waits, the end of an event sends at most a reply. -/
theorem pushReply_sendIfIdle (x : State) (reply : Reply) :
    ∃ p l u, (x.pushReply reply).sendIfIdle = { x with replies := p, link := l, upstream := u } := by
  rcases sendIfIdle_cases (x.pushReply reply) with ⟨_, e⟩ | ⟨_, e⟩ <;> rw [e]
  · exact ⟨_, _, _, rfl⟩
  · rcases schedule_cases (x.pushReply reply) with ⟨rep, rest, _, e⟩ | ⟨hn, _⟩ | ⟨_, hn, _⟩ | ⟨_, _, hn, _⟩
    · rw [e]; exact ⟨_, _, _, rfl⟩
    all_goals exact absurd hn (List.append_ne_nil_of_right_ne_nil _ (List.cons_ne_nil _ _))

theorem takeOrder_anyMode {s : State} (h : s.replies.length < 16) (room tag kind : Nat) (d : State → Verdict) :
    takeOrder true room tag kind d s =
      ((d s.countIn).state.pushReply (replyOf room tag kind (d s.countIn).code (d s.countIn).data)).sendIfIdle := by
  have hfull : ¬s.repliesFull = true := by simp [State.repliesFull]; omega
  unfold takeOrder
  rw [if_neg (by simp), if_neg hfull]

/-- The state that SET_MODE with OK leaves, but for its reply. -/
theorem execSetMode_accepted {s x : State} {tag mode : Nat} (h : s.replies.length < 16)
    (e : setModeOrder mode s.countIn = accept x) :
    ∃ p l u, exec (.setMode tag mode) s = .next { x with replies := p, link := l, upstream := u } := by
  obtain ⟨p, l, u, hx⟩ := pushReply_sendIfIdle x (replyOf 15 tag 1 .ok [])
  refine ⟨p, l, u, ?_⟩
  show Host.Outcome.next (takeOrder true 15 tag 1 (setModeOrder mode) s) = _
  rw [takeOrder_anyMode h, e]
  exact congrArg Host.Outcome.next hx

/-! ### From CONFIG to RUN and to STOP -/

theorem mapRooms_eq (s : State) (f : Room → Room) : s.mapRooms f = { s with rooms := s.rooms.map f } := by
  have h : (s.mapRooms f).rooms = s.rooms.map f := by
    refine rooms_ext _ _ fun k => ?_
    show (s.mapRooms f).room k = _
    rw [mapRooms_room]
    exact (Vector.getElem_map ..).symm
  calc
    s.mapRooms f = { s with rooms := (s.mapRooms f).rooms } := rfl
    _ = _ := by rw [h]

/-- What the beginning of polling leaves. -/
theorem startPolling_keeps {α : Type} (f : State → α)
    (hf : ∀ (x : State) ps n p, f { x with panels := ps, nextEntry := n, polling := p } = f x) (s : State) :
    f (startPolling s) = f s := by
  unfold startPolling
  split
  · rfl
  · exact hf s _ _ _

/-- R3, R173: the rooms at the move from CONFIG to RUN. -/
def enabledRooms (s : State) : State := { s with mode := .run }.mapRooms Room.enabled

theorem enterRun_eq (s : State) : enterRun s = startPolling (enabledRooms s) := rfl

theorem enterRun_room (s : State) (r : RoomId) : (enterRun s).room r = (s.room r).enabled :=
  (startPolling_room _ r).trans (mapRooms_room _ _ r)

theorem startPolling_none {s : State} (h : ∀ e, (s.panel e).enabled = false) : startPolling s = s := by
  have : s.lowestEnabled = none := List.find?_eq_none.mpr fun e _ => by rw [h]; decide
  unfold startPolling; rw [this]

theorem startPolling_some {s : State} {e : PanelId} (he : (s.panel e).enabled = true)
    (hlt : ∀ k, k < e → (s.panel k).enabled = false) : startPolling s = beginPoll e s := by
  have : s.lowestEnabled = some e := allPanels_find? he hlt
  unfold startPolling; rw [this]

/-! ### From RUN to CONFIG -/

/-- The reset of each room of a list in turn. -/
def resetRooms (l : List RoomId) (s : State) : State := l.foldl (fun acc r => resetRoom r acc) s

theorem resetRooms_cons (r : RoomId) (l : List RoomId) (s : State) :
    resetRooms (r :: l) s = resetRooms l (resetRoom r s) := rfl

theorem resetRooms_beyond (l : List RoomId) (s : State) :
    (resetRooms l s).beyondRooms =
      { s.beyondRooms with
        cancelQueue := s.cancelQueue.filter fun i => i.room ∉ l
        frameQueue := s.frameQueue.map fun f => if f.room ∈ l then { f with stale := true } else f } := by
  induction l generalizing s with
  | nil => simp [State.beyondRooms, resetRooms]
  | cons r l ih =>
    rw [resetRooms_cons, ih, resetRoom_cancelQueue, resetRoom_frameQueue, resetRoom_beyond, List.filter_filter, List.map_map]
    have hcancel : (fun i : CancelItem => decide (i.room ∉ l) && (i.room != r)) = fun i => decide (i.room ∉ r :: l) := by
      funext i
      rw [Bool.eq_iff_iff]
      simp [and_comm]
    have hstale : ((fun f : FrameRecord => if f.room ∈ l then { f with stale := true } else f) ∘
        fun f => if f.room = r then { f with stale := true } else f) =
        fun f => if f.room ∈ r :: l then { f with stale := true } else f := by
      funext f
      by_cases h1 : f.room = r <;> by_cases h2 : f.room ∈ l <;> simp [h1, h2]
    rw [hcancel, hstale]

theorem resetRooms_panel (l : List RoomId) (s : State) (e : PanelId) :
    (resetRooms l s).panel e =
      if (s.panel e).enabled = true ∧ (s.panel e).room ∈ l then { s.panel e with outbox := [] } else s.panel e := by
  induction l generalizing s with
  | nil => simp [resetRooms]
  | cons r l ih =>
    rw [resetRooms_cons, ih, resetRoom_panel]
    by_cases h : (s.panel e).enabled = true ∧ (s.panel e).room = r
    · simp [h]
    · rw [if_neg h]
      refine if_congr (and_congr_right fun he => ?_) rfl rfl
      simp [show (s.panel e).room ≠ r from fun hr => h ⟨he, hr⟩]

theorem resetRooms_room_not_mem {l : List RoomId} {k : RoomId} (hk : k ∉ l) (s : State) :
    (resetRooms l s).room k = s.room k := by
  induction l generalizing s with
  | nil => rfl
  | cons r l ih =>
    rw [resetRooms_cons, ih (List.not_mem_of_not_mem_cons hk), resetRoom_room_ne _ _ _ (List.ne_of_not_mem_cons hk)]

/-- R20, R21: with no calibration in flight the resets raise no report. -/
theorem resetRooms_reports {l : List RoomId} (hl : l.Nodup) {s : State}
    (h : ∀ r ∈ l, (s.room r).port.calibration = none) :
    (resetRooms l s).reports = s.reports ∧ ∀ r ∈ l,
      ((resetRooms l s).room r).stack = (s.room r).stack.afterReset s.chip.clearReports := by
  induction l generalizing s with
  | nil => exact ⟨rfl, fun r hr => absurd hr List.not_mem_nil⟩
  | cons r l ih =>
    obtain ⟨hr, hl⟩ := List.nodup_cons.mp hl
    have hne {k : RoomId} (hk : k ∈ l) : k ≠ r := fun e => hr (e ▸ hk)
    have hfirst := (resetRoom_reports r s).1 (h r List.mem_cons_self)
    obtain ⟨hreports, hstacks⟩ := ih hl (s := resetRoom r s) fun k hk => by
      rw [resetRoom_room_ne _ _ _ (hne hk)]
      exact h k (List.mem_cons_of_mem r hk)
    rw [resetRooms_cons]
    refine ⟨hreports.trans hfirst.1, fun k hk => ?_⟩
    rcases List.mem_cons.mp hk with rfl | hk
    · rw [resetRooms_room_not_mem hr]
      exact hfirst.2
    · rw [hstacks k hk, resetRoom_room_ne _ _ _ (hne hk), resetRoom_chip]

theorem mem_allRooms (r : RoomId) : r ∈ allRooms := by revert r; decide

theorem leaveRun_eq (s : State) : leaveRun s = resetRooms allRooms { s with mode := .config, polling := none } := rfl

/-- R22, R173: beside its rooms, panels and reports the move to CONFIG stops polling, empties the cancel queue and marks
every frame record stale. -/
theorem leaveRun_beyond (s : State) :
    (leaveRun s).beyondRooms =
      { s.beyondRooms with
        mode := .config, polling := none, cancelQueue := []
        frameQueue := s.frameQueue.map fun f => { f with stale := true } } := by
  rw [leaveRun_eq, resetRooms_beyond]
  simp only [mem_allRooms, not_true_eq_false, decide_false, List.filter_false, if_true]
  rfl

/-- All of a room after the move from RUN to CONFIG but its stack. -/
theorem leaveRun_room (s : State) (r : RoomId) :
    ∃ k b, (leaveRun s).room r = { (s.room r).reset .config b with stack := k } := by
  obtain ⟨x, hx, hr, e⟩ := foldl_allRooms_room resetRoom resetRoom_room_ne resetRoom_mode
    { s with mode := .config, polling := none } r
  obtain ⟨k, hk⟩ := resetRoom_room_but_stack r x
  refine ⟨k, x.chip.clearReports, e.trans (hk.trans ?_)⟩
  rw [hr, hx]
  rfl

theorem leaveRun_panel (s : State) (e : PanelId) :
    (leaveRun s).panel e = if (s.panel e).enabled = true then { s.panel e with outbox := [] } else s.panel e := by
  rw [leaveRun_eq, resetRooms_panel]
  simp only [mem_allRooms, and_true]
  rfl

theorem leaveRun_reports {s : State} (h : ∀ r, (s.room r).port.calibration = none) :
    (leaveRun s).reports = s.reports ∧
      ∀ r, ((leaveRun s).room r).stack = (s.room r).stack.afterReset s.chip.clearReports := by
  obtain ⟨hreports, hstacks⟩ := resetRooms_reports (l := allRooms) (by decide)
    (s := { s with mode := .config, polling := none }) fun r _ => h r
  exact ⟨hreports, fun r => hstacks r (mem_allRooms r)⟩

theorem Bank.cleared_eq (b : Bank) :
    b.cleared = if b.state = .filling ∨ b.state = .closed then { state := .clearing, songId := b.songId } else b :=
  if_congr (Bank.loaded_iff b) rfl rfl

/-- Settles O11, move by move. -/
theorem setModeMovesTheChip : Obligations.SetModeMovesTheChip := by
  intro tag s h
  refine ⟨fun hm hl => ?_, fun hm => ?_, fun hm hr => ?_⟩
  · obtain ⟨p, l, u, e⟩ := execSetMode_accepted (tag := tag) (mode := 1) (x := enterRun s.countIn) h (by
      unfold setModeOrder
      rw [show s.countIn.mode = .config from hm, show s.countIn.ladder.loaded = true from hl]; rfl)
    have kept {α : Type} (f : State → α) hf : f (enterRun s.countIn) = f (enabledRooms s.countIn) :=
      startPolling_keeps f hf _
    refine ⟨_, e, kept State.mode fun _ _ _ _ => rfl, enterRun_room _, kept State.font fun _ _ _ _ => rfl,
      kept State.ladder fun _ _ _ _ => rfl, kept State.reports fun _ _ _ _ => rfl,
      kept State.frameQueue fun _ _ _ _ => rfl, fun hn => ?_, fun e he hlt => ?_⟩
    · rw [enterRun_eq, startPolling_none (s := enabledRooms s.countIn) hn]
      exact ⟨rfl, rfl⟩
    · rw [enterRun_eq, startPolling_some (s := enabledRooms s.countIn) he hlt]
      exact ⟨rfl, rfl, panel_updPanel_same s e PollEntry.polled, fun k hk => panel_updPanel_ne s e k PollEntry.polled hk⟩
  · show Host.Outcome.next (takeOrder true 15 tag 1 (setModeOrder 2) s) = _
    rw [takeOrder_anyMode h]
    unfold setModeOrder
    rw [show s.countIn.mode = .config from hm]
    show Host.Outcome.next ((enterStop s.countIn).pushReply _).sendIfIdle = _
    unfold enterStop
    rw [mapRooms_eq]
    rfl
  · have hidle : ¬(allRooms.any fun r => (s.countIn.room r).busy) = true := by
      rw [List.any_eq_true]
      rintro ⟨r, _, hb⟩
      rcases hr r with h0 | h0 <;> simp [Room.busy, h0] at hb
    obtain ⟨p, l, u, e⟩ := execSetMode_accepted (tag := tag) (mode := 0) (x := leaveRun s.countIn) h (by
      unfold setModeOrder
      rw [show s.countIn.mode = .run from hm]
      exact if_neg hidle)
    have kept {α : Type} (f : State → α) := congrArg f (leaveRun_beyond s.countIn)
    have hpanel := leaveRun_panel s.countIn
    have hreports : (∀ r, (s.room r).port.calibration = none) → _ := leaveRun_reports (s := s.countIn)
    have hroom := leaveRun_room s.countIn
    generalize leaveRun s.countIn = x at e kept hpanel hreports hroom
    refine ⟨_, e, kept State.mode, kept State.polling, kept State.font, kept State.ladder, kept State.chip,
      kept State.slotIn, kept State.slotOut, kept State.cancelQueue, kept State.issueCounter, kept State.engine,
      kept State.frameQueue, hpanel, hreports, fun r => ?_⟩
    obtain ⟨k, b, hr⟩ := hroom r
    rw [Room.reset_eq] at hr
    have field {α : Type} (f : Room → α) := congrArg f hr
    refine ⟨field Room.ctx, field Room.params, field Room.latch, field Room.port, field Room.requests,
      field Room.ticketCounter, field Room.overlay, field Room.videoOut, field Room.requestCounters, fun m => ?_, fun b => ?_⟩
    · rcases bank_cases m with rfl | rfl
      · exact field Room.mic1
      · exact field Room.mic2
    · rcases bank_cases b with rfl | rfl
      · exact (field Room.bank0).trans (Bank.cleared_eq _)
      · exact (field Room.bank1).trans (Bank.cleared_eq _)

end Sys2Proof.Machine
end

section
/-! PROOFS. What a room's backing queue does in a sample period (O55). -/

namespace Sys2Proof.Machine

/-! ### The work of a room leaves the other rooms -/

section
variable {r k : RoomId} (s : State) (h : k ≠ r)
include h

theorem holdStep_room_ne (t : Nat) : (holdStep r t s).room k = s.room k := by
  rcases holdStep_cases r t s with e | ⟨f, _, e⟩ | ⟨_, e⟩ <;> rw [e]
  · exact room_updRoom_ne _ _ _ _ h
  · rw [takeEnding_room_ne _ _ _ _ h]; exact room_updRoom_ne _ _ _ _ h

theorem lineTest_room_ne (t : Nat) : (lineTest r t s).room k = s.room k := by
  rcases lineTest_cases r t s with e | e | ⟨j, e⟩ <;> rw [e]
  · exact takeEnding_room_ne _ _ _ _ h
  · exact holdStep_room_ne s h t
  · rw [holdStep_room_ne _ h, advanceTo_room_ne _ _ _ _ _ h]

theorem songTick_room_ne : (songTick r s).room k = s.room k := by
  rcases songTick_cases r s with e | ⟨_, e⟩ <;> rw [e]
  exact lineTest_room_ne s h _

theorem backingOutput_room_ne : (backingOutput r s).room k = s.room k := by
  unfold backingOutput
  dsimp only
  split
  · split
    · rw [takeEnding_room_ne _ _ _ _ h, room_updRoom_ne _ _ _ _ h]
    split
    · exact room_updRoom_ne _ _ _ _ h
    · split
      · rw [takeEnding_room_ne _ _ _ _ h, markTest_room_ne _ _ _ h, songTick_room_ne _ h, room_updRoom_ne _ _ _ _ h]
      · rw [markTest_room_ne _ _ _ h, songTick_room_ne _ h, room_updRoom_ne _ _ _ _ h]
  · rfl

theorem endCalibration_room_ne (outcome : CalOutcome) (j : Nat) (f : Port → Port) :
    (endCalibration r outcome j f s).room k = s.room k := by
  unfold endCalibration
  split
  · rfl
  · rw [raise_room_ne _ _ _ (by simp [calDone, ReportBody.owner, Ne.symm h])]
    exact room_updRoom_ne _ _ _ _ h

theorem calibrationStep_room_ne (inputs : Vector Sample 8) : (calibrationStep r inputs s).room k = s.room k := by
  unfold calibrationStep captureStep
  split
  · split
    · exact endCalibration_room_ne s h _ _ _
    split
    · exact endCalibration_room_ne s h _ _ _
    · exact room_updRoom_ne _ _ _ _ h
  · rfl

end

/-! ### The backing output, case by case (R97) -/

section
variable {r : RoomId} {s : State}

theorem backingOutput_silent (h : (s.room r).ctx.state ≠ .playing) : backingOutput r s = s := by
  unfold backingOutput; exact if_neg h

theorem backingOutput_pendingEnd (h : (s.room r).ctx.state = .playing) (hp : (s.room r).port.pendingEnd = true) :
    backingOutput r s =
      takeEnding r .complete (s.updRoom r fun x => x.updPort fun p => { p with pendingEnd := false }) := by
  unfold backingOutput; dsimp only; rw [if_pos h, if_pos hp]

theorem backingOutput_underrun (h : (s.room r).ctx.state = .playing) (hp : (s.room r).port.pendingEnd = false)
    (hq : (s.room r).port.queue = []) : backingOutput r s = s.updRoom r Room.underrun := by
  unfold backingOutput; dsimp only; rw [if_pos h, hp, if_neg (by decide), hq]

theorem backingOutput_sample (h : (s.room r).ctx.state = .playing) (hp : (s.room r).port.pendingEnd = false)
    {x : QueuedSample} {rest : List QueuedSample} (hq : (s.room r).port.queue = x :: rest) :
    let marked := markTest r (songTick r (s.updRoom r fun y => y.advanced rest))
    backingOutput r s =
      if x.endMark = true ∨ (s.room r).ctx.position + 1 = positionLimit then takeEnding r .complete marked
      else marked := by
  unfold backingOutput; dsimp only; rw [if_pos h, hp, if_neg (by decide), hq]

end

/-- R97, step 2: an underrun period, field by field. -/
theorem Room.underrun_eq (rm : Room) :
    rm.underrun = { rm with
      port := { rm.port with underrunPeriods := rm.port.underrunPeriods + 1, inUnderrun := true }
      ctx := { rm.ctx with underrunCount :=
        if rm.port.inUnderrun then rm.ctx.underrunCount else min (rm.ctx.underrunCount + 1) 65535 } } := by
  unfold Room.underrun
  cases hu : rm.port.inUnderrun <;> rfl

theorem atTick_iff (c : RoomContext) : c.atTick = true ↔ c.state = .playing ∧ 0 < c.position ∧ c.position % 64 = 0 := by
  simp [RoomContext.atTick, and_assoc]

/-! ### The output slots (R93) -/

theorem slotValue_mapped {s : State} {r : RoomId} {k : SlotId} {c : Channel} (hk : s.slotOut.get k = some ⟨r, c⟩) :
    s.slotValue k = if c = .left then (s.room r).output.1 else (s.room r).output.2 := by
  unfold State.slotValue
  rw [hk]
  cases c <;> rfl

/-- R93, R97: a PLAYING room that takes no sample is silent. -/
theorem Room.output_silent {rm : Room} (h : rm.ctx.state = .playing)
    (hq : rm.port.pendingEnd = true ∨ rm.port.queue = []) : rm.output = (0, 0) := by
  have hnone : rm.givesSample = none := by
    unfold Room.givesSample
    rcases hq with hq | hq <;> simp [hq]
  unfold Room.output
  rw [h, hnone]

theorem Room.output_sample {rm : Room} (h : rm.ctx.state = .playing) (hp : rm.port.pendingEnd = false)
    {x : QueuedSample} {rest : List QueuedSample} (hq : rm.port.queue = x :: rest) : rm.output = (x.left, x.right) := by
  have hsome : rm.givesSample = some x := by simp [Room.givesSample, h, hp, hq]
  unfold Room.output
  rw [h, hsome]

/-! ### The rooms' shares (R90) -/

/-- A room without a song or calibration, whose assemblers collect nothing. -/
structure Room.Still (rm : Room) : Prop where
  notPlaying : rm.ctx.state ≠ .playing
  notCalibrating : rm.ctx.state ≠ .calibrating
  notAssembling : ∀ m, (rm.mic m).assembler.assembling = false

theorem take_notAssembling {a : Assembler} (h : a.assembling = false) (x : Option Sample) (gave : Bool) :
    a.take x gave = (a, none) := by
  unfold Assembler.take
  cases x with
  | none => rfl
  | some x => simp [h]

/-- R109: assemblers that collect nothing stay as they are. -/
theorem assembled_notAssembling {rm : Room} (h : ∀ m, (rm.mic m).assembler.assembling = false) (x1 x2 : Option Sample) :
    rm.assembled x1 x2 = rm := by
  unfold Room.assembled
  rw [take_notAssembling (a := rm.mic1.assembler) (h 0), take_notAssembling (a := rm.mic2.assembler) (h 1)]

/-- The share of a room whose assemblers collect nothing. -/
theorem roomShare_notAssembling {r : RoomId} {s : State} (h : ∀ m, ((s.room r).mic m).assembler.assembling = false)
    (inputs : Vector Sample 8) :
    roomShare r inputs s = (calibrationStep r inputs (backingOutput r s), []) := by
  unfold roomShare
  dsimp only
  rw [show (s.room r).mic1.assembler.take _ _ = _ from take_notAssembling (h 0) _ _,
    show (s.room r).mic2.assembler.take _ _ = _ from take_notAssembling (h 1) _ _]
  unfold State.updRoom
  dsimp only
  rw [assembled_notAssembling h, setRoom_room_self]
  rfl

theorem roomShare_still {r : RoomId} {s : State} (h : (s.room r).Still) (inputs : Vector Sample 8) :
    roomShare r inputs s = (s, []) := by
  rw [roomShare_notAssembling h.notAssembling, backingOutput_silent h.notPlaying]
  unfold calibrationStep
  split
  · next hc _ => exact absurd hc h.notCalibrating
  · rfl

theorem ordered_perm {α : Type} (n : Nat) (l : List α) : (ordered n l).Perm l := by
  induction l generalizing n with
  | nil => unfold ordered; exact .refl _
  | cons x xs ih =>
    unfold ordered
    have hlen := (ih (n / (xs.length + 1))).length_eq
    refine (List.perm_insertIdx x _ ?_).trans ((ih _).cons x)
    rw [hlen]
    exact Nat.lt_succ_iff.mp (Nat.mod_lt _ (Nat.succ_pos _))

/-- R90: still rooms have no share in a period. -/
theorem roomShares_still (inputs : Vector Sample 8) {l : List RoomId} {s : State} (h : ∀ k ∈ l, (s.room k).Still) :
    roomShares inputs l s = (s, []) := by
  unfold roomShares
  induction l with
  | nil => rfl
  | cons k l ih =>
    rw [List.foldl_cons, roomShare_still (h k List.mem_cons_self)]
    exact ih fun j hj => h j (List.mem_cons_of_mem k hj)

theorem roomShares_append (inputs : Vector Sample 8) (l1 l2 : List RoomId) (s t : State)
    (h : roomShares inputs l1 s = (t, [])) : roomShares inputs (l1 ++ l2) s = roomShares inputs l2 t := by
  unfold roomShares at h ⊢
  rw [List.foldl_append, h]

/-- R90: with every other room still and no assembler collecting, a period is the share of one room. -/
theorem roomShares_one (inputs : Vector Sample 8) (r : RoomId) {l : List RoomId} (hl : l.Perm allRooms) {s : State}
    (hs : ∀ k, k ≠ r → (s.room k).ctx.state ≠ .playing ∧ (s.room k).ctx.state ≠ .calibrating)
    (ha : ∀ k m, ((s.room k).mic m).assembler.assembling = false) :
    roomShares inputs l s = (calibrationStep r inputs (backingOutput r s), []) := by
  have hnodup : l.Nodup := hl.nodup_iff.mpr (by decide)
  obtain ⟨l1, l2, rfl⟩ := List.append_of_mem (hl.mem_iff.mpr (mem_allRooms r))
  have hne1 : ∀ k ∈ l1, k ≠ r := fun k hk e =>
    (List.disjoint_of_nodup_append hnodup) hk (e ▸ List.mem_cons_self)
  have hne2 : ∀ k ∈ l2, k ≠ r := fun k hk e =>
    (List.nodup_cons.mp (List.nodup_append.mp hnodup).2.1).1 (e ▸ hk)
  have still : ∀ k, k ≠ r → (s.room k).Still := fun k hk => ⟨(hs k hk).1, (hs k hk).2, ha k⟩
  have hfirst : roomShares inputs [r] s = (calibrationStep r inputs (backingOutput r s), []) := by
    unfold roomShares
    rw [List.foldl_cons, roomShare_notAssembling (ha r)]
    rfl
  rw [roomShares_append inputs l1 (r :: l2) s s (roomShares_still inputs fun k hk => still k (hne1 k hk)),
    ← List.singleton_append, roomShares_append inputs [r] l2 s _ hfirst]
  refine roomShares_still inputs fun k hk => ?_
  rw [calibrationStep_room_ne _ (hne2 k hk), backingOutput_room_ne _ (hne2 k hk)]
  exact still k (hne2 k hk)

/-- Settles O55. -/
theorem backingQueueInOnePeriod : Obligations.BackingQueueInOnePeriod := by
  intro r s
  dsimp only
  refine ⟨backingOutput_silent, fun hp => ⟨fun he => backingOutput_pendingEnd hp he, fun he hq => ?_, fun x rest he hq => ?_⟩,
    fun hp h0 h64 => ?_, fun hn => ?_, fun hp hl => ⟨s.roomSlotValues r, ?_, fun k => ?_⟩, fun hn => ?_,
    fun inputs roomOrder offerOrder hm hs ha => ⟨s.slotValues, ?_⟩⟩
  · rw [backingOutput_underrun hp he hq]
    unfold State.updRoom
    rw [Room.underrun_eq]
  · have hadv : (s.room r).advanced rest = { s.room r with
        port := { (s.room r).port with queue := (s.room r).port.queue.tail, inUnderrun := false }
        ctx := { (s.room r).ctx with position := (s.room r).ctx.position + 1 } } := by rw [hq]; rfl
    have hb := backingOutput_sample hp he hq
    unfold State.updRoom at hb
    dsimp only at hb
    rw [hadv] at hb
    exact ⟨fun hend => hb.trans (if_pos hend), fun hx hl => hb.trans (if_neg (by simp [hx, positionLimit, hl]))⟩
  · exact if_pos ((atTick_iff _).mpr ⟨hp, h0, h64⟩)
  · refine if_neg fun ht => ?_
    obtain ⟨h1, h2, h3⟩ := (atTick_iff _).mp ht
    rcases hn with hn | hn | hn
    · exact hn h1
    · omega
    · exact hn h3
  · exact congrArg Host.Outcome.next (if_pos ⟨hp, hl⟩)
  · refine ⟨fun hc => ?_, fun c hk => ?_⟩
    · rw [roomSlotValues_get, if_neg]
      intro h
      obtain ⟨⟨_, c⟩, hk, rfl⟩ := Option.map_eq_some_iff.mp h
      exact hc c hk
    · rw [roomSlotValues_get, if_pos (by rw [hk]; rfl), slotValue_mapped hk]
      refine ⟨fun hq => ?_, fun x rest he hq => ?_⟩
      · rw [Room.output_silent hp hq]
        exact ite_self 0
      · rw [Room.output_sample hp he hq]
        cases c <;> rfl
  · refine congrArg Host.Outcome.next (if_neg fun h => ?_)
    rcases hn with hn | hn
    · exact hn h.1
    · exact hn h.2
  · have hshares := roomShares_one inputs r (ordered_perm roomOrder allRooms) (s := { s with audioOut := s.slotValues }) hs ha
    show Host.Outcome.next (samplePeriod inputs roomOrder offerOrder s) = _
    unfold samplePeriod
    rw [if_neg hm]
    dsimp only
    rw [hshares]
    rfl

end Sys2Proof.Machine
end

section
/-! PROOFS. Taking the end of a song: its reports, the room and the panels it leaves (O45). -/

namespace Sys2Proof.Machine

/-! ### The reports and the room after a report of the room (R177, R178) -/

section
variable {b : ReportBody} {r : RoomId} {s : State}

theorem raise_entered (hb : b.owner = .room r) (h : s.reports.length < 16) (hk : (s.room r).stack.isEmpty = true) :
    (raise b s).reports = s.reports ++ [s.newReport b] ∧ ((raise b s).room r).stack = (s.room r).stack := by
  rw [raise_enters hb h hk]; exact ⟨rfl, rfl⟩

theorem raise_stacked (hb : b.owner = .room r) (h : 16 ≤ s.reports.length ∨ (s.room r).stack.isEmpty = false) :
    (raise b s).reports = s.reports ∧ ((raise b s).room r).stack = (s.room r).stack.put (s.newReport b) := by
  rw [raise_stacks hb h, room_updRoom_same]; exact ⟨rfl, rfl⟩

end

/-! ### The mark test (R98) -/

/-- R98: the mark due in a room where the test runs, by its watermarks, mark state and fill. -/
def dueMark (p : RoomParams) (st : MarkState) (fill : Nat) : Option Mark :=
  if fill < p.lowMark ∧ st ≠ .low then some .low
  else if p.highMark < fill ∧ st ≠ .high then some .high
  else none

theorem markDue_tested {rm : Room} (h : rm.ctx.markTested = true) :
    rm.markDue = dueMark rm.params rm.port.markState rm.port.fill := if_pos h

/-- The QUEUE_MARK of a mark at a fill. -/
def markReport (r : RoomId) (fill : Nat) (s : State) (m : Mark) : Report := s.newReport (.queueMark r m fill)

/-- R98: the port after the mark test. -/
theorem markTest_port (r : RoomId) (s : State) :
    ((markTest r s).room r).port =
      { (s.room r).port with markState := ((s.room r).markDue.map Mark.state).getD (s.room r).port.markState } := by
  unfold markTest
  cases h : (s.room r).markDue with
  | none => rfl
  | some m =>
    dsimp only
    rw [raise_room_port, room_updRoom_same]
    rfl

/-- R98: a room once a mark has been raised. -/
def Room.marked (rm : Room) (m : Mark) : Room := rm.updPort fun p => { p with markState := m.state }

theorem markTest_some {r : RoomId} {s : State} {m : Mark} (h : (s.room r).markDue = some m) :
    markTest r s = raise (.queueMark r m (s.room r).port.fill) (s.updRoom r fun rm => rm.marked m) := by
  unfold markTest; rw [h]; rfl

/-- R98, R177, R178: where the QUEUE_MARK of the mark test goes in a room with an empty stack. -/
theorem markTest_reports (r : RoomId) {s : State} (hk : (s.room r).stack.isEmpty = true) :
    let mark := (s.room r).markDue.map (markReport r (s.room r).port.fill s)
    (s.reports.length < 16 →
      (markTest r s).reports = s.reports ++ mark.toList ∧ ((markTest r s).room r).stack = (s.room r).stack)
    ∧ (16 ≤ s.reports.length →
      (markTest r s).reports = s.reports ∧ ((markTest r s).room r).stack = { (s.room r).stack with queueMark := mark }) := by
  have hnone : (s.room r).stack.queueMark = none := by
    simp only [RoomStack.isEmpty, Bool.and_eq_true, Option.isNone_iff_eq_none] at hk
    exact hk.2
  cases h : (s.room r).markDue with
  | none =>
    have hsame : markTest r s = s := by unfold markTest; rw [h]
    rw [hsame]
    refine ⟨fun _ => ⟨(List.append_nil _).symm, rfl⟩, fun _ => ⟨rfl, ?_⟩⟩
    show (s.room r).stack = { (s.room r).stack with queueMark := none }
    rw [← hnone]
  | some m =>
    have hroom : (s.updRoom r fun rm => rm.marked m).room r = (s.room r).marked m := room_updRoom_same ..
    rw [markTest_some h]
    have hstack : ((s.updRoom r fun rm => rm.marked m).room r).stack = (s.room r).stack := by
      rw [hroom]; rfl
    refine ⟨fun hl => ?_, fun hl => ?_⟩
    · rw [← hstack] at hk ⊢
      exact raise_entered (r := r) rfl hl hk
    · obtain ⟨hreports, hput⟩ := raise_stacked (b := .queueMark r m (s.room r).port.fill) (r := r)
        (s := s.updRoom r fun rm => rm.marked m) rfl (.inl hl)
      refine ⟨hreports, hput.trans ?_⟩
      rw [hstack]
      simp [RoomStack.put, State.newReport, hnone, replaceReport, markReport]

/-! ### The song's entry (R17, item 4) -/

theorem endRequest_room (r : RoomId) (s : State) :
    (endRequest r s).room r =
      { s.room r with
        ctx := { (s.room r).ctx with currentTicket := none }
        requests := withoutTicket (s.room r).ctx.currentTicket (s.room r).requests } := by
  unfold endRequest
  cases h : (s.room r).ctx.currentTicket with
  | none =>
    have hr : withoutTicket none (s.room r).requests = (s.room r).requests := by simp [withoutTicket]
    rw [hr]
    dsimp only
    rw [← h]
  | some t =>
    have hr : withoutTicket (some t) (s.room r).requests = ((s.room r).dropEntry t).requests := by
      rw [Room.dropEntry_eq]; simp [withoutTicket]
    rw [hr]
    dsimp only
    rw [pushToRoom_room, room_updRoom_same]
    rfl

@[simp] theorem endRequest_reports (r : RoomId) (s : State) : (endRequest r s).reports = s.reports := by
  unfold endRequest; split
  · rfl
  · rw [pushToRoom_reports]; rfl

theorem endRequest_panel (r : RoomId) (s : State) (e : PanelId) :
    (endRequest r s).panel e =
      if (s.room r).ctx.currentTicket ≠ none ∧ (s.panel e).enabled = true ∧ (s.panel e).room = r then
        (s.panel e).push (s.room r).scoreResult
      else s.panel e := by
  unfold endRequest
  cases h : (s.room r).ctx.currentTicket with
  | none => simp
  | some t =>
    dsimp only
    rw [pushToRoom_panel]
    refine if_congr ?_ rfl rfl
    simp

/-! ### The steps of an ending (R17) -/

section
variable (r : RoomId) (reason : EndReason) (s : State)

/-- The final LINE_SCORE of the song of room `r`. -/
def finalLine : Report := s.newReport (.lineScore ((s.room r).lineScore r (s.room r).ctx.lyric.current false))

/-- The SONG_END of the song of room `r`. -/
def finalSong : Report := s.newReport (.songEnd ((s.room r).songEnd r reason))

/-- The room as it enters ENDING. -/
def Room.entered (rm : Room) : Room := rm.updCtx fun c => { c with state := .ending, endReason := some reason }

/-- An ending once its LINE_SCORE has been raised. -/
def endingLined : State :=
  handLineScore r (s.room r).ctx.lyric.current false (s.updRoom r fun rm => rm.entered reason)

/-- An ending once its SONG_END has been raised too. -/
def endingReported : State := raise (.songEnd ((s.room r).songEnd r reason)) (endingLined r reason s)

/-- An ending but for leaving ENDING. -/
def songClosed : State := endRequest r ((endingReported r reason s).updRoom r fun rm => rm.endSong reason)

theorem takeEnding_eq (h : (s.room r).ctx.singing = true) :
    takeEnding r reason s =
      if (endingLined r reason s).reportEnters (.room r) then leaveEnding r (songClosed r reason s)
      else songClosed r reason s := if_pos h

theorem endingLined_eq :
    endingLined r reason s =
      (raise (.lineScore ((s.room r).lineScore r (s.room r).ctx.lyric.current false))
        (s.updRoom r fun rm => rm.entered reason)).updRoom r Room.clearLines := by
  unfold endingLined handLineScore
  rw [room_updRoom_same]
  rfl

theorem endingLined_room : ∃ k, (endingLined r reason s).room r =
    { ((s.room r).entered reason).clearLines with stack := k } := by
  obtain ⟨k, _, e⟩ := handLineScore_room r (s.room r).ctx.lyric.current false (s.updRoom r fun rm => rm.entered reason)
  rw [room_updRoom_same] at e
  exact ⟨k, e⟩

theorem endingReported_room : ∃ k, (endingReported r reason s).room r =
    { ((s.room r).entered reason).clearLines with stack := k } := by
  obtain ⟨k, hk⟩ := endingLined_room r reason s
  rcases raise_room (.songEnd ((s.room r).songEnd r reason)) (endingLined r reason s) r with e | e
  · exact ⟨k, e.trans hk⟩
  · exact ⟨_, e.trans (by rw [hk])⟩

theorem songClosed_room :
    (songClosed r reason s).room r =
      { (s.room r).closed reason with stack := ((endingReported r reason s).room r).stack } := by
  obtain ⟨k, hk⟩ := endingReported_room r reason s
  unfold songClosed
  rw [endRequest_room, room_updRoom_same, hk, Room.endSong_eq, Room.closed_eq]
  rfl

theorem songClosed_reports : (songClosed r reason s).reports = (endingReported r reason s).reports := by
  unfold songClosed; rw [endRequest_reports]; rfl

theorem songClosed_venueTime : (songClosed r reason s).venueTime = s.venueTime := by
  unfold songClosed endingReported endingLined
  rw [endRequest_venueTime, updRoom_venueTime, raise_venueTime, handLineScore_venueTime, updRoom_venueTime]

theorem songClosed_panel (e : PanelId) :
    (songClosed r reason s).panel e =
      if (s.room r).ctx.currentTicket ≠ none ∧ (s.panel e).enabled = true ∧ (s.panel e).room = r then
        (s.panel e).push (s.room r).scoreResult
      else s.panel e := by
  have hp : (endingReported r reason s).panel e = s.panel e := by
    unfold endingReported endingLined
    rw [raise_panel, handLineScore_panel, panel_updRoom]
  obtain ⟨k, hk⟩ := endingReported_room r reason s
  unfold songClosed
  rw [endRequest_panel, room_updRoom_same, panel_updRoom, hp, hk, Room.endSong_eq]
  rfl

end

/-! ### The reports of an ending (R136, R137, R177, R178) -/

section
variable {r : RoomId} {reason : EndReason} {s : State}

theorem reportEnters_iff : s.reportEnters (.room r) = true ↔ s.reports.length < 16 ∧ (s.room r).stack.isEmpty = true := by
  simp [State.reportEnters, State.stackEmpty]

theorem endingLined_parts :
    let raised := raise (.lineScore ((s.room r).lineScore r (s.room r).ctx.lyric.current false))
      (s.updRoom r fun rm => rm.entered reason)
    (endingLined r reason s).reports = raised.reports
      ∧ ((endingLined r reason s).room r).stack = (raised.room r).stack := by
  rw [endingLined_eq, room_updRoom_same]
  exact ⟨rfl, rfl⟩

theorem entered_stack : ((s.updRoom r fun rm => rm.entered reason).room r).stack = (s.room r).stack := by
  rw [room_updRoom_same]; rfl

/-- The final LINE_SCORE enters the queue. -/
theorem endingLined_entered (hl : s.reports.length < 16) (hk : (s.room r).stack.isEmpty = true) :
    (endingLined r reason s).reports = s.reports ++ [finalLine r s]
      ∧ ((endingLined r reason s).room r).stack = (s.room r).stack := by
  obtain ⟨hreports, hstack⟩ := endingLined_parts (r := r) (reason := reason) (s := s)
  obtain ⟨hr, hs⟩ := raise_entered (b := .lineScore ((s.room r).lineScore r (s.room r).ctx.lyric.current false)) (r := r)
    (s := s.updRoom r fun rm => rm.entered reason) rfl hl (by rw [entered_stack]; exact hk)
  exact ⟨hreports.trans hr, hstack.trans (hs.trans entered_stack)⟩

/-- The final LINE_SCORE goes to its slot. -/
theorem endingLined_stacked (h : 16 ≤ s.reports.length ∨ (s.room r).stack.isEmpty = false) :
    (endingLined r reason s).reports = s.reports
      ∧ ((endingLined r reason s).room r).stack =
        { (s.room r).stack with lineScore := some (replaceReport (s.room r).stack.lineScore (finalLine r s)) } := by
  obtain ⟨hreports, hstack⟩ := endingLined_parts (r := r) (reason := reason) (s := s)
  obtain ⟨hr, hs⟩ := raise_stacked (b := .lineScore ((s.room r).lineScore r (s.room r).ctx.lyric.current false)) (r := r)
    (s := s.updRoom r fun rm => rm.entered reason) rfl (by rw [entered_stack]; exact h)
  refine ⟨hreports.trans hr, hstack.trans (hs.trans ?_)⟩
  rw [entered_stack]
  rfl

theorem endingLined_finalSong : (endingLined r reason s).newReport (.songEnd ((s.room r).songEnd r reason)) =
    finalSong r reason s := by
  unfold finalSong State.newReport endingLined
  rw [handLineScore_venueTime]
  rfl

/-- R177: with two free places and an empty stack both reports enter the queue. -/
theorem ending_entersBoth (hl : s.reports.length ≤ 14) (hk : (s.room r).stack.isEmpty = true) :
    (endingLined r reason s).reportEnters (.room r) = true
      ∧ (endingReported r reason s).reports = s.reports ++ [finalLine r s, finalSong r reason s]
      ∧ ((endingReported r reason s).room r).stack = (s.room r).stack := by
  obtain ⟨hreports, hstack⟩ := endingLined_entered (reason := reason) (by omega) hk
  have hlen : (endingLined r reason s).reports.length < 16 := by rw [hreports, List.length_append, List.length_singleton]; omega
  have hempty : ((endingLined r reason s).room r).stack.isEmpty = true := by rw [hstack]; exact hk
  obtain ⟨hr, hs⟩ := raise_entered (b := .songEnd ((s.room r).songEnd r reason)) rfl hlen hempty
  refine ⟨reportEnters_iff.mpr ⟨hlen, hempty⟩, hr.trans ?_, hs.trans hstack⟩
  rw [hreports, endingLined_finalSong, List.append_assoc]
  rfl

/-- R177, R178: otherwise the SONG_END waits in its slot, behind a LINE_SCORE that enters or waits too. -/
theorem ending_stacks (h : 15 ≤ s.reports.length ∨ (s.room r).stack.isEmpty = false) :
    (endingLined r reason s).reportEnters (.room r) = false
      ∧ (s.reports.length = 15 → (s.room r).stack.isEmpty = true →
        (endingReported r reason s).reports = s.reports ++ [finalLine r s]
          ∧ ((endingReported r reason s).room r).stack = { (s.room r).stack with songEnd := some (finalSong r reason s) })
      ∧ (s.reports.length ≠ 15 ∨ (s.room r).stack.isEmpty = false →
        (endingReported r reason s).reports = s.reports
          ∧ ((endingReported r reason s).room r).stack = { (s.room r).stack with
            songEnd := some (finalSong r reason s)
            lineScore := some (replaceReport (s.room r).stack.lineScore (finalLine r s)) }) := by
  have song (hfull : 16 ≤ (endingLined r reason s).reports.length ∨ ((endingLined r reason s).room r).stack.isEmpty = false) :=
    raise_stacked (b := .songEnd ((s.room r).songEnd r reason)) (r := r) rfl hfull
  rw [endingLined_finalSong] at song
  by_cases hone : s.reports.length = 15 ∧ (s.room r).stack.isEmpty = true
  · obtain ⟨hl, hk⟩ := hone
    obtain ⟨hreports, hstack⟩ := endingLined_entered (reason := reason) (by omega) hk
    have hlen : 16 ≤ (endingLined r reason s).reports.length := by
      rw [hreports, List.length_append, List.length_singleton]; omega
    obtain ⟨hr, hs⟩ := song (.inl hlen)
    refine ⟨Bool.eq_false_iff.mpr fun he => ?_, fun _ _ => ⟨hr.trans hreports, ?_⟩, fun hn => ?_⟩
    · have := (reportEnters_iff.mp he).1
      omega
    · rw [← hstack]; exact hs
    · rcases hn with hn | hn
      · exact absurd hl hn
      · rw [hk] at hn; cases hn
  · have hfull : 16 ≤ s.reports.length ∨ (s.room r).stack.isEmpty = false := by
      by_cases hk : (s.room r).stack.isEmpty = true
      · rcases h with h | h
        · exact .inl (by have : s.reports.length ≠ 15 := fun e => hone ⟨e, hk⟩
                         omega)
        · exact .inr h
      · exact .inr (by simpa using hk)
    obtain ⟨hreports, hstack⟩ := endingLined_stacked (reason := reason) hfull
    have hne : ((endingLined r reason s).room r).stack.isEmpty = false := by rw [hstack]; rfl
    obtain ⟨hr, hs⟩ := song (.inr hne)
    refine ⟨Bool.eq_false_iff.mpr fun he => ?_, fun hl hk => absurd ⟨hl, hk⟩ hone, fun _ => ⟨hr.trans hreports, ?_⟩⟩
    · rw [(reportEnters_iff.mp he).2] at hne; cases hne
    · refine hs.trans ?_
      rw [hstack]
      rfl

end

/-! ### The room after an ending -/

section
variable {r : RoomId} {s : State}

theorem leaveEnding_idle (h : (s.room r).ctx.cuedBank = none) :
    leaveEnding r s = s.setRoom r { s.room r with
      ctx := { (s.room r).ctx with state := .idle, currentBank := none }
      latch := (s.room r).latch.filter fun l => l.bank = none ∨ l.bank = (s.room r).ctx.cuedBank
      port := (s.room r).port.emptied } := (leaveEnding_eq r s).trans (if_pos h)

theorem leaveEnding_cued (h : (s.room r).ctx.cuedBank ≠ none) :
    ∃ y : State, leaveEnding r s = markTest r y ∧ y.reports = s.reports ∧ y.venueTime = s.venueTime ∧
      y.room r = { s.room r with
        ctx := { (s.room r).ctx with state := .cued, currentBank := none }
        latch := (s.room r).latch.filter fun l => l.bank = none ∨ l.bank = (s.room r).ctx.cuedBank } :=
  ⟨_, (leaveEnding_eq r s).trans (if_neg h), rfl, rfl, room_setRoom_same ..⟩

end

/-- What every ending leaves of the room, whether it has left ENDING or not. -/
theorem takeEnding_room_common (r : RoomId) (reason : EndReason) (s : State) (h : (s.room r).ctx.singing = true) :
    ∃ state current latch port stack, (takeEnding r reason s).room r =
      { (s.room r).closed reason with
        ctx := { ((s.room r).closed reason).ctx with state := state, currentBank := current }
        latch := latch, port := port, stack := stack } := by
  rcases takeEnding_room r reason s h with ⟨k, m, _, e⟩ | ⟨k, _, e⟩
  · rw [Room.left_eq] at e
    exact ⟨_, _, _, _, _, e⟩
  · exact ⟨_, _, _, _, _, e⟩

/-- R36, R78: the latch when the song's bank is cleared, entry by entry. -/
theorem Room.endedLatch_eq (rm : Room) :
    rm.endedLatch = rm.latch.map fun l => match l.bank with
      | none => l
      | some b => if rm.ctx.currentBank = some b ∧ (rm.bank b).loaded = true then { l with bandOff := true } else l := by
  unfold Room.endedLatch darkenedLatch
  cases rm.latch with
  | none => cases rm.ctx.currentBank <;> simp
  | some l =>
    cases hc : rm.ctx.currentBank with
    | none => cases hb : l.bank <;> simp [hb]
    | some b =>
      cases hb : l.bank with
      | none => by_cases hl : (rm.bank b).loaded = true <;> simp [hb, hl]
      | some c =>
        by_cases hcb : c = b
        · subst hcb
          by_cases hl : (rm.bank c).loaded = true <;> simp [hb, hl]
        · have hbc : ¬b = c := fun e => hcb e.symm
          by_cases hl : (rm.bank b).loaded = true <;> simp [hb, hl, hcb, hbc]

theorem drains_iff (p : Port) (reason : EndReason) :
    p.drains reason = true ↔ reason ≠ .complete ∧ p.pendingEnd = false ∧ ∀ x ∈ p.queue, x.endMark = false := by
  simp [Port.drains, Port.endless]

@[simp] theorem ended_markState (p : Port) (reason : EndReason) : (p.ended reason).markState = p.markState := by
  unfold Port.ended Port.flushed; split
  · rfl
  · split <;> rfl

section
variable {r : RoomId} {reason : EndReason} {s : State} (hl : s.reports.length ≤ 14) (hk : (s.room r).stack.isEmpty = true)
include hl hk

/-- R17, R18: an ending whose two reports enter the queue. -/
theorem ending_atOnce (h : (s.room r).ctx.singing = true) :
    takeEnding r reason s = leaveEnding r (songClosed r reason s)
      ∧ (songClosed r reason s).reports = s.reports ++ [finalLine r s, finalSong r reason s]
      ∧ (songClosed r reason s).room r = { (s.room r).closed reason with stack := (s.room r).stack } := by
  obtain ⟨henters, hreports, hstack⟩ := ending_entersBoth (reason := reason) hl hk
  refine ⟨(takeEnding_eq r reason s h).trans (if_pos henters), (songClosed_reports r reason s).trans hreports, ?_⟩
  rw [songClosed_room, hstack]

/-- R8, R18: without a cue the room goes to IDLE and its queue is emptied. -/
theorem ending_toIdle (h : (s.room r).ctx.singing = true) (hc : (s.room r).ctx.cuedBank = none) :
    let t := takeEnding r reason s
    (t.room r).ctx.state = .idle ∧ t.reports = s.reports ++ [finalLine r s, finalSong r reason s]
      ∧ (t.room r).stack = (s.room r).stack ∧ (t.room r).port = ((s.room r).port.ended reason).emptied := by
  obtain ⟨ht, hreports, hclosed⟩ := ending_atOnce (reason := reason) hl hk h
  rw [Room.closed_eq] at hclosed
  rw [leaveEnding_idle (by rw [hclosed]; exact hc)] at ht
  dsimp only
  rw [ht, room_setRoom_same, hclosed]
  exact ⟨rfl, hreports, rfl, rfl⟩

/-- R18, R98: with a cue the room goes to CUED and the mark test runs on the queue that is left. -/
theorem ending_toCued (h : (s.room r).ctx.singing = true) (hc : (s.room r).ctx.cuedBank ≠ none) :
    let t := takeEnding r reason s
    let fill := ((s.room r).port.ended reason).queue.length
    let due := dueMark (s.room r).params (s.room r).port.markState fill
    let mark := due.map (markReport r fill s)
    (t.room r).ctx.state = .cued
      ∧ (t.room r).port = { (s.room r).port.ended reason with
          markState := (due.map Mark.state).getD (s.room r).port.markState }
      ∧ (s.reports.length ≤ 13 → t.reports = s.reports ++ [finalLine r s, finalSong r reason s] ++ mark.toList
          ∧ (t.room r).stack = (s.room r).stack)
      ∧ (s.reports.length = 14 → t.reports = s.reports ++ [finalLine r s, finalSong r reason s]
          ∧ (t.room r).stack = { (s.room r).stack with queueMark := mark }) := by
  intro t fill due mark
  obtain ⟨ht, hreports, hclosed⟩ := ending_atOnce (reason := reason) hl hk h
  rw [Room.closed_eq] at hclosed
  obtain ⟨y, hy, hyreports, hytime, hyroom⟩ := leaveEnding_cued (s := songClosed r reason s) (by rw [hclosed]; exact hc)
  replace ht : t = markTest r y := ht.trans hy
  rw [hclosed] at hyroom
  rw [hreports] at hyreports
  rw [songClosed_venueTime] at hytime
  have hydue : (y.room r).markDue = due := by
    rw [markDue_tested (by rw [hyroom]; rfl), hyroom]
    exact congrArg (dueMark (s.room r).params · fill) (ended_markState (s.room r).port reason)
  have hymark : (y.room r).markDue.map (markReport r (y.room r).port.fill y) = mark := by
    rw [hydue, hyroom]
    unfold markReport State.newReport
    rw [hytime]
    rfl
  obtain ⟨henters, hstacks⟩ := markTest_reports r (s := y) (by rw [hyroom]; exact hk)
  rw [hymark, hyreports, hyroom, List.length_append] at henters hstacks
  rw [ht]
  refine ⟨?_, ?_, fun hl => henters ?_, fun hl => hstacks ?_⟩
  · rw [markTest_room_ctx, hyroom]
  · rw [markTest_port, hydue, hyroom]
    dsimp only
    rw [ended_markState]
  · simp; omega
  · simp [hl]

end

/-- Settles O45. -/
theorem endingASong : Obligations.EndingASong := by
  intro r reason s h rm t after c lineLane songLane assigned roomScore line song darkened rest flushed fill due mark
  have hline : finalLine r s = line := rfl
  have hsong : finalSong r reason s = song := by
    unfold finalSong State.newReport Room.songEnd Room.currentBank?
    cases hb : (s.room r).ctx.currentBank <;> cases ht : (s.room r).ctx.currentTicket <;>
      simp only [song, c, rm, hb, ht] <;> rfl
  have hdark : rm.endedLatch = darkened := rm.endedLatch_eq
  obtain ⟨state, current, latch, port, stack, hafter⟩ := takeEnding_room_common r reason s h
  replace hafter : after = _ := hafter
  refine ⟨fun hl hk => ?_, fun hfull => ?_, ?_⟩
  · obtain ⟨ht, _, hclosed⟩ := ending_atOnce (reason := reason) hl hk h
    obtain ⟨k, m, _, hleft⟩ := leaveEnding_room r (songClosed r reason s)
    rw [← ht, Room.left_eq, hclosed, Room.closed_eq] at hleft
    replace hleft : after = _ := hleft
    refine ⟨by rw [hleft], by rw [hleft, ← hdark]; exact keptLatch_songless _ _, fun hc => ?_, fun hc => ?_⟩
    · have hidle := ending_toIdle (reason := reason) hl hk h hc
      rw [hline, hsong] at hidle
      exact hidle
    · obtain ⟨hstate, hport, hrest⟩ := ending_toCued (reason := reason) hl hk h hc
      rw [hline, hsong] at hrest
      refine ⟨hstate, hport.trans ?_, hrest⟩
      show { flushed with markState := (due.map Mark.state).getD rm.port.markState } = _
      generalize due = d
      cases d with
      | none => rfl
      | some m => cases m <;> rfl
  · obtain ⟨henters, hone, hno⟩ := ending_stacks (reason := reason) hfull
    have ht : t = songClosed r reason s :=
      (takeEnding_eq r reason s h).trans (if_neg (by rw [henters]; decide))
    have hroom : after = _ := (congrArg (fun x => State.room x r) ht).trans (songClosed_room r reason s)
    have hreports : t.reports = _ := (congrArg State.reports ht).trans (songClosed_reports r reason s)
    rw [Room.closed_eq] at hroom
    rw [hline, hsong] at hone hno
    rw [hroom, hreports]
    exact ⟨rfl, rfl, hdark, rfl, hone, hno⟩
  · have hbank : ∀ b, after.bank b = if rm.ctx.currentBank = some b then (rm.bank b).cleared else rm.bank b := fun b => by
      rw [← bank_closed rm reason, hafter]; rfl
    have hpanel : ∀ e, t.panel e = (songClosed r reason s).panel e := fun e => by
      rw [show t = _ from takeEnding_eq r reason s h]
      split
      · exact leaveEnding_panel ..
      · rfl
    rw [Room.closed_eq] at hafter
    rw [hafter] at hbank ⊢
    refine ⟨rfl, rfl, rfl, rfl, rfl, rfl, rfl, rfl, rfl, rfl, rfl, rfl, rfl, rfl, rfl, rfl, rfl, rfl, rfl, rfl, rfl,
      fun m => ?_, fun b => ⟨fun hb hl => ?_, fun hn => ?_⟩, rfl, fun e => (hpanel e).trans (songClosed_panel r reason s e),
      fun k hk => takeEnding_room_ne r k reason s hk, eq_of_beyondRooms (takeEnding_beyond r reason s), ?_⟩
    · rcases bank_cases m with rfl | rfl <;> exact ⟨rfl, rfl, rfl, rfl, rfl, rfl, rfl⟩
    · rw [hbank, if_pos hb]
      exact (Bank.cleared_cases _).1 ((Bank.loaded_iff _).mp hl)
    · rw [hbank]
      split
      · next hb => exact if_neg (by rcases hn with hn | hn; exacts [absurd hb hn, by rw [hn]; decide])
      · rfl
    · show (c.draining || rm.port.drains reason) = true ↔ _
      rw [Bool.or_eq_true, drains_iff]

end Sys2Proof.Machine
end

section
/-! PROOFS. A raised report of every kind, in the queue or in its owner's stack (O26). -/

namespace Sys2Proof.Machine

section
variable {b : ReportBody} {s : State}

/-- R177: a report of any owner enters the queue. -/
theorem raise_queued (h : s.reports.length < 16) (hk : s.stackEmpty b.owner = true) :
    raise b s = { s with reports := s.reports ++ [s.newReport b] } := by
  have he : s.reportEnters b.owner = true := by simp [State.reportEnters, h, hk]
  unfold raise
  rw [if_pos he]

/-- R178: a report of any owner goes to its slot. -/
theorem raise_toStack (h : 16 ≤ s.reports.length ∨ s.stackEmpty b.owner = false) :
    raise b s = stackReport (s.newReport b) s := by
  have he : ¬s.reportEnters b.owner = true := by
    rcases h with h | h <;> simp [State.reportEnters, h]
  unfold raise
  rw [if_neg he]

end

/-- R178, R182: a room's report in the stack, as the room's new stack and the counters beside it. -/
theorem stackReport_room {rep : Report} {r : RoomId} (h : rep.body.owner = .room r) (s : State) :
    stackReport rep s =
      { s.setRoom r { s.room r with stack := (s.room r).stack.put rep } with
        link := s.link.stacked (.room r) (s.replaces rep) } := by
  unfold stackReport
  rw [fillSlot_room _ _ r h, h]
  rfl

theorem replaceReport_eq (old : Option Report) (new : Report) :
    replaceReport old new = match old with
      | none => new
      | some x => { new with lost := min (x.lost + 1) 65535 } := by
  cases old <;> rfl

/-- R41, R178: the stacked BANK_FREE names the banks of both, and keeps its raise time and its lost count. -/
theorem mergeBankFree_some {old new : Report} {q r : RoomId} {c0 c1 n0 n1 : Bool} (ho : old.body = .bankFree q c0 c1)
    (hn : new.body = .bankFree r n0 n1) :
    mergeBankFree (some old) new = { old with body := .bankFree r (c0 || n0) (c1 || n1) } := by
  unfold mergeBankFree
  simp only [hn, ho]

/-- Settles O26, kind by kind. -/
theorem raisedReportsEnterOrStack : Obligations.RaisedReportsEnterOrStack := by
  intro body s added counted stacked fresh replacing
  have hreplacing (old : Option Report) : replaceReport old fresh = replacing old := replaceReport_eq old fresh
  refine ⟨raise_queued, fun h => ?_⟩
  rw [raise_toStack h]
  refine ⟨?lineScore, ?queueMark, ?panelState, ?bankFree, ?songEnd, ?calDone⟩
  case lineScore =>
    rintro x rfl k
    rw [← hreplacing, stackReport_room rfl]
    rfl
  case queueMark =>
    rintro r mark fill rfl k
    rw [← hreplacing, stackReport_room rfl]
    rfl
  case panelState =>
    rintro e address r present rfl
    rw [← hreplacing]
    rfl
  case bankFree =>
    rintro r b0 b1 rfl k
    rw [stackReport_room rfl]
    refine ⟨fun hk => ?_, fun old q c0 c1 hk ho => ?_⟩
    · have hput : k.put fresh = { k with bankFree := some fresh } := by
        show { k with bankFree := some (mergeBankFree k.bankFree fresh) } = _
        rw [hk]
        rfl
      exact congrArg (stacked r false) hput
    · have hput : k.put fresh = { k with bankFree := some { old with body := .bankFree r (c0 || b0) (c1 || b1) } } := by
        show { k with bankFree := some (mergeBankFree k.bankFree fresh) } = _
        rw [hk, mergeBankFree_some ho rfl]
      exact congrArg (stacked r false) hput
  case songEnd =>
    rintro x rfl
    exact stackReport_room rfl s
  case calDone =>
    rintro r outcome j delay valid mic rfl
    exact stackReport_room rfl s

end Sys2Proof.Machine
end

section
/-! PROOFS. Loading a bank: BANK_OPEN (O29), the APPENDs to its sections (O30) and the checks of their records (O31). -/

namespace Sys2Proof.Machine

/-! ### BANK_OPEN (R26) -/

theorem bankOpenOrder_badBank {bank : Nat} (h : 2 ≤ bank) (r : RoomId) (songId lines syllables notes : Nat) (s : State) :
    bankOpenOrder r bank songId lines syllables notes s = refuse s .range := by
  unfold bankOpenOrder; rw [bankOf_none h]

/-- R26, check 4: one of the ways in which the declared counts can be out of range. -/
theorem declaredOk_iff (lines syllables notes : Nat) :
    declaredOk lines syllables notes = true ↔
      ¬(lines < 1 ∨ 512 < lines ∨ syllables < 1 ∨ 8192 < syllables ∨ 4096 < notes ∨ syllables < lines) := by
  simp only [declaredOk, Bool.and_eq_true, decide_eq_true_eq]; omega

theorem bankOpenOrder_eq (r : RoomId) (b : BankId) (songId lines syllables notes : Nat) (s : State) :
    bankOpenOrder r b.val songId lines syllables notes s =
      if ((s.room r).bank b).state = .clearing then refuse s .busy
      else if ((s.room r).bank b).state = .filling ∨ ((s.room r).bank b).state = .closed then refuse s .notEmpty
      else if declaredOk lines syllables notes then
        accept (s.updRoom r fun rm => rm.updBank b fun _ => openedBank songId lines syllables notes)
      else refuse s .range := by
  unfold bankOpenOrder
  rw [bankOf_val]
  cases hs : ((s.room r).bank b).state <;> simp [hs]

/-- Settles O29, check by check. -/
theorem bankOpenChecksAndOpens : Obligations.BankOpenChecksAndOpens := by
  intro r tag songId lines syllables notes s h
  have answers {t : State} {bank : Nat} {code : ReplyCode}
      (e : bankOpenOrder r bank songId lines syllables notes s.countIn = ⟨t.countIn, code, []⟩) :
      exec (.bankOpen r tag bank songId lines syllables notes) s = .next (t.replied r.val tag 25 code) :=
    congrArg Host.Outcome.next (roomOrder_replied h e)
  refine ⟨fun bank hb => answers (t := s) (bankOpenOrder_badBank hb ..), fun b => ?_⟩
  have he := bankOpenOrder_eq r b songId lines syllables notes s.countIn
  rw [room_countIn] at he
  split
  · next hc => exact answers (t := s) (he.trans (if_pos hc))
  next hc =>
  rw [if_neg hc] at he
  split
  · next hf => exact answers (t := s) (he.trans (if_pos hf))
  next hf =>
  rw [if_neg hf] at he
  split
  · next hr => exact answers (t := s) (he.trans (if_neg fun ok => (declaredOk_iff ..).mp ok hr))
  · next hr => exact answers (he.trans (if_pos ((declaredOk_iff ..).mpr hr)))

/-! ### APPEND to a bank section (R27) -/

section
variable {α : Type} {take : Bank → α → Option Bank} {frontier declared : Bank → Nat}

/-- R27, check 5: the records of a cell that join the bank one after another. -/
theorem takeRecords_taken {b loaded : Bank} {xs : List α} (i : Nat) (h : xs.foldlM take b = some loaded) :
    takeRecords take b i xs = .ok loaded := by
  induction xs generalizing b i with
  | nil => exact congrArg Except.ok (Option.some.inj h)
  | cons x xs ih =>
    obtain ⟨c, hc, hxs⟩ := Option.bind_eq_some_iff.mp ((List.foldlM_cons ..).symm.trans h)
    unfold takeRecords
    rw [hc]
    exact ih (i + 1) hxs

/-- R27, check 5: the place in the cell of the first record that fails. -/
theorem takeRecords_failed {b before : Bank} {xs : List α} {x : α} {k : Nat} (i : Nat) (hx : xs[k]? = some x)
    (hk : (xs.take k).foldlM take b = some before) (hf : take before x = none) :
    takeRecords take b i xs = .error (i + k) := by
  induction xs generalizing b i k with
  | nil => cases hx
  | cons y xs ih =>
    unfold takeRecords
    cases k with
    | zero =>
      cases hx
      cases hk
      rw [hf]
      rfl
    | succ k =>
      rw [List.take_succ_cons] at hk
      obtain ⟨c, hc, hxs⟩ := Option.bind_eq_some_iff.mp ((List.foldlM_cons ..).symm.trans hk)
      rw [hc]
      exact (ih (i + 1) hx hxs).trans (congrArg Except.error (by omega))

variable {after : BankId → State → State} {r : RoomId} {first : Nat} {xs : List α} {s : State}

theorem appendOrder_badBank {bank : Nat} (h : 2 ≤ bank) :
    appendOrder take frontier declared after r bank first xs s = refuse s .range := by
  unfold appendOrder; rw [bankOf_none h]

theorem appendOrder_refused {b : BankId} {code : ReplyCode} {data : List Byte}
    (h : appendVerdict take frontier declared ((s.room r).bank b) first xs = .refused code data) :
    appendOrder take frontier declared after r b.val first xs s = refuse s code data := by
  unfold appendOrder; rw [bankOf_val]; dsimp only; rw [h]

theorem appendOrder_taken {b : BankId} {loaded : Bank}
    (h : appendVerdict take frontier declared ((s.room r).bank b) first xs = .taken loaded) :
    appendOrder take frontier declared after r b.val first xs s =
      accept (after b (s.updRoom r fun rm => rm.updBank b fun _ => loaded)) (num 2 (frontier loaded)) := by
  unfold appendOrder; rw [bankOf_val]; dsimp only; rw [h]

section
variable {bank : Bank} (hs : bank.state = .filling) (hf : first = frontier bank)
  (hd : frontier bank + xs.length ≤ declared bank)
include hs hf hd

/-- R27: an APPEND whose every record joins the bank is taken. -/
theorem appendVerdict_loaded {loaded : Bank} (h : xs.foldlM take bank = some loaded) :
    appendVerdict take frontier declared bank first xs = .taken loaded := by
  unfold appendVerdict
  rw [if_neg (not_not.mpr hs), if_neg (not_not.mpr hf), if_neg (Nat.not_lt.mpr hd), takeRecords_taken 0 h]

/-- R27: an APPEND is refused whole at the first record that fails. -/
theorem appendVerdict_failed {before : Bank} {x : α} {i : Nat} (hx : xs[i]? = some x)
    (hb : (xs.take i).foldlM take bank = some before) (hn : take before x = none) :
    appendVerdict take frontier declared bank first xs =
      .refused .sequence (num 2 (frontier bank) ++ num 2 (first + i)) := by
  unfold appendVerdict
  rw [if_neg (not_not.mpr hs), if_neg (not_not.mpr hf), if_neg (Nat.not_lt.mpr hd), takeRecords_failed 0 hx hb hn,
    Nat.zero_add]

end

end

/-- R27: a command that is an APPEND order of its section is decided as R27 gives. -/
theorem appendsLikeR27 {α : Type} {command : RoomId → Nat → Nat → Nat → List α → Instr} {section_ : Nat}
    {take : Bank → α → Option Bank} {frontier declared : Bank → Nat} {after : RoomId → BankId → List α → State → State}
    (hexec : ∀ r tag bank first xs s, exec (command r tag bank first xs) s =
      .next (roomOrder r tag section_ (appendOrder take frontier declared (fun b => after r b xs) r bank first xs) s)) :
    AppendsLikeR27 command section_ take frontier declared after := by
  intro r tag first xs s h
  have refused {bank : Nat} {code : ReplyCode} {data : List Byte}
      (e : appendOrder take frontier declared (fun b => after r b xs) r bank first xs s.countIn
        = refuse s.countIn code data) :
      exec (command r tag bank first xs) s = .next (s.replied r.val tag section_ code data) :=
    (hexec ..).trans (congrArg Host.Outcome.next (roomOrder_replied h e))
  refine ⟨fun bank hb => refused (appendOrder_badBank hb), fun b => ⟨fun hs => ?_, fun hs hf => ?_, fun hs hf hd => ?_,
    fun hs hf hd => ⟨fun i x before hx hbefore hfail => ?_, fun loaded hl => ?_⟩⟩⟩
  · exact refused (appendOrder_refused (if_pos hs))
  · exact refused (appendOrder_refused ((if_neg (not_not.mpr hs)).trans (if_pos hf)))
  · exact refused (appendOrder_refused
      ((if_neg (not_not.mpr hs)).trans ((if_neg (not_not.mpr hf)).trans (if_pos hd))))
  · exact refused (appendOrder_refused (appendVerdict_failed hs hf hd hx hbefore hfail))
  · exact (hexec ..).trans (congrArg Host.Outcome.next
      (roomOrder_accepted h (appendOrder_taken (appendVerdict_loaded hs hf hd hl))))

/-- Settles O30, section by section. -/
theorem appendsAreTakenWholeOrRefused : Obligations.AppendsAreTakenWholeOrRefused :=
  ⟨appendsLikeR27 fun _ _ _ _ _ _ => rfl, appendsLikeR27 fun _ _ _ _ _ _ => rfl,
    appendsLikeR27 fun _ _ _ _ _ _ => rfl⟩

/-! ### The records of a section (R28 to R30) -/

/-- A start is not below the last start of the section, where the section has one (R28, R30). -/
theorem lastStart_le_iff (last : Option Nat) (start : Nat) :
    last.getD 0 ≤ start ↔ ∀ x, last = some x → x ≤ start := by
  cases last <;> simp

theorem takeSyllable_isSome (b : Bank) (x : SyllableRec) :
    (takeSyllable b x).isSome = true ↔
      (∀ last, b.lastSyllableStart = some last → last ≤ x.start) ∧ 1 ≤ x.duration ∧ 1 ≤ x.glyphCount
        ∧ x.glyphCount ≤ 8 := by
  unfold takeSyllable
  rw [Option.isSome_ite']
  simp only [not_or, not_lt, lastStart_le_iff]

theorem takeSyllable_some {b b' : Bank} {x : SyllableRec} (h : takeSyllable b x = some b') :
    b' = { b with
      syllables := b.syllables ++ [⟨x.start, x.duration, x.codes.take x.glyphCount, x.trailingSpace⟩]
      lastSyllableStart := some x.start } := by
  unfold takeSyllable at h
  split at h
  · cases h
  · exact (Option.some.inj h).symm

/-- The part codes (12.2), with the singer parts they belong to (R127). -/
theorem partOf_some {n : Nat} {p : Part} (h : partOf n = some p) :
    n ≤ 2 ∧ (n = 0 → p = .a) ∧ (n = 1 → p = .b) ∧ (n = 2 → p = .both) ∧ (p.hasA = true ↔ n ≠ 1)
      ∧ (p.hasB = true ↔ n ≠ 0) := by
  match n with
  | 0 | 1 | 2 => cases h; decide
  | _ + 3 => cases h

theorem partOf_none {n : Nat} (h : partOf n = none) : ¬n ≤ 2 := by
  match n with
  | 0 | 1 | 2 => cases h
  | _ + 3 => omega

theorem nextSyllable_eq (b : Bank) :
    b.nextSyllable = match b.lines.getLast? with
      | none => 0
      | some before => before.firstSyllable + before.syllableCount := by
  unfold Bank.nextSyllable
  cases b.lines.getLast? <;> rfl

/-- A flag equals the outcome of a check exactly when it is set where the check holds. -/
theorem eq_decide_iff {f : Bool} {p : Prop} [Decidable p] : f = decide p ↔ (f = true ↔ p) := by
  rw [Bool.eq_iff_iff, decide_eq_true_iff]

theorem takeLine_isSome (b : Bank) (x : LineRec) :
    (takeLine b x).isSome = true ↔
      1 ≤ x.syllableCount ∧ x.syllableCount ≤ 64 ∧ x.firstSyllable = b.nextSyllable
        ∧ x.firstSyllable + x.syllableCount ≤ b.syllables.length ∧ b.lastLineSeen = false
        ∧ (x.last = true ↔ b.lines.length + 1 = b.declaredLines) ∧ x.part ≤ 2 := by
  unfold takeLine
  cases hp : partOf x.part with
  | none => simp [partOf_none hp]
  | some part =>
    dsimp only
    rw [Option.isSome_ite']
    simp only [not_or, not_lt, ne_eq, not_not, Bool.not_eq_true, eq_decide_iff, (partOf_some hp).1, and_true]
    rfl

theorem takeLine_some {b b' : Bank} {x : LineRec} (h : takeLine b x = some b') :
    ∃ part, partOf x.part = some part ∧ b' = { b with
      lines := b.lines ++
        [{ firstSyllable := x.firstSyllable, syllableCount := x.syllableCount, part := part, last := x.last
           start := startOf (b.covered x.firstSyllable x.syllableCount)
           finish := finishOf (b.covered x.firstSyllable x.syllableCount) }]
      lastLineSeen := x.last } := by
  unfold takeLine at h
  cases hp : partOf x.part with
  | none => rw [hp] at h; cases h
  | some part =>
    rw [hp] at h
    dsimp only at h
    split at h
    · cases h
    · exact ⟨part, rfl, (Option.some.inj h).symm⟩

/-- R23: the end of a line of at least one syllable is the greatest of its syllables' ends. -/
theorem finishOf_greatest {ss : List Syllable} (h : ss ≠ []) :
    (∀ y ∈ ss, y.start + y.duration ≤ finishOf ss) ∧ ∃ y ∈ ss, y.start + y.duration = finishOf ss := by
  have hmax : (ss.map fun y => y.start + y.duration).max? = some (finishOf ss) := by
    have hfold : finishOf ss = (ss.map fun y => y.start + y.duration).foldl max 0 := List.foldl_map.symm
    rw [hfold, List.foldl_max]
    cases hm : (ss.map fun y => y.start + y.duration).max? with
    | none => exact absurd (List.map_eq_nil_iff.mp (List.max?_eq_none_iff.mp hm)) h
    | some m => simp
  obtain ⟨hmem, hle⟩ := List.max?_eq_some_iff.mp hmax
  exact ⟨fun y hy => hle _ (List.mem_map.mpr ⟨y, hy, rfl⟩), List.mem_map.mp hmem⟩

/-- R29: a line record that is taken covers loaded syllables, at least one. -/
theorem covered_ne_nil {b : Bank} {first count : Nat} (h1 : 1 ≤ count) (h : first + count ≤ b.syllables.length) :
    b.covered first count ≠ [] := by
  refine List.ne_nil_of_length_pos ?_
  unfold Bank.covered
  rw [List.length_take, List.length_drop]
  omega

theorem takeGuide_isSome (b : Bank) (x : GuideRec) :
    (takeGuide b x).isSome = true ↔
      (∀ last, b.lastGuideStart = some last → last ≤ x.start) ∧ 1 ≤ x.duration ∧ 43 ≤ x.note ∧ x.note ≤ 84
        ∧ x.part ≤ 2 ∧ (x.part ≠ 1 → b.lastEndA ≤ x.start) ∧ (x.part ≠ 0 → b.lastEndB ≤ x.start) := by
  unfold takeGuide
  cases hp : partOf x.part with
  | none => simp [partOf_none hp]
  | some part =>
    obtain ⟨hle, _, _, _, hA, hB⟩ := partOf_some hp
    dsimp only
    rw [Option.isSome_ite']
    simp only [not_or, not_and, not_lt, lastStart_le_iff, hA, hB, hle, true_and]

theorem takeGuide_some {b b' : Bank} {x : GuideRec} (h : takeGuide b x = some b') :
    ∃ part, partOf x.part = some part ∧ b' = { b with
      guide := b.guide ++ [⟨x.start, x.duration, x.note, part⟩]
      lastGuideStart := some x.start
      lastEndA := if part.hasA then x.start + x.duration else b.lastEndA
      lastEndB := if part.hasB then x.start + x.duration else b.lastEndB } := by
  unfold takeGuide at h
  cases hp : partOf x.part with
  | none => rw [hp] at h; cases h
  | some part =>
    rw [hp] at h
    dsimp only at h
    split at h
    · cases h
    · exact ⟨part, rfl, (Option.some.inj h).symm⟩

/-- Settles O31, record kind by record kind. -/
theorem bankRecordChecks : Obligations.BankRecordChecks := by
  refine ⟨fun b x => ⟨takeSyllable_isSome b x, fun _ => takeSyllable_some⟩, fun b x => ?_,
    fun b x => ⟨takeGuide_isSome b x, fun b' h => ?_⟩⟩
  · intro expected covered
    have hchecks := takeLine_isSome b x
    rw [show b.nextSyllable = expected from nextSyllable_eq b] at hchecks
    refine ⟨hchecks, fun b' h => ?_⟩
    obtain ⟨hone, _, _, hloaded, _⟩ := hchecks.mp (by rw [h]; rfl)
    obtain ⟨part, hp, rfl⟩ := takeLine_some h
    obtain ⟨_, ha, hb, hboth, _⟩ := partOf_some hp
    obtain ⟨hle, hmem⟩ := finishOf_greatest (covered_ne_nil hone hloaded)
    refine ⟨_, rfl, rfl, rfl, rfl, ha, hb, hboth, fun y hy => ?_, hle, hmem⟩
    show (covered.head?.map Syllable.start).getD 0 = y.start
    rw [hy]
    rfl
  · obtain ⟨part, hp, rfl⟩ := takeGuide_some h
    obtain ⟨_, ha, hb, hboth, hA, hB⟩ := partOf_some hp
    refine ⟨part, ?_, ha, hb, hboth⟩
    simp only [hA, hB, ne_eq, ite_not]

end Sys2Proof.Machine
end

section
/-! PROOFS. The blocks after PIN_RESET (O4); FONT_CLEAR, and the completion of a bank's and of the font's clearing
(O33). -/

namespace Sys2Proof.Machine

/-! ### PIN_RESET (R183) -/

@[simp] theorem pinReset_panel (s : State) (e : PanelId) : (pinReset s).panel e = {} := reset_panel e

theorem pinReset_counters (s : State) (o : Fin 5) :
    (pinReset s).link.reportsStacked.get o = 0 ∧ (pinReset s).link.reportsReplaced.get o = 0 :=
  ⟨vec_get_replicate _ _, vec_get_replicate _ _⟩

theorem pinReset_slotMap (s : State) (k : SlotId) :
    (pinReset s).slotIn.get k = none ∧ (pinReset s).slotOut.get k = none :=
  ⟨vec_get_replicate _ _, vec_get_replicate _ _⟩

@[simp] theorem pinReset_chipStack (s : State) (e : PanelId) : (pinReset s).chipStack.get e = none :=
  vec_get_replicate _ _

/-- A bank and a microphone after pin reset, whatever their number. -/
theorem pinResetRoom_bank (b : BankId) : ({} : Room).bank b = {} := by
  rcases bank_cases b with rfl | rfl <;> rfl

theorem pinResetRoom_mic (m : MicId) : ({} : Room).mic m = {} := by
  rcases bank_cases m with rfl | rfl <;> rfl

/-- Settles O4: the chip's blocks are those of `State.reset`, and every room is the room of pin reset. -/
theorem pinResetBlocks : Obligations.PinResetBlocks := by
  intro s
  refine ⟨pinReset s, rfl, rfl, rfl, rfl, rfl, rfl, rfl, rfl, rfl, rfl, rfl, rfl, rfl, rfl, rfl, rfl, rfl, rfl, rfl, rfl,
    rfl, rfl, rfl, rfl, rfl, rfl, rfl, rfl, rfl, rfl, rfl, rfl, rfl, rfl, rfl, pinReset_counters s, pinReset_slotMap s,
    fun e => ⟨pinReset_chipStack s e, pinReset_panel s e⟩, rfl, fun r => ?_⟩
  rw [pinReset_room]
  exact ⟨pinResetRoom_bank, pinResetRoom_mic, rfl, rfl, rfl, rfl, rfl, rfl, rfl, rfl⟩

/-! ### FONT_CLEAR (R46) -/

/-- An order of the chip that is taken, decided with the state `t` beside the counted cell. -/
theorem chipOrder_replied {s t : State} (h : s.takes) {tag kind : Nat} {d : State → Verdict} {code : ReplyCode}
    {data : List Byte} (e : d s.countIn = ⟨t.countIn, code, data⟩) :
    chipOrder tag kind d s = t.replied 15 tag kind code data := by
  unfold chipOrder
  rw [takeOrder_taken h, e]; rfl

/-- R46, check 3: one of the ways in which the header values can be out of range. -/
theorem headerOk_iff (height space missing : Nat) :
    headerOk height space missing = true ↔ ¬(height < 16 ∨ 64 < height ∨ 80 < space ∨ 80 < missing) := by
  simp only [headerOk, Bool.and_eq_true, decide_eq_true_eq]; omega

/-- R46: the checks of FONT_CLEAR in a chip mode in which orders are taken. -/
theorem execFontClear_taken {s : State} (h : s.takes) (tag height space missing : Nat) :
    exec (.fontClear tag height space missing) s = .next (
      if s.mode ≠ .config then s.replied 15 tag 5 .wrongMode
      else if s.font.clearing = true then s.replied 15 tag 5 .busy
      else if height < 16 ∨ 64 < height ∨ 80 < space ∨ 80 < missing then s.replied 15 tag 5 .range
      else ({ s with font := { clearing := true, height := height, spaceAdvance := space, missingAdvance := missing,
                               glyphs := [], lastCode := none, coverageUsed := 0 } } : State).replied 15 tag 5 .ok) := by
  have answers {t : State} {code : ReplyCode} (e : fontClearOrder height space missing s.countIn = ⟨t.countIn, code, []⟩) :
      exec (.fontClear tag height space missing) s = .next (t.replied 15 tag 5 code) :=
    congrArg Host.Outcome.next (chipOrder_replied h e)
  split
  · next hm => exact answers (t := s) (if_pos hm)
  next hm =>
  split
  · next hc => exact answers (t := s) ((if_neg hm).trans (if_pos hc))
  next hc =>
  split
  · next hr =>
    exact answers (t := s)
      ((if_neg hm).trans ((if_neg hc).trans (if_neg fun ok => (headerOk_iff ..).mp ok hr)))
  · next hr => exact answers ((if_neg hm).trans ((if_neg hc).trans (if_pos ((headerOk_iff ..).mpr hr))))

/-! ### The completion of a clearing (R36, R38, R47) -/

/-- A completion takes place outside chip mode STOP alone, and of a clearing in flight alone (log 6). -/
theorem notCompleting {m : Mode} {p : Prop} (h : m = .stop ∨ ¬p) : ¬(m ≠ .stop ∧ p) :=
  fun ⟨hm, hp⟩ => h.elim hm (absurd hp)

/-- Settles O33. -/
theorem fontClearAndTheClearings : Obligations.FontClearAndTheClearings := by
  refine ⟨fun tag height space missing s => ⟨fun hm => ?_, fun h => execFontClear_taken h ..⟩,
    fun r b s => ⟨fun hm hc => ?_, fun hn => ?_, fun hm hc => ?_, fun hn => ?_⟩⟩
  · exact congrArg Host.Outcome.next (takeOrder_standby hm ..)
  · exact congrArg Host.Outcome.next (if_pos ⟨hm, hc⟩)
  · exact congrArg Host.Outcome.next (if_neg (notCompleting hn))
  · exact congrArg Host.Outcome.next (if_pos ⟨hm, hc⟩)
  · exact congrArg Host.Outcome.next (if_neg (notCompleting (hn.imp_right Bool.eq_false_iff.mp)))

end Sys2Proof.Machine
end

section
/-! PROOFS. READ: the record of every object, byte by byte (O40). -/

namespace Sys2Proof.Machine

/-! ### The fields of a record (12.2) -/

theorem flags_eq (fs : List Bool) :
    flags fs = beBytes 1 (fs.foldr (fun f n => (if f then 1 else 0) + 2 * n) 0) := by
  have hpack : packFlags fs = fs.foldr (fun f n => (if f then 1 else 0) + 2 * n) 0 := by
    induction fs with
    | nil => rfl
    | cons f fs ih => exact congrArg (fun n => (if f then 1 else 0) + 2 * n) ih
  exact congrArg (beBytes 1) hpack

theorem opt_eq (w : Nat) (n : Option Nat) :
    opt w n = match n with
      | none => beBytes 1 0 ++ beBytes w 0
      | some x => beBytes 1 1 ++ beBytes w x := by
  cases n <;> rfl

/-- R135: a score is UNSCORED exactly when no frame was judged. -/
theorem scoreOf_unscored (s p : Nat) : (scoreOf s p).unscored = decide (s = 0) := by
  unfold scoreOf
  split
  · next h => simp [h]
  · next h => simp [h]

/-! ### The codes of the named sets: places in the order 12.2 gives -/

theorem Mode.code_eq (x : Mode) : x.code = [Mode.config, .run, .stop].idxOf x := by cases x <;> rfl

theorem RoomState.code_eq (x : RoomState) :
    x.code = [RoomState.off, .idle, .calibrating, .cued, .playing, .held, .ending].idxOf x := by cases x <;> rfl

theorem Assign.code_eq (x : Assign) : x.code = [Assign.a, .b, .all, .off].idxOf x := by cases x <;> rfl

theorem EndReason.code_eq (x : EndReason) : x.code = [EndReason.complete, .stopped, .halted, .panelStop].idxOf x := by
  cases x <;> rfl

theorem BankState.code_eq (x : BankState) : x.code = [BankState.empty, .filling, .closed, .clearing].idxOf x := by
  cases x <;> rfl

theorem Overflow.code_eq (x : Overflow) : x.code = [Overflow.clip, .drop].idxOf x := by cases x <;> rfl

theorem CompMode.code_eq (x : CompMode) : x.code = [CompMode.measuredPlusOffset, .offsetOnly].idxOf x := by
  cases x <;> rfl

theorem RequestOrder.code_eq (x : RequestOrder) : x.code = [RequestOrder.arrival, .roomRank].idxOf x := by
  cases x <;> rfl

theorem MarkState.code_eq (x : MarkState) : x.code = [MarkState.none, .low, .high].idxOf x := by cases x <;> rfl

theorem EntryState.code_eq (x : EntryState) :
    x.code = [EntryState.waiting, .sent, .accepted, .cued, .playing, .cancelling].idxOf x := by cases x <;> rfl

theorem Owner.index_val (o : Owner) :
    o.index.val = match o with
      | .room k => k.val
      | .chip => 4 := by
  cases o <;> rfl

/-! ### Tables in rising order -/

/-- A table's entries one after another. -/
theorem vec_toList {α : Type} {n : Nat} (v : Vector α n) : v.toList = (List.finRange n).map v.get := by
  refine List.ext_getElem (by simp) fun i h1 h2 => ?_
  simp [Vector.get]

theorem panels_toList {α : Type} (v : Vector α 8) : v.toList = allPanels.map v.get := vec_toList v

theorem owners_toList {α : Type} (v : Vector α 5) : v.toList = allOwners.map v.get := vec_toList v

/-! ### READ, taken -/

/-- R176: a READ of a room's object that is taken. -/
theorem roomRead_replied {s : State} (h : s.takes) {r : RoomId} {tag : Nat} {record : State → List Byte}
    {data : List Byte} (e : record s.countIn = data) :
    roomOrder r tag 6 (fun x => accept x (record x)) s = s.replied r.val tag 6 .ok data :=
  roomOrder_replied h (by rw [e]; rfl)

/-- R176: a READ of a chip's object that is taken. -/
theorem chipRead_replied {s : State} (h : s.takes) {tag : Nat} {record : State → List Byte} {data : List Byte}
    (e : record s.countIn = data) :
    chipOrder tag 6 (fun x => accept x (record x)) s = s.replied 15 tag 6 .ok data :=
  chipOrder_replied h (by rw [e]; rfl)

theorem readBankOrder_val (r : RoomId) (b : BankId) :
    readBankOrder r b.val = fun x => accept x ((x.room r).bankRecord b) := by
  funext x; unfold readBankOrder; rw [bankOf_val]

/-- Settles O40, object by object: the fields in the codes of 12.2, one after another. -/
theorem readsAnswerTheRecords : Obligations.ReadsAnswerTheRecords := by
  intro r tag s h rm c one two bit bits signed optional assign
  have hflags : ∀ fs, flags fs = bits fs := flags_eq
  have hopt : ∀ w n, opt w n = optional w n := opt_eq
  have hassign : ∀ x : Assign, num 1 x.code = assign x := fun x => congrArg (num 1) x.code_eq
  refine ⟨?chip, ?room, ?badBank, ?bank, ?requests, ?scores, ?roomCounters, ?chipCounters⟩
  case chip =>
    refine congrArg Host.Outcome.next (chipRead_replied h ?_)
    show s.chipRecord = _
    simp only [State.chipRecord, ChipParams.record, GlyphTable.record, State.slotRecord, Ladder.record, PollEntry.record,
      State.controllerRecord, hflags, hopt, Mode.code_eq, RequestOrder.code_eq, Owner.index_val, panels_toList,
      List.map_map, List.flatMap_map, List.append_assoc]
    rfl
  case room =>
    intro context q params p kind slot k
    refine congrArg Host.Outcome.next (roomRead_replied h ?_)
    have hslot : ∀ x, slotRecord x = slot x := fun x => by
      cases x with
      | none => rfl
      | some x => cases x with | mk body => cases body <;> rfl
    have hcontext : rm.ctx.record = context := by
      unfold RoomContext.record
      simp only [hflags, hopt, hassign, optBank, RoomState.code_eq, funext EndReason.code_eq]
      rfl
    have hparams : rm.params.record = params := by
      unfold RoomParams.record paletteBytes
      simp only [hassign, Overflow.code_eq, CompMode.code_eq, params, List.flatMap_cons, List.flatMap_nil,
        List.append_nil, List.append_assoc]
      rfl
    show rm.record = _
    rw [Room.record, hcontext, hparams]
    simp only [Port.record, RoomStack.record, hflags, hopt, hslot, MarkState.code_eq, List.flatMap_cons,
      List.flatMap_nil, List.append_nil, List.append_assoc]
    rfl
  case badBank =>
    intro bank hb
    refine congrArg Host.Outcome.next (roomOrder_replied (t := s) h ?_)
    unfold readBankOrder
    rw [bankOf_none hb]
    rfl
  case bank =>
    intro b bank
    show Host.Outcome.next (roomOrder r tag 6 (readBankOrder r b.val) s) = _
    rw [readBankOrder_val]
    refine congrArg Host.Outcome.next (roomRead_replied h ?_)
    simp only [Room.bankRecord, hflags, hopt, BankState.code_eq, List.flatMap_cons, List.flatMap_nil, List.append_nil,
      List.append_assoc]
    rfl
  case requests =>
    intro entry
    refine congrArg Host.Outcome.next (roomRead_replied h ?_)
    have hentry : Entry.record = entry := funext fun e => by
      simp only [Entry.record, hopt, EntryState.code_eq]
      rfl
    show s.requestRecord r = _
    rw [State.requestRecord, hentry, List.countP_eq_length_filter]
    rfl
  case scores =>
    intro set result lane assigned total
    refine congrArg Host.Outcome.next (roomRead_replied h ?_)
    have hset : ∀ a, Accumulators.record a = set a := fun a => by
      simp only [Accumulators.record, set, List.flatMap_cons, List.flatMap_nil, List.append_nil, List.append_assoc]
      rfl
    have hresult : ∀ x, lastResultRecord x = result x := fun x => by
      cases x with
      | none => rfl
      | some f =>
        simp only [lastResultRecord, ResultRecord.record, result, hflags, hopt, List.append_assoc]
        rfl
    have hlane : ∀ m x, Mic.scoreRecord m x = lane m x := fun m x => by
      simp only [Mic.scoreRecord, OutcomeCounters.values, Accumulators.score, hassign, hset, hflags, hresult,
        scoreOf_unscored, lane, List.flatMap_cons, List.flatMap_nil, List.append_nil, List.append_assoc]
      rfl
    show rm.scoresRecord = _
    rw [Room.scoresRecord, hlane, hlane, hflags, Room.roomScore, scoreOf_unscored]
    rfl
  case roomCounters =>
    refine congrArg Host.Outcome.next (roomRead_replied h ?_)
    show rm.counters = _
    simp only [Room.counters, List.flatMap_cons, List.flatMap_nil, List.append_nil, List.append_assoc]
    rfl
  case chipCounters =>
    intro l
    refine congrArg Host.Outcome.next (chipRead_replied h ?_)
    simp only [State.chipCounters, LinkCounters.record, PollEntry.counters, panels_toList, owners_toList,
      List.flatMap_append, List.flatMap_assoc, List.flatMap_map, List.flatMap_cons, List.flatMap_nil, List.append_nil,
      List.append_assoc]
    rfl

end Sys2Proof.Machine
end

section
/-! PROOFS. The table law: what it reads of a state, the outboxes it allows to change, and the work of a room (O18). -/

namespace Sys2Proof.Machine

/-! ### What the law reads -/

/-- What the table law reads of a state: all else holds its pin-reset value. -/
def State.tablePart (s : State) : State :=
  { State.reset with
    mode := s.mode, font := s.font, slotIn := s.slotIn, slotOut := s.slotOut
    panels := s.panels, nextEntry := s.nextEntry, polling := s.polling }

theorem tablePart_tableLaw {s : State} : s.tablePart.TableLaw ↔ s.TableLaw :=
  ⟨fun h => ⟨h.font, h.entries, h.addresses, h.polling, h.inputs, h.outputs⟩,
    fun h => ⟨h.font, h.entries, h.addresses, h.polling, h.inputs, h.outputs⟩⟩

/-- The tables are lawful in chip mode `m`. All but SET_MODE and PIN_RESET keep the mode, and a controller that polls
may go on for it. -/
structure State.TablesIn (m : Mode) (s : State) : Prop where
  mode : s.mode = m
  law : s.TableLaw

section
variable {m : Mode} {s t : State}

/-- The law speaks of `tablePart` alone. -/
theorem State.TableLaw.congr (h : s.TableLaw) (e : t.tablePart = s.tablePart) : t.TableLaw := by
  rw [← tablePart_tableLaw, e]; exact tablePart_tableLaw.mpr h

theorem State.TablesIn.congr (h : s.TablesIn m) (e : t.tablePart = s.tablePart) : t.TablesIn m :=
  ⟨(congrArg State.mode e).trans h.mode, h.law.congr e⟩

/-- Outside RUN mode nothing is polled. -/
theorem State.TableLaw.idle (h : s.TableLaw) (hm : s.mode ≠ .run) : s.polling = none :=
  Option.eq_none_iff_forall_ne_some.mpr fun p hp => hm (h.polling p hp).1

/-- While nothing is polled any chip mode is lawful. -/
theorem State.TableLaw.setMode (h : s.TableLaw) (hp : s.polling = none) (n : Mode) :
    ({ s with mode := n } : State).TablesIn n :=
  ⟨rfl, { h with polling := fun _ e => absurd (hp.symm.trans e) nofun }⟩

@[simp] theorem updRoom_tablePart (s : State) (r : RoomId) (f : Room → Room) :
    (s.updRoom r f).tablePart = s.tablePart := rfl

@[simp] theorem pushReply_tablePart (s : State) (x : Reply) : (s.pushReply x).tablePart = s.tablePart := rfl

@[simp] theorem raise_tablePart (b : ReportBody) (s : State) : (raise b s).tablePart = s.tablePart := by
  simp [State.tablePart]

@[simp] theorem markTest_tablePart (r : RoomId) (s : State) : (markTest r s).tablePart = s.tablePart := by
  simp [State.tablePart]

@[simp] theorem handLineScore_tablePart (r : RoomId) (line : Nat) (skipped : Bool) (s : State) :
    (handLineScore r line skipped s).tablePart = s.tablePart := by simp [State.tablePart]

@[simp] theorem leaveEnding_tablePart (r : RoomId) (s : State) : (leaveEnding r s).tablePart = s.tablePart := by
  simp [State.tablePart]

@[simp] theorem schedule_tablePart (s : State) : (schedule s).tablePart = s.tablePart := by
  simp [State.tablePart]

@[simp] theorem markStale_tablePart (r : RoomId) (s : State) : (markStale r s).tablePart = s.tablePart := rfl

theorem sendIfIdle_tables (h : s.TablesIn m) : s.sendIfIdle.TablesIn m := h.congr (by simp [State.tablePart])

/-- A fold keeps the law where each of its steps does. -/
theorem foldl_tables {α : Type} {f : State → α → State} (hf : ∀ x a, x.TablesIn m → (f x a).TablesIn m) (l : List α)
    (h : s.TablesIn m) : (l.foldl f s).TablesIn m := by
  induction l generalizing s with
  | nil => exact h
  | cons a l ih => exact ih (hf s a h)

end

/-! ### Poll-table entries -/

/-- A poll-table entry whose outbox, presence or counters have changed: it stays enabled or disabled at its address, and
lawful. -/
structure PollEntry.Carries (p q : PollEntry) : Prop where
  enabled : q.enabled = p.enabled
  address : q.address = p.address
  lawful : p.Lawful → q.Lawful

theorem PollEntry.Carries.refl (p : PollEntry) : p.Carries p := ⟨rfl, rfl, id⟩

theorem PollEntry.Carries.trans {p q r : PollEntry} (h : p.Carries q) (k : q.Carries r) : p.Carries r :=
  ⟨k.enabled.trans h.enabled, k.address.trans h.address, k.lawful ∘ h.lawful⟩

/-- R149: an outbox holds at most 4 results, and none while its entry is disabled. -/
theorem push_carries (p : PollEntry) (k : ResultKind) : p.Carries (p.push k) := by
  unfold PollEntry.push
  split
  · next he =>
    have never {a : Prop} (e : p.enabled = false) : a := absurd (he.symm.trans e) nofun
    split
    · next hn => exact ⟨rfl, rfl, fun h => { h with outbox := by simpa using hn, disabled := never }⟩
    · refine ⟨rfl, rfl, fun h => { h with outbox := ?_, disabled := never }⟩
      have := h.outbox
      simp only [List.length_append, List.length_tail, List.length_singleton]
      omega
  · exact .refl p

theorem emptied_carries (p : PollEntry) : p.Carries { p with outbox := [] } :=
  ⟨rfl, rfl, fun h => { h with outbox := Nat.zero_le _, disabled := fun _ => rfl }⟩

/-- R143: the head of the outbox has left. -/
theorem polled_carries (p : PollEntry) : p.Carries p.polled := by
  refine ⟨rfl, rfl, fun h => { h with outbox := ?_, disabled := fun e => ?_ }⟩
  · exact Nat.le_trans (List.length_tail ▸ Nat.sub_le _ _) h.outbox
  · exact congrArg List.tail (h.disabled e)

/-- R145: a good answer. -/
theorem heard_carries (p : PollEntry) (n : Counter) :
    p.Carries { p with good := n, missCount := 0, present := true } :=
  ⟨rfl, rfl, fun h => { h with misses := Nat.zero_le _, present := fun _ => Nat.zero_lt_succ _ }⟩

/-- R145: the miss count stops at 3, where the entry is ABSENT. -/
theorem missed_carries (p : PollEntry) : p.Carries p.missed := by
  refine ⟨rfl, rfl, fun h => { h with misses := Nat.min_le_right _ _, present := fun e => ?_ }⟩
  simp only [PollEntry.missed, Bool.and_eq_true, decide_eq_true_eq] at e
  exact Nat.lt_of_le_of_lt (Nat.min_le_left _ _) e.2

/-- R144: a miss is counted by its kind. -/
theorem counted_carries (p : PollEntry) (noAnswer garbled wrongEcho : Counter) :
    p.Carries { p with noAnswer := noAnswer, garbled := garbled, wrongEcho := wrongEcho } :=
  ⟨rfl, rfl, fun h => { h with }⟩

section
variable {m : Mode} {s : State}

/-- A change of one entry's outbox, presence or counters keeps the law. -/
theorem updPanel_tables {e : PanelId} {f : PollEntry → PollEntry} (h : s.TablesIn m)
    (hf : (s.panel e).Carries (f (s.panel e))) : (s.updPanel e f).TablesIn m := by
  have carries (k : PanelId) : (s.panel k).Carries ((s.updPanel e f).panel k) := by
    rw [panel_updPanel]
    split
    · next hk => rw [hk]; exact hf
    · exact .refl _
  refine ⟨h.mode, { h.law with entries := fun k => ?_, addresses := fun i k => ?_, polling := fun p hp => ?_ }⟩
  · exact (carries k).lawful (h.law.entries k)
  · rw [(carries i).enabled, (carries k).enabled, (carries i).address, (carries k).address]
    exact h.law.addresses i k
  · rw [(carries _).enabled, (carries _).address]
    exact h.law.polling p hp

theorem pushResult_tables (e : PanelId) (k : ResultKind) (h : s.TablesIn m) : (pushResult e k s).TablesIn m :=
  updPanel_tables h (push_carries _ k)

theorem pushToRoom_tables (r : RoomId) (k : ResultKind) (h : s.TablesIn m) : (pushToRoom r k s).TablesIn m :=
  foldl_tables (fun x e hx => by split; exacts [pushResult_tables e k hx, hx]) allPanels h

theorem emptyOutboxes_tables (r : RoomId) (h : s.TablesIn m) : (emptyOutboxes r s).TablesIn m :=
  foldl_tables (fun x e hx => by split; exacts [updPanel_tables hx (emptied_carries _), hx]) allPanels h

/-! ### Endings and the line test -/

theorem endRequest_tables (r : RoomId) (h : s.TablesIn m) : (endRequest r s).TablesIn m := by
  unfold endRequest
  split
  · exact h
  · exact pushToRoom_tables r _ (h.congr rfl)

/-- R17: an ending changes rooms, reports and the outboxes of the room's panels. -/
theorem takeEnding_tables (r : RoomId) (reason : EndReason) (h : s.TablesIn m) :
    (takeEnding r reason s).TablesIn m := by
  cases hs : (s.room r).ctx.singing with
  | false => rwa [takeEnding_not_singing _ _ _ hs]
  | true =>
    have hclosed : (songClosed r reason s).TablesIn m := by
      unfold songClosed endingReported endingLined
      exact endRequest_tables r (h.congr (by simp))
    rw [takeEnding_eq _ _ _ hs]
    split
    · exact hclosed.congr (leaveEnding_tablePart r _)
    · exact hclosed

theorem advanceTo_tables (r : RoomId) (k t : Nat) (h : s.TablesIn m) : (advanceTo r k t s).TablesIn m := by
  have line (x : State) (j : Nat) (hx : x.TablesIn m) : (handLineScore r j true x).TablesIn m := hx.congr (by simp)
  unfold advanceTo
  exact (foldl_tables line _ (h.congr (handLineScore_tablePart r _ false s))).congr rfl

theorem holdStep_tables (r : RoomId) (t : Nat) (h : s.TablesIn m) : (holdStep r t s).TablesIn m := by
  rcases holdStep_cases r t s with e | ⟨f, _, e⟩ | ⟨_, e⟩ <;> rw [e]
  · exact h
  · exact h.congr rfl
  · exact takeEnding_tables r .halted (h.congr rfl)

theorem lineTest_tables (r : RoomId) (t : Nat) (h : s.TablesIn m) : (lineTest r t s).TablesIn m := by
  rcases lineTest_cases r t s with e | e | ⟨k, e⟩ <;> rw [e]
  · exact takeEnding_tables r .halted h
  · exact holdStep_tables r t h
  · exact holdStep_tables r t (advanceTo_tables r k t h)

theorem songTick_tables (r : RoomId) (h : s.TablesIn m) : (songTick r s).TablesIn m := by
  rcases songTick_cases r s with e | ⟨_, e⟩ <;> rw [e]
  · exact h
  · exact lineTest_tables r _ h

/-! ### Calibrations and resets -/

theorem endCalibration_tables (r : RoomId) (outcome : CalOutcome) (j : Nat) (f : Port → Port) (h : s.TablesIn m) :
    (endCalibration r outcome j f s).TablesIn m := by
  unfold endCalibration
  split
  · exact h
  · exact h.congr (by simp)

theorem resetRoom_tables (r : RoomId) (h : s.TablesIn m) : (resetRoom r s).TablesIn m := by
  have emptied {x : State} (e : x.tablePart = s.tablePart) : (markStale r (emptyOutboxes r x)).TablesIn m :=
    (emptyOutboxes_tables r (h.congr e)).congr (markStale_tablePart r _)
  have hq : (resetQuietly r s).TablesIn m := emptied rfl
  rcases resetRoom_cases r s with ⟨_, e⟩ | ⟨c, _, e⟩ <;> rw [e]
  · exact hq
  · exact hq.congr (raise_tablePart _ _)

/-! ### The sample period -/

theorem audioCell_tables (r : RoomId) (endFlag : Bool) (samples : List Stereo) (h : s.TablesIn m) :
    (audioCell r endFlag samples s).TablesIn m := by
  unfold audioCell
  dsimp only
  split
  · exact h.congr rfl
  split
  · exact h.congr rfl
  split
  · exact h.congr rfl
  · exact h.congr rfl
  · exact h.congr rfl
  · exact sendIfIdle_tables (h.congr (by simp))

theorem backingOutput_tables (r : RoomId) (h : s.TablesIn m) : (backingOutput r s).TablesIn m := by
  unfold backingOutput
  dsimp only
  split
  · split
    · exact takeEnding_tables r .complete (h.congr rfl)
    split
    · exact h.congr rfl
    · next x rest _ =>
      have hticked : (songTick r (s.updRoom r fun y => y.advanced rest)).TablesIn m := songTick_tables r (h.congr rfl)
      have hmarked := hticked.congr (markTest_tablePart r _)
      split
      · exact takeEnding_tables r .complete hmarked
      · exact hmarked
  · exact h

theorem calibrationStep_tables (r : RoomId) (inputs : Vector Sample 8) (h : s.TablesIn m) :
    (calibrationStep r inputs s).TablesIn m := by
  unfold calibrationStep captureStep
  split
  · split
    · exact endCalibration_tables r _ _ _ h
    split
    · exact endCalibration_tables r _ _ _ h
    · exact h.congr rfl
  · exact h

theorem roomShares_tables (inputs : Vector Sample 8) (order : List RoomId) (h : s.TablesIn m) :
    (roomShares inputs order s).1.TablesIn m := by
  have share (r : RoomId) (x : State) (hx : x.TablesIn m) : (roomShare r inputs x).1.TablesIn m :=
    calibrationStep_tables r inputs (backingOutput_tables r (hx.congr rfl))
  unfold roomShares
  suffices ∀ acc : State × List FrameRecord, acc.1.TablesIn m →
      (order.foldl (fun acc r =>
        ((roomShare r inputs acc.1).1, acc.2 ++ (roomShare r inputs acc.1).2)) acc).1.TablesIn m
    from this (s, []) h
  induction order with
  | nil => exact fun _ h => h
  | cons r rs ih => exact fun acc h => ih _ (share r acc.1 h)

theorem beginAnalysis_tables (h : s.TablesIn m) : (beginAnalysis s).TablesIn m := by
  unfold beginAnalysis; split
  · exact h.congr rfl
  · exact h

theorem offerFrame_tables (f : FrameRecord) (h : s.TablesIn m) : (offerFrame f s).TablesIn m := by
  unfold offerFrame; split
  · exact beginAnalysis_tables (h.congr rfl)
  · exact h.congr rfl

theorem samplePeriod_tables (inputs : Vector Sample 8) (roomOrder offerOrder : Nat) (h : s.TablesIn m) :
    (samplePeriod inputs roomOrder offerOrder s).TablesIn m := by
  unfold samplePeriod
  split
  · exact h.congr rfl
  · exact sendIfIdle_tables (foldl_tables (fun x f hx => offerFrame_tables f hx) _
      (roomShares_tables inputs _ (h.congr rfl)))

theorem songPositionLimit_tables (r : RoomId) (h : s.TablesIn m) : (songPositionLimit r s).TablesIn m := by
  unfold songPositionLimit; split
  · exact sendIfIdle_tables (backingOutput_tables r (h.congr rfl))
  · exact h

theorem analysisComplete_tables (h : s.TablesIn m) : (analysisComplete s).TablesIn m := by
  unfold analysisComplete
  split
  · exact h
  split
  · exact beginAnalysis_tables (h.congr rfl)
  · exact h

theorem calTimeout_tables (r : RoomId) (h : s.TablesIn m) : (calTimeout r s).TablesIn m := by
  unfold calTimeout; split
  · exact sendIfIdle_tables (endCalibration_tables r _ _ _ h)
  · exact h

end

end Sys2Proof.Machine
end

section
/-! PROOFS. The table law through the tables' own orders, the panels, the requests and the rooms' orders; and O18. -/

namespace Sys2Proof.Machine

section
variable {m : Mode} {s : State}

/-! ### The Glyph Table -/

theorem setFont_tables {t : GlyphTable} (h : s.TablesIn m) (ht : t.Lawful) :
    ({ s with font := t } : State).TablesIn m :=
  ⟨h.mode, { h.law with font := ht }⟩

theorem fontClearOrder_tables (height space missing : Nat) (h : s.TablesIn m) :
    (fontClearOrder height space missing s).state.TablesIn m := by
  unfold fontClearOrder
  split
  · exact h
  split
  · exact h
  split
  · next hok => exact setFont_tables h (clearedFont_lawful height space missing hok)
  · exact h

theorem fontClearingComplete_tables (h : s.TablesIn m) : (fontClearingComplete s).TablesIn m := by
  unfold fontClearingComplete
  split
  · exact setFont_tables h (readyFont_lawful _ h.law.font)
  · exact h

/-- R48, check 2: what is read is the announced records, under the announced first index. -/
theorem readFontAppend_some {height f : Nat} {first count : Option Nat} {records : List Byte} {gs : List Glyph}
    (e : readFontAppend height first count records = some (f, gs)) :
    ∃ n, first = some f ∧ count = some n ∧ readGlyphs height n records = some gs := by
  unfold readFontAppend at e
  split at e
  · next n =>
    obtain ⟨gs', hread, hpair⟩ := Option.map_eq_some_iff.mp e
    cases hpair
    exact ⟨n, rfl, rfl, hread⟩
  · cases e

theorem fontAppendOrder_tables (first count : Option Nat) (records : List Byte) (h : s.TablesIn m) :
    (fontAppendOrder first count records s).state.TablesIn m := by
  unfold fontAppendOrder
  dsimp only
  split
  · exact h
  next hc =>
  split
  · exact h
  next hread =>
  split
  · exact h
  split
  · exact h
  next hroom =>
  split
  · exact h
  · next hok =>
    obtain ⟨n, _, _, hread⟩ := readFontAppend_some hread
    exact setFont_tables h (takeGlyphs_lawful _ _ _ 0 h.law.font (Bool.eq_false_iff.mpr hc) (Nat.le_of_not_lt hroom)
      (readGlyphs_shape _ n records _ hread) hok)

/-! ### The slot map -/

/-- R91: an entry takes a target that no other entry of its direction holds. -/
theorem setSlot_distinct {α : Type} [DecidableEq α] {v : Vector (Option α) 8} {slot : SlotId} {x : Option α}
    (hv : ∀ i k t, v.get i = some t → v.get k = some t → i = k) (hx : ¬targetTaken v slot x = true)
    (i k : SlotId) (t : α) (hi : (v.set slot x).get i = some t) (hk : (v.set slot x).get k = some t) : i = k := by
  have other {j : SlotId} (hj : j ≠ slot) (hjt : v.get j = some t) : x ≠ some t := fun e =>
    hx (by simpa [targetTaken, e] using ⟨j, mem_allPanels j, hj, hjt⟩)
  by_cases ei : i = slot
  · by_cases ek : k = slot
    · rw [ei, ek]
    · subst ei
      rw [vec_get_set_same] at hi
      rw [vec_get_set_ne _ _ _ _ ek] at hk
      exact absurd hi (other ek hk)
  · rw [vec_get_set_ne _ _ _ _ ei] at hi
    by_cases ek : k = slot
    · subst ek
      rw [vec_get_set_same] at hk
      exact absurd hk (other ei hi)
    · rw [vec_get_set_ne _ _ _ _ ek] at hk
      exact hv i k t hi hk

theorem slotMapOrder_tables (direction slot target : Nat) (h : s.TablesIn m) :
    (slotMapOrder direction slot target s).state.TablesIn m := by
  unfold slotMapOrder
  split
  · exact h
  split
  · split
    · exact h
    split
    · exact h
    · next hfree => exact ⟨h.mode, { h.law with inputs := setSlot_distinct h.law.inputs hfree }⟩
  · split
    · exact h
    split
    · exact h
    · next hfree => exact ⟨h.mode, { h.law with outputs := setSlot_distinct h.law.outputs hfree }⟩
  · exact h

/-! ### The poll table -/

theorem setEntry_lawful (on : Bool) {address : Nat} (r : RoomId) (h : 1 ≤ address ∧ address ≤ 31) :
    (setEntry on address r).Lawful where
  misses := Nat.zero_le _
  present := nofun
  outbox := Nat.zero_le _
  disabled _ := rfl
  address _ := h

/-- R141: with nothing polled, an entry may be set to an address of 1 to 31 that, if it is enabled, no other enabled
entry holds. -/
theorem setEntry_tables {e : PanelId} {on : Bool} {address : Nat} {r : RoomId} (h : s.TablesIn m)
    (hp : s.polling = none) (ha : 1 ≤ address ∧ address ≤ 31) (hfree : ¬(on = true ∧ s.addressTaken e address = true)) :
    (s.updPanel e fun _ => setEntry on address r).TablesIn m := by
  have other {k : PanelId} (hk : k ≠ e) (hon : on = true) (hke : (s.panel k).enabled = true) :
      (s.panel k).address ≠ address := fun he =>
    hfree ⟨hon, by simpa [State.addressTaken] using ⟨k, mem_allPanels k, ⟨hk, hke⟩, he⟩⟩
  refine ⟨h.mode, { h.law with
    entries := fun k => ?_, addresses := fun i k => ?_, polling := fun p hpp => absurd (hp.symm.trans hpp) nofun }⟩
  · rw [panel_updPanel]
    split
    · exact setEntry_lawful on r ha
    · exact h.law.entries k
  · rw [panel_updPanel, panel_updPanel]
    by_cases ei : i = e
    · by_cases ek : k = e
      · intros; rw [ei, ek]
      · rw [if_pos ei, if_neg ek]
        exact fun hon hk hadr => absurd hadr.symm (other ek hon hk)
    · rw [if_neg ei]
      by_cases ek : k = e
      · rw [if_pos ek]
        exact fun hi hon hadr => absurd hadr (other ei hon hi)
      · rw [if_neg ek]
        exact h.law.addresses i k

theorem pollEntryOrder_tables (entry enabled address room : Nat) (h : s.TablesIn m) :
    (pollEntryOrder entry enabled address room s).state.TablesIn m := by
  unfold pollEntryOrder
  split
  · exact h
  next hm =>
  split
  · split
    · exact h
    next ha =>
    split
    · exact h
    · next hfree =>
      have hidle := h.law.idle (by rw [Decidable.not_not.mp hm]; decide)
      exact setEntry_tables h hidle (by omega) hfree
  · exact h

/-! ### The polling cycle -/

/-- R142, R143: in RUN mode a poll of an enabled entry begins. -/
theorem beginPoll_tables {e : PanelId} (h : s.TablesIn .run) (he : (s.panel e).enabled = true) :
    (beginPoll e s).TablesIn .run := by
  have hc := polled_carries (s.panel e)
  have hsent : (s.updPanel e PollEntry.polled).TablesIn .run := updPanel_tables h hc
  have hpanel : (beginPoll e s).panel e = (s.panel e).polled := panel_updPanel_same s e _
  refine ⟨h.mode, { hsent.law with polling := fun p hp => ⟨h.mode, ?_, ?_⟩ }⟩
  · show ((beginPoll e s).panel e).enabled = true
    rw [hpanel]; exact hc.enabled.trans he
  · show p.address = ((beginPoll e s).panel e).address
    rw [hpanel, hc.address]
    cases hp; rfl

theorem lowestEnabled_enabled {e : PanelId} (h : s.lowestEnabled = some e) : (s.panel e).enabled = true :=
  List.find?_some (p := fun e => (s.panel e).enabled) h

theorem enabledAfter_enabled {e k : PanelId} (h : s.enabledAfter e = some k) : (s.panel k).enabled = true := by
  unfold State.enabledAfter at h
  split at h
  · next hk =>
    cases h
    have := List.find?_some (p := fun k => decide (e < k) && (s.panel k).enabled) hk
    exact (Bool.and_eq_true_iff.mp this).2
  · exact lowestEnabled_enabled h

theorem startPolling_tables (h : s.TablesIn .run) : (startPolling s).TablesIn .run := by
  unfold startPolling
  split
  · exact h
  · next he => exact beginPoll_tables h (lowestEnabled_enabled he)

theorem stopPolling_tables (h : s.TablesIn m) : ({ s with polling := none } : State).TablesIn m :=
  ⟨h.mode, { h.law with polling := nofun }⟩

theorem nextPoll_tables (h : s.TablesIn .run) : (nextPoll s).TablesIn .run := by
  unfold nextPoll
  split
  · exact stopPolling_tables h
  · next he => exact beginPoll_tables h (enabledAfter_enabled he)

/-- R143: a poll in flight is one of RUN mode, where the next may begin. -/
theorem endPoll_tables {act : PanelId → State → State} (h : s.TablesIn m)
    (ha : ∀ e x, x.TablesIn .run → (act e x).TablesIn .run) : (endPoll act s).TablesIn m := by
  unfold endPoll
  split
  · exact h
  · next p hp =>
    obtain rfl : m = .run := h.mode.symm.trans (h.law.polling p hp).1
    exact sendIfIdle_tables (nextPoll_tables (ha _ _ h))

theorem markGood_tables (e : PanelId) (h : s.TablesIn m) : (markGood e s).TablesIn m := by
  have hheard := updPanel_tables h (heard_carries (s.panel e) (bump (s.panel e).good 1))
    (f := fun p => { p with good := bump p.good 1, missCount := 0, present := true })
  unfold markGood
  dsimp only
  split
  · exact hheard
  · exact hheard.congr (raise_tablePart _ _)

theorem markMiss_tables (e : PanelId) {count : PollEntry → PollEntry} (hcount : ∀ p : PollEntry, p.Carries (count p))
    (h : s.TablesIn m) : (markMiss e count s).TablesIn m := by
  have hmissed := updPanel_tables (f := fun p => count p.missed) h ((missed_carries (s.panel e)).trans (hcount _))
  unfold markMiss
  dsimp only
  split
  · exact hmissed.congr (raise_tablePart _ _)
  · exact hmissed

theorem goodAnswer_tables {handle : PanelId → RoomId → State → State} (h : s.TablesIn m)
    (ha : ∀ e r x, x.TablesIn .run → (handle e r x).TablesIn .run) : (goodAnswer handle s).TablesIn m :=
  endPoll_tables h fun e _ hx => ha e _ _ (markGood_tables e hx)

/-! ### Requests and messages -/

theorem removeWithResult_tables (r : RoomId) (e : Entry) (k : ResultKind) (h : s.TablesIn m) :
    (removeWithResult r e k s).TablesIn m := pushResult_tables _ k (h.congr rfl)

theorem takeRequest_tables (r : RoomId) (e : PanelId) (song : Nat) (keyShift : Int) (tag : Nat) (h : s.TablesIn m) :
    (takeRequest r e song keyShift tag s).TablesIn m := by
  have listed {x : State} (k : ResultKind) (hx : x.tablePart = s.tablePart) : (pushResult e k x).TablesIn m :=
    pushResult_tables e k (h.congr hx)
  unfold takeRequest
  dsimp only
  split
  · exact listed _ rfl
  split
  · exact listed _ rfl
  · exact listed _ rfl

theorem takeCancel_tables (r : RoomId) (e : PanelId) (ticket : Nat) (h : s.TablesIn m) :
    (takeCancel r e ticket s).TablesIn m := by
  unfold takeCancel
  split
  · exact pushResult_tables _ _ h
  split
  · exact pushResult_tables _ _ h
  split
  · exact removeWithResult_tables _ _ _ h
  · exact h.congr rfl
  · exact h.congr rfl
  · exact h
  · exact pushResult_tables _ _ h
  · exact pushResult_tables _ _ h

theorem requestMessage_tables (payload : List Byte) (e : PanelId) (r : RoomId) (h : s.TablesIn m) :
    (requestMessage payload e r s).TablesIn m := by
  unfold requestMessage
  split
  · exact pushResult_tables _ _ h
  dsimp only
  split
  · exact pushResult_tables _ _ h
  · exact takeRequest_tables _ _ _ _ _ h

theorem cancelMessage_tables (payload : List Byte) (e : PanelId) (r : RoomId) (h : s.TablesIn m) :
    (cancelMessage payload e r s).TablesIn m := by
  unfold cancelMessage; split
  · exact pushResult_tables _ _ h
  · exact takeCancel_tables _ _ _ h

theorem stopMessage_tables (e : PanelId) (r : RoomId) (h : s.TablesIn m) : (stopMessage e r s).TablesIn m := by
  unfold stopMessage
  split
  · exact pushResult_tables _ _ h
  split
  · exact takeEnding_tables _ _ h
  · exact pushResult_tables _ _ h

theorem roomMessage_tables {handle : PanelId → RoomId → State → State}
    (ha : ∀ e r x, x.TablesIn m → (handle e r x).TablesIn m) (e : PanelId) (r : RoomId) (h : s.TablesIn m) :
    (roomMessage handle e r s).TablesIn m := by
  unfold roomMessage; split
  · exact pushResult_tables _ _ h
  · exact ha _ _ _ h

theorem withEntry_tables (r : RoomId) (ticket : Nat) {act : Entry → State → Verdict} (h : s.TablesIn m)
    (ha : ∀ e, (act e s).state.TablesIn m) : (withEntry r ticket act s).state.TablesIn m := by
  unfold withEntry; split
  · exact h
  · exact ha _

theorem acceptEntry_tables (r : RoomId) (ticket position : Nat) (e : Entry) (h : s.TablesIn m) :
    (acceptEntry r ticket position e s).state.TablesIn m := by
  unfold acceptEntry
  split
  · exact pushResult_tables _ _ (h.congr rfl)
  · exact h.congr rfl
  all_goals exact h

theorem positionEntry_tables (r : RoomId) (ticket position : Nat) (e : Entry) (h : s.TablesIn m) :
    (positionEntry r ticket position e s).state.TablesIn m := by
  unfold positionEntry
  dsimp only
  split
  · exact pushResult_tables _ _ (h.congr rfl)
  · exact pushResult_tables _ _ (h.congr rfl)
  · exact h.congr rfl
  all_goals exact h

theorem confirmCancel_tables (r : RoomId) (e : Entry) (h : s.TablesIn m) : (confirmCancel r e s).TablesIn m :=
  removeWithResult_tables _ _ _ (h.congr rfl)

theorem refuseOrder_tables (r : RoomId) (ticket reason : Nat) (h : s.TablesIn m) :
    (refuseOrder r ticket reason s).state.TablesIn m := by
  unfold refuseOrder
  split
  · exact h
  · refine withEntry_tables r ticket h fun e => ?_
    unfold refuseEntry
    split
    · exact removeWithResult_tables _ _ _ h
    · exact removeWithResult_tables _ _ _ h
    · exact confirmCancel_tables _ _ h
    all_goals exact h

theorem dropOrder_tables (r : RoomId) (e : Entry) (h : s.TablesIn m) : (dropOrder r e s).state.TablesIn m := by
  unfold dropOrder
  split
  · exact removeWithResult_tables _ _ _ h
  · exact removeWithResult_tables _ _ _ h
  · exact removeWithResult_tables _ _ _ (h.congr (updRoom_tablePart s r _))
  · exact confirmCancel_tables _ _ h
  all_goals exact h

theorem timeOutEntry_tables (r : RoomId) (e : Entry) (h : s.TablesIn m) : (timeOutEntry r e s).TablesIn m :=
  removeWithResult_tables _ _ _ (h.congr (updRoom_tablePart s r _))

theorem venueTimeTick_tables (h : s.TablesIn m) : (venueTimeTick s).TablesIn m :=
  foldl_tables (f := timeOutRoom) (fun _ r hx => foldl_tables (fun _ e hy => timeOutEntry_tables r e hy) _ hx) allRooms
    (h.congr rfl)

theorem replyTimeout_tables (r : RoomId) (ticket : Nat) (h : s.TablesIn m) : (replyTimeout r ticket s).TablesIn m := by
  unfold replyTimeout
  split
  · exact h
  split
  · exact timeOutEntry_tables _ _ h
  · exact h

/-! ### Room orders, banks and parameters -/

theorem cueOrder_tables (r : RoomId) (bank ticket : Nat) (h : s.TablesIn m) :
    (cueOrder r bank ticket s).state.TablesIn m := by
  unfold cueOrder
  dsimp only
  split
  · exact h
  split
  · exact h
  split
  · exact h
  split
  · exact h
  split
  · exact h
  split
  · exact h
  · next b _ _ _ _ _ =>
    have hcued : (s.updRoom r fun x => x.cue b ticket).TablesIn m := h.congr rfl
    show (if _ then _ else _ : State).TablesIn m
    split
    · exact hcued.congr (markTest_tablePart r _)
    · exact hcued

theorem startOrder_tables (r : RoomId) (h : s.TablesIn m) : (startOrder r s).state.TablesIn m := by
  unfold startOrder; split
  · exact h.congr rfl
  all_goals exact h

theorem moveOrder_tables (r : RoomId) (source target : RoomState) (h : s.TablesIn m) :
    (moveOrder r source target s).state.TablesIn m := by
  unfold moveOrder; split
  · exact h.congr rfl
  · exact h

theorem stopOrder_tables (r : RoomId) (h : s.TablesIn m) : (stopOrder r s).state.TablesIn m := by
  unfold stopOrder
  split
  · exact takeEnding_tables r _ h
  · exact takeEnding_tables r _ h
  · exact endCalibration_tables r _ _ _ h
  · exact h.congr (updRoom_tablePart s r _)
  · exact h

theorem haltOrder_tables (r : RoomId) (h : s.TablesIn m) : (haltOrder r s).state.TablesIn m := by
  unfold haltOrder
  dsimp only
  split
  · split
    · exact takeEnding_tables r _ h
    · exact h.congr rfl
  · exact h

theorem calibrateOrder_tables (r : RoomId) (h : s.TablesIn m) : (calibrateOrder r s).state.TablesIn m := by
  unfold calibrateOrder
  dsimp only
  split
  · split
    · exact h
    · exact h.congr rfl
  · exact h

theorem roomParamOrder_tables (r : RoomId) (setting : RoomSetting) (h : s.TablesIn m) :
    (roomParamOrder r setting s).state.TablesIn m := by
  unfold roomParamOrder
  split
  · exact h
  split
  · exact h
  · next p _ =>
    have hset : (s.updRoom r fun rm => { rm with params := p }).TablesIn m := h.congr rfl
    show (if _ then _ else _ : State).TablesIn m
    split
    · exact hset.congr (markTest_tablePart r _)
    · exact hset

theorem bankOpenOrder_tables (r : RoomId) (bank songId lines syllables notes : Nat) (h : s.TablesIn m) :
    (bankOpenOrder r bank songId lines syllables notes s).state.TablesIn m := by
  unfold bankOpenOrder
  split
  · exact h
  split
  · exact h
  · exact h
  · exact h
  · split
    · exact h.congr rfl
    · exact h

theorem bankCloseOrder_tables (r : RoomId) (bank : Nat) (h : s.TablesIn m) :
    (bankCloseOrder r bank s).state.TablesIn m := by
  unfold bankCloseOrder
  split
  · exact h
  dsimp only
  split
  · split
    · exact h.congr rfl
    · exact h
  · exact h

theorem bankClearOrder_tables (r : RoomId) (bank : Nat) (h : s.TablesIn m) :
    (bankClearOrder r bank s).state.TablesIn m := by
  unfold bankClearOrder
  split
  · exact h
  dsimp only
  split
  · exact h
  split
  · exact h.congr rfl
  · exact h

theorem bankClearingComplete_tables (r : RoomId) (b : BankId) (h : s.TablesIn m) :
    (bankClearingComplete r b s).TablesIn m := by
  unfold bankClearingComplete; split
  · exact sendIfIdle_tables (h.congr (raise_tablePart _ _))
  · exact h

theorem appendOrder_tables {α : Type} {take : Bank → α → Option Bank} {frontier declared : Bank → Nat}
    {after : BankId → State → State} (ha : ∀ b x, x.TablesIn m → (after b x).TablesIn m) (r : RoomId)
    (bank first : Nat) (xs : List α) (h : s.TablesIn m) :
    (appendOrder take frontier declared after r bank first xs s).state.TablesIn m := by
  unfold appendOrder
  split
  · exact h
  split
  · exact h
  · exact ha _ _ (h.congr rfl)

theorem linesOrder_tables (r : RoomId) (bank first : Nat) (recs : List LineRec) (h : s.TablesIn m) :
    (linesOrder r bank first recs s).state.TablesIn m := by
  refine appendOrder_tables (fun b x hx => ?_) r bank first recs h
  unfold lineAppendEvent
  dsimp only
  split
  · exact lineTest_tables r _ hx
  · exact hx

theorem ladderOrder_tables (first : Nat) (bounds : List Nat) (h : s.TablesIn m) :
    (ladderOrder first bounds s).state.TablesIn m := by
  unfold ladderOrder
  split
  · exact h
  split
  · exact h
  split
  · exact h
  · exact h.congr rfl

theorem chipParamOrder_tables (id : ChipParamId) (v : Nat) (h : s.TablesIn m) :
    (chipParamOrder id v s).state.TablesIn m := by
  unfold chipParamOrder; split
  · exact h
  · exact h.congr rfl

theorem readBankOrder_tables (r : RoomId) (bank : Nat) (h : s.TablesIn m) :
    (readBankOrder r bank s).state.TablesIn m := by
  unfold readBankOrder; split <;> exact h

/-! ### The trunk -/

theorem discardCell_tables (bytes : List Byte) (h : s.TablesIn m) : (discardCell bytes s).TablesIn m := by
  unfold discardCell
  dsimp only
  split
  · exact h.congr rfl
  split
  · exact h.congr rfl
  split
  · exact h.congr rfl
  split
  · exact h.congr rfl
  split
  · exact h.congr rfl
  split
  · exact h.congr rfl
  · exact h

theorem answerMalformed_tables (bytes : List Byte) (h : s.TablesIn m) : (answerMalformed bytes s).TablesIn m := by
  unfold answerMalformed
  dsimp only
  split
  · exact h.congr rfl
  split
  · exact h.congr rfl
  · exact sendIfIdle_tables (h.congr rfl)

theorem takeMedia_tables {act : State → State} (h : s.TablesIn m) (ha : ∀ x, x.TablesIn m → (act x).TablesIn m) :
    (takeMedia act s).TablesIn m := by
  rcases takeMedia_cases act s with e | e <;> rw [e]
  · exact h.congr rfl
  · exact ha _ (h.congr rfl)

end

/-- An order keeps the law where its decision does, whatever the chip mode it leaves. -/
theorem takeOrder_tableLaw {s : State} (inStandby : Bool) (room tag kind : Nat) {d : State → Verdict} (h : s.TableLaw)
    (hd : ∀ x, x.TableLaw → (d x).state.TableLaw) : (takeOrder inStandby room tag kind d s).TableLaw := by
  rcases takeOrder_cases inStandby room tag kind d s with e | e | e <;> rw [e]
  · exact h.congr rfl
  · exact h.congr rfl
  · have hdecided := hd s.countIn (h.congr rfl)
    exact (sendIfIdle_tables ⟨rfl, hdecided.congr (pushReply_tablePart _ _)⟩).law

/-! ### SET_MODE -/

section
variable {s : State}

theorem enterRun_tables (h : s.TableLaw) (hm : s.mode = .config) : (enterRun s).TablesIn .run := by
  have hrun := h.setMode (h.idle (by rw [hm]; decide)) .run
  exact startPolling_tables (hrun.congr rfl)

theorem leaveRun_tables (h : s.TableLaw) : (leaveRun s).TablesIn .config :=
  foldl_tables (fun _ r hx => resetRoom_tables r hx) allRooms
    (State.TableLaw.setMode (stopPolling_tables ⟨rfl, h⟩).law rfl .config)

theorem enterStop_tables (h : s.TableLaw) (hm : s.mode = .config) : (enterStop s).TablesIn .stop :=
  (h.setMode (h.idle (by rw [hm]; decide)) .stop).congr rfl

theorem setModeOrder_tableLaw (mode : Nat) (h : s.TableLaw) : (setModeOrder mode s).state.TableLaw := by
  unfold setModeOrder
  split
  · exact h
  split
  · exact h
  · exact h
  · exact h
  · next hm _ =>
    split
    · exact (enterRun_tables h hm).law
    · exact h
  · split
    · exact h
    · exact (leaveRun_tables h).law
  · exact h
  · next hm _ => exact (enterStop_tables h hm).law
  · next hm _ => exact (h.setMode (h.idle (by rw [hm]; decide)) .config).law
  · exact h

end

/-! ### Every command -/

/-- Every command answers a state whose tables are lawful. -/
theorem exec_tableLaw (c : Instr) {s t : State} (h : s.TableLaw) (e : exec c s = .next t) : t.TableLaw := by
  have hin : s.TablesIn s.mode := ⟨rfl, h⟩
  have order {b : Bool} {room tag kind : Nat} {d : State → Verdict}
      (hd : ∀ x, x.TablesIn x.mode → (d x).state.TablesIn x.mode)
      (e : (.next (takeOrder b room tag kind d s) : Host.Outcome State Fault Refusal) = .next t) : t.TableLaw := by
    cases e; exact takeOrder_tableLaw b room tag kind h fun x hx => (hd x ⟨rfl, hx⟩).law
  have ends {x : State} (hx : x.TablesIn s.mode) (e : (.next x : Host.Outcome State Fault Refusal) = .next t) :
      t.TableLaw := by
    cases e; exact hx.law
  have misses {count : PollEntry → PollEntry} (hcount : ∀ p : PollEntry, p.Carries (count p)) :
      (endPoll (fun en x => markMiss en count x) s).TablesIn s.mode :=
    endPoll_tables hin fun en _ => markMiss_tables en hcount
  cases c with
  | pinReset =>
    cases e
    exact reset_tableLaw.congr rfl
  | cellDiscarded bytes => exact ends (discardCell_tables bytes hin) e
  | unknownOrder bytes =>
    refine ends ?_ e
    split
    · exact answerMalformed_tables bytes hin
    · exact hin
  | video r line frameStart pixels => exact ends (takeMedia_tables hin fun x hx => hx.congr (updRoom_tablePart x r _)) e
  | audio r endFlag samples => exact ends (takeMedia_tables hin fun _ => audioCell_tables r endFlag samples) e
  | appendLines r tag bank first recs => exact order (fun _ => linesOrder_tables r bank first recs) e
  | appendSyllables r tag bank first recs =>
    exact order (fun _ => appendOrder_tables (fun _ _ hx => hx) r bank first recs) e
  | appendGuide r tag bank first recs =>
    exact order (fun _ => appendOrder_tables (fun _ _ hx => hx) r bank first recs) e
  | appendFont tag first count records => exact order (fun _ => fontAppendOrder_tables first count records) e
  | appendLadder tag first bounds => exact order (fun _ => ladderOrder_tables first bounds) e
  | setMode tag mode => cases e; exact takeOrder_tableLaw _ _ _ _ h fun _ => setModeOrder_tableLaw mode
  | chipParam tag param value => exact order (fun _ => chipParamOrder_tables param value) e
  | slotMap tag direction slot target => exact order (fun _ => slotMapOrder_tables direction slot target) e
  | pollEntry tag entry enabled address room =>
    exact order (fun _ => pollEntryOrder_tables entry enabled address room) e
  | fontClear tag height space missing => exact order (fun _ => fontClearOrder_tables height space missing) e
  | readChip tag => exact order (fun _ hx => hx) e
  | readRoom r tag => exact order (fun _ hx => hx) e
  | readBank r tag bank => exact order (fun _ => readBankOrder_tables r bank) e
  | readRequestList r tag => exact order (fun _ hx => hx) e
  | readScores r tag => exact order (fun _ hx => hx) e
  | readCounters room tag =>
    cases room with
    | none => exact order (fun _ hx => hx) e
    | some r => exact order (fun _ hx => hx) e
  | cue r tag bank ticket => exact order (fun _ => cueOrder_tables r bank ticket) e
  | start r tag => exact order (fun _ => startOrder_tables r) e
  | pause r tag => exact order (fun _ => moveOrder_tables r .playing .held) e
  | resume r tag => exact order (fun _ => moveOrder_tables r .held .playing) e
  | stop r tag => exact order (fun _ => stopOrder_tables r) e
  | haltAtLine r tag => exact order (fun _ => haltOrder_tables r) e
  | roomReset r tag => exact order (fun _ => resetRoom_tables r) e
  | calibrate r tag => exact order (fun _ => calibrateOrder_tables r) e
  | roomParam r tag setting => exact order (fun _ => roomParamOrder_tables r setting) e
  | bankOpen r tag bank songId lines syllables notes =>
    exact order (fun _ => bankOpenOrder_tables r bank songId lines syllables notes) e
  | bankClose r tag bank => exact order (fun _ => bankCloseOrder_tables r bank) e
  | bankClear r tag bank => exact order (fun _ => bankClearOrder_tables r bank) e
  | reqAccept r tag ticket position =>
    exact order (fun _ hx => withEntry_tables r ticket hx fun en => acceptEntry_tables r ticket position en hx) e
  | reqPosition r tag ticket position =>
    exact order (fun _ hx => withEntry_tables r ticket hx fun en => positionEntry_tables r ticket position en hx) e
  | reqRefuse r tag ticket reason => exact order (fun _ => refuseOrder_tables r ticket reason) e
  | reqDrop r tag ticket => exact order (fun _ hx => withEntry_tables r ticket hx fun en => dropOrder_tables r en hx) e
  | samplePeriod inputs roomOrder offerOrder => exact ends (samplePeriod_tables inputs roomOrder offerOrder hin) e
  | songPositionLimit r => exact ends (songPositionLimit_tables r hin) e
  | songTick r =>
    refine ends ?_ e
    split
    · exact sendIfIdle_tables (songTick_tables r hin)
    · exact hin
  | analysisComplete => exact ends (analysisComplete_tables hin) e
  | calTimeout r => exact ends (calTimeout_tables r hin) e
  | bankClearingComplete r b => exact ends (bankClearingComplete_tables r b hin) e
  | fontClearingComplete => exact ends (fontClearingComplete_tables hin) e
  | panelNone payload => exact ends (goodAnswer_tables hin fun _ _ _ hx => hx) e
  | panelRequest payload =>
    exact ends (goodAnswer_tables hin fun en r _ =>
      roomMessage_tables (fun en r _ => requestMessage_tables payload en r) en r) e
  | panelCancel payload =>
    exact ends (goodAnswer_tables hin fun en r _ =>
      roomMessage_tables (fun en r _ => cancelMessage_tables payload en r) en r) e
  | panelStopMessage payload =>
    exact ends (goodAnswer_tables hin fun en r _ => roomMessage_tables (fun en r _ => stopMessage_tables en r) en r) e
  | panelUnknownKind kind payload => exact ends (goodAnswer_tables hin fun _ _ _ => pushResult_tables _ _) e
  | wrongEcho address =>
    refine ends ?_ e
    split
    · exact hin
    · exact misses fun p => counted_carries p _ _ _
  | garbled =>
    refine ends ?_ e
    exact misses fun p => counted_carries p _ _ _
  | noAnswer =>
    refine ends ?_ e
    exact misses fun p => counted_carries p _ _ _
  | venueTimeTick => exact ends (venueTimeTick_tables hin) e
  | replyTimeout r ticket => exact ends (replyTimeout_tables r ticket hin) e
  | cellSent => exact ends (hin.congr (schedule_tablePart s)) e

/-- Settles O18: each command's effect is a composition of operations that keep the law. -/
theorem stepKeepsTheTableLaw : Obligations.StepKeepsTheTableLaw := by
  intro s t h e
  unfold step at e
  split at e
  · cases e; exact h
  · refine exec_tableLaw _ ?_ e
    exact h.congr rfl

end Sys2Proof.Machine
end

section
/-! PROOFS. Glyph records: their checks, their bytes and the table with them (O35), and APPEND to the font (O34). -/

namespace Sys2Proof.Machine

/-! ### The checks of a record (R49) -/

/-- R50: the table with one more record. -/
def GlyphTable.joined (t : GlyphTable) (g : Glyph) : GlyphTable :=
  { t with
    glyphs := t.glyphs ++ [g], lastCode := some g.code, coverageUsed := t.coverageUsed + g.width * t.height }

/-- R49, check 1: a code is above the last code, where the table has one. -/
theorem code_le_lastCode_iff (t : GlyphTable) (g : Glyph) :
    (g.code = 0 ∨ g.code ≤ t.lastCode.getD 0) ↔ (g.code = 0 ∨ ∃ last, t.lastCode = some last ∧ g.code ≤ last) := by
  cases t.lastCode <;> simp

theorem takeGlyph_badCode {t : GlyphTable} {g : Glyph}
    (h : g.code = 0 ∨ ∃ last, t.lastCode = some last ∧ g.code ≤ last) : takeGlyph t g = .error .sequence :=
  if_pos ((code_le_lastCode_iff t g).mpr h)

/-- R49: the checks that follow that of the code. -/
theorem takeGlyph_goodCode {t : GlyphTable} {g : Glyph} (h0 : g.code ≠ 0)
    (h : ∀ last, t.lastCode = some last → last < g.code) :
    takeGlyph t g =
      if g.width < 1 ∨ 64 < g.width ∨ g.advance < 1 ∨ 80 < g.advance then .error .range
      else if 2097152 < t.coverageUsed + g.width * t.height then .error .capacity
      else .ok (t.joined g) := by
  refine if_neg fun hbad => ?_
  rcases (code_le_lastCode_iff t g).mp hbad with e | ⟨last, e, hle⟩
  · exact h0 e
  · exact Nat.not_lt.mpr hle (h last e)

/-- A record that is taken joins the table. -/
theorem takeGlyph_ok {t u : GlyphTable} {g : Glyph} (e : takeGlyph t g = .ok u) : u = t.joined g := by
  unfold takeGlyph at e
  split at e
  · cases e
  split at e
  · cases e
  split at e
  · cases e
  · cases e; rfl

/-! ### The records of a cell, one after another (R50) -/

/-- Records are taken when the first is and the others join the table it leaves. -/
theorem foldlM_takeGlyph_cons {t u : GlyphTable} {g : Glyph} {gs : List Glyph}
    (h : (g :: gs).foldlM takeGlyph t = .ok u) : ∃ c, takeGlyph t g = .ok c ∧ gs.foldlM takeGlyph c = .ok u := by
  rw [List.foldlM_cons] at h
  cases hc : takeGlyph t g with
  | error code => rw [hc] at h; cases h
  | ok c => rw [hc] at h; exact ⟨c, rfl, h⟩

theorem takeGlyphs_taken {t loaded : GlyphTable} {gs : List Glyph} (i : Nat) (h : gs.foldlM takeGlyph t = .ok loaded) :
    takeGlyphs t i gs = .ok loaded := by
  induction gs generalizing t i with
  | nil => cases h; rfl
  | cons g gs ih =>
    obtain ⟨c, hc, hgs⟩ := foldlM_takeGlyph_cons h
    unfold takeGlyphs
    rw [hc]
    exact ih (i + 1) hgs

/-- R50: the place in the cell and the code of the first record that fails. -/
theorem takeGlyphs_failed {t before : GlyphTable} {gs : List Glyph} {g : Glyph} {k : Nat} {code : ReplyCode} (i : Nat)
    (hg : gs[k]? = some g) (hk : (gs.take k).foldlM takeGlyph t = .ok before) (hf : takeGlyph before g = .error code) :
    takeGlyphs t i gs = .error (i + k, code) := by
  induction gs generalizing t i k with
  | nil => cases hg
  | cons x gs ih =>
    unfold takeGlyphs
    cases k with
    | zero =>
      cases hg
      cases hk
      rw [hf]
      rfl
    | succ k =>
      rw [List.take_succ_cons] at hk
      obtain ⟨c, hc, hgs⟩ := foldlM_takeGlyph_cons hk
      rw [hc]
      refine (ih (i + 1) hg hgs).trans ?_
      rw [Nat.add_right_comm, Nat.add_assoc]

/-- R50: the table that takes the records of a cell. -/
theorem foldlM_takeGlyph_ok {t u : GlyphTable} {gs : List Glyph} (h : gs.foldlM takeGlyph t = .ok u) :
    u = { t with
      glyphs := t.glyphs ++ gs
      lastCode := (gs.getLast?.map Glyph.code).or t.lastCode
      coverageUsed := t.coverageUsed + (gs.map fun g => g.width * t.height).sum } := by
  induction gs generalizing t with
  | nil => cases h; simp
  | cons g gs ih =>
    obtain ⟨c, hc, hgs⟩ := foldlM_takeGlyph_cons h
    have hlast : (gs.getLast?.map Glyph.code).or (some g.code) = ((g :: gs).getLast?.map Glyph.code).or t.lastCode := by
      rw [List.getLast?_cons]
      cases gs.getLast? <;> rfl
    rw [ih hgs, takeGlyph_ok hc]
    simp only [GlyphTable.joined, List.append_assoc, List.singleton_append, List.map_cons, List.sum_cons,
      Nat.add_assoc, hlast]

/-! ### The bytes of a record (12.3) -/

/-- A record is read off the bytes of its bitmap and the four before it. -/
theorem readGlyph_length {height : Nat} {bytes rest : List Byte} {g : Glyph}
    (e : readGlyph height bytes = some (g, rest)) : bytes.length = 4 + (g.width * height + 1) / 2 + rest.length := by
  unfold readGlyph at e
  split at e
  · dsimp only at e
    split at e
    · cases e
    · cases e
      simp only [List.length_cons, List.length_drop]
      omega
  · cases e

/-- R48, check 2: the records of a cell are as many as it announces and fill its payload. -/
theorem readGlyphs_length {height count : Nat} {bytes : List Byte} {gs : List Glyph}
    (e : readGlyphs height count bytes = some gs) :
    gs.length = count ∧ bytes.length = (gs.map fun g => 4 + (g.width * height + 1) / 2).sum := by
  induction count generalizing bytes gs with
  | zero =>
    simp only [readGlyphs] at e
    split at e
    · next he =>
      cases e
      exact ⟨rfl, by rw [List.isEmpty_iff.mp he]; rfl⟩
    · cases e
  | succ count ih =>
    simp only [readGlyphs] at e
    split at e
    · cases e
    · next g rest hg =>
      obtain ⟨tail, ht, rfl⟩ := Option.map_eq_some_iff.mp e
      obtain ⟨hcount, hbytes⟩ := ih ht
      rw [readGlyph_length hg, hbytes, List.map_cons, List.sum_cons, List.length_cons, hcount]
      exact ⟨rfl, rfl⟩

theorem coverageBytes_length (padding : Nat) (xs : List Nat) :
    (coverageBytes padding xs).length = (xs.length + 1) / 2 := by
  induction xs using coverageBytes.induct with
  | case1 => rfl
  | case2 a => simp [coverageBytes]
  | case3 a b rest ih =>
    simp only [coverageBytes, List.length_cons, ih]
    omega

/-- The two coverage values of a byte. -/
theorem nibbles_cons {a b : Nat} (ha : a ≤ 15) (hb : b ≤ 15) (bs : List Byte) :
    nibbles (BitVec.ofNat 8 (16 * a + b) :: bs) = a :: b :: nibbles bs := by
  have hbyte : (BitVec.ofNat 8 (16 * a + b)).toNat = 16 * a + b := BitVec.toNat_ofNat .. ▸ Nat.mod_eq_of_lt (by omega)
  have hhigh : (16 * a + b) / 16 = a := by omega
  have hlow : (16 * a + b) % 16 = b := by omega
  simp only [nibbles, hbyte, hhigh, hlow]

/-- R184: the coverage values are read back, whatever the padding nibble of an odd bitmap holds. -/
theorem nibbles_coverageBytes {padding : Nat} (hp : padding < 16) {xs : List Nat} (hx : ∀ a ∈ xs, a ≤ 15) :
    (nibbles (coverageBytes padding xs)).take xs.length = xs := by
  induction xs using coverageBytes.induct with
  | case1 => rfl
  | case2 a =>
    unfold coverageBytes
    rw [nibbles_cons (hx a (List.mem_singleton_self a)) (by omega)]
    rfl
  | case3 a b rest ih =>
    obtain ⟨ha, hb, hrest⟩ : a ≤ 15 ∧ b ≤ 15 ∧ ∀ c ∈ rest, c ≤ 15 := by simpa using hx
    unfold coverageBytes
    rw [nibbles_cons ha hb, List.length_cons, List.length_cons, List.take_succ_cons, List.take_succ_cons, ih hrest]

/-- A glyph whose fields fit those of a record of font height `height`. -/
structure Glyph.Fits (height : Nat) (g : Glyph) : Prop where
  code : g.code < 65536
  width : g.width < 256
  advance : g.advance < 256
  bitmap : g.bitmap.length = g.width * height
  values : ∀ a ∈ g.bitmap, a ≤ 15

theorem readGlyph_bytes {height padding : Nat} {g : Glyph} (hp : padding < 16) (h : g.Fits height) (rest : List Byte) :
    readGlyph height (g.bytes padding ++ rest) = some (g, rest) := by
  have hlen : (coverageBytes padding g.bitmap).length = (g.width * height + 1) / 2 := by
    rw [coverageBytes_length, h.bitmap]
  have hcode : beNat [BitVec.ofNat 8 (g.code / 256 ^ 1), BitVec.ofNat 8 (g.code / 256 ^ 0)] = g.code := by
    have := h.code
    simp only [beNat, List.foldl, BitVec.toNat_ofNat]
    omega
  have hbyte {n : Nat} (hn : n < 256) : (BitVec.ofNat 8 (n / 256 ^ 0)).toNat = n := by
    simp only [BitVec.toNat_ofNat]
    omega
  have hrecord : g.bytes padding ++ rest =
      BitVec.ofNat 8 (g.code / 256 ^ 1) :: BitVec.ofNat 8 (g.code / 256 ^ 0) :: BitVec.ofNat 8 (g.width / 256 ^ 0)
        :: BitVec.ofNat 8 (g.advance / 256 ^ 0) :: (coverageBytes padding g.bitmap ++ rest) := rfl
  rw [hrecord]
  unfold readGlyph
  simp only [hcode, hbyte h.width, hbyte h.advance, ← hlen]
  rw [if_neg (by simp), List.take_left, List.drop_left, ← h.bitmap, nibbles_coverageBytes hp h.values]

theorem readGlyphs_bytes {height padding : Nat} {gs : List Glyph} (hp : padding < 16) (h : ∀ g ∈ gs, g.Fits height) :
    readGlyphs height gs.length (gs.flatMap (Glyph.bytes padding)) = some gs := by
  induction gs with
  | nil => rfl
  | cons g gs ih =>
    rw [List.flatMap_cons, List.length_cons]
    unfold readGlyphs
    rw [readGlyph_bytes hp (h g List.mem_cons_self)]
    dsimp only
    rw [ih fun x hx => h x (List.mem_cons_of_mem _ hx)]
    rfl

/-- Settles O35, part by part. -/
theorem glyphRecordChecks : Obligations.GlyphRecordChecks := by
  refine ⟨fun t g => ⟨takeGlyph_badCode, fun h0 hlast => ?_⟩, fun height count bytes gs e => ?_,
    fun height padding gs hp h => ?_, fun t u gs e => ?_⟩
  · rw [takeGlyph_goodCode h0 hlast]
    refine ⟨fun hr => if_pos hr, fun hw hw' ha ha' => ?_⟩
    rw [if_neg (by omega)]
    exact ⟨fun hc => if_pos hc, fun hc => if_neg (Nat.not_lt.mpr hc)⟩
  · obtain ⟨hcount, hbytes⟩ := readGlyphs_length e
    exact ⟨hcount, hbytes, fun g hg => (readGlyphs_shape height count bytes gs e g hg).2⟩
  · refine readGlyphs_bytes hp fun g hg => ?_
    obtain ⟨hcode, hwidth, hadvance, hlen, hvalues⟩ := h g hg
    exact ⟨hcode, hwidth, hadvance, hlen, hvalues⟩
  · rw [foldlM_takeGlyph_ok e]
    refine ⟨rfl, rfl, fun g hg => ?_, rfl, rfl, rfl, rfl⟩
    simp only [hg]
    rfl

/-! ### APPEND to the font (R48) -/

section
variable {s : State} {first count : Option Nat} {records : List Byte}

theorem fontAppendOrder_busy (h : s.font.clearing = true) :
    fontAppendOrder first count records s = refuse s .busy s.font.position := if_pos h

theorem fontAppendOrder_unread (hc : s.font.clearing = false)
    (h : readFontAppend s.font.height first count records = none) :
    fontAppendOrder first count records s = refuse s .malformed s.font.position := by
  unfold fontAppendOrder
  dsimp only
  rw [hc, if_neg (by decide), h]

section
variable {f : Nat} {gs : List Glyph} (hc : s.font.clearing = false)
  (h : readFontAppend s.font.height first count records = some (f, gs))
include hc h

theorem fontAppendOrder_sequence (hf : f ≠ s.font.glyphs.length) :
    fontAppendOrder first count records s = refuse s .sequence s.font.position := by
  unfold fontAppendOrder
  dsimp only
  rw [hc, if_neg (by decide), h]
  exact if_pos hf

variable (hf : f = s.font.glyphs.length)
include hf

theorem fontAppendOrder_capacity (hn : 4096 < s.font.glyphs.length + gs.length) :
    fontAppendOrder first count records s = refuse s .capacity s.font.position := by
  unfold fontAppendOrder
  dsimp only
  rw [hc, if_neg (by decide), h]
  exact (if_neg (not_not.mpr hf)).trans (if_pos hn)

variable (hn : s.font.glyphs.length + gs.length ≤ 4096)
include hn

/-- R50: an APPEND is refused whole at the first record that fails. -/
theorem fontAppendOrder_failed {before : GlyphTable} {g : Glyph} {i : Nat} {code : ReplyCode} (hg : gs[i]? = some g)
    (hb : (gs.take i).foldlM takeGlyph s.font = .ok before) (he : takeGlyph before g = .error code) :
    fontAppendOrder first count records s = refuse s code (s.font.position ++ num 2 (f + i)) := by
  unfold fontAppendOrder
  dsimp only
  rw [hc, if_neg (by decide), h]
  refine (if_neg (not_not.mpr hf)).trans ((if_neg (Nat.not_lt.mpr hn)).trans ?_)
  rw [takeGlyphs_failed 0 hg hb he, Nat.zero_add]

/-- R50: an APPEND whose every record joins the table is taken. -/
theorem fontAppendOrder_loaded {loaded : GlyphTable} (hl : gs.foldlM takeGlyph s.font = .ok loaded) :
    fontAppendOrder first count records s = accept { s with font := loaded } loaded.position := by
  unfold fontAppendOrder
  dsimp only
  rw [hc, if_neg (by decide), h]
  refine (if_neg (not_not.mpr hf)).trans ((if_neg (Nat.not_lt.mpr hn)).trans ?_)
  rw [takeGlyphs_taken 0 hl]

end

theorem readFontAppend_missing {height : Nat} (h : first = none ∨ count = none) :
    readFontAppend height first count records = none := by
  unfold readFontAppend
  split
  · rcases h with h | h <;> cases h
  · rfl

end

/-- Settles O34, check by check. -/
theorem fontAppendsAreTakenWholeOrRefused : Obligations.FontAppendsAreTakenWholeOrRefused := by
  intro tag first count records s h
  have answers {t : State} {code : ReplyCode} {data : List Byte}
      (e : fontAppendOrder first count records s.countIn = ⟨t.countIn, code, data⟩) :
      exec (.appendFont tag first count records) s = .next (t.replied 15 tag 4 code data) :=
    congrArg Host.Outcome.next (chipOrder_replied h e)
  have refused {code : ReplyCode}
      (e : fontAppendOrder first count records s.countIn = refuse s.countIn code s.font.position) :
      exec (.appendFont tag first count records) s = .next (s.replied 15 tag 4 code
        (beBytes 2 s.font.glyphs.length ++ beBytes 3 s.font.coverageUsed ++ [])) := by
    rw [List.append_nil]; exact answers e
  refine ⟨fun hc => refused (fontAppendOrder_busy hc),
    fun hc hm => refused (fontAppendOrder_unread hc (readFontAppend_missing hm)), ?_⟩
  rintro f n rfl rfl
  refine ⟨fun hc hr => refused (fontAppendOrder_unread hc (congrArg (Option.map _) hr)), fun gs hc hr => ?_⟩
  have hread : readFontAppend s.font.height (some f) (some n) records = some (f, gs) := congrArg (Option.map _) hr
  obtain ⟨rfl, _⟩ := readGlyphs_length hr
  exact ⟨fun hf => refused (fontAppendOrder_sequence hc hread hf),
    fun hf hn => refused (fontAppendOrder_capacity hc hread hf hn),
    fun hf hn => ⟨fun i g before code hg hb he =>
        answers (fontAppendOrder_failed (s := s.countIn) hc hread hf hn hg hb he),
      fun loaded hl =>
        answers (t := { s with font := loaded }) (fontAppendOrder_loaded (s := s.countIn) hc hread hf hn hl)⟩⟩

end Sys2Proof.Machine
end

section
/-! PROOFS. The layout of a lyric line: where its glyphs are placed and which of them are drawn (O24). -/

namespace Sys2Proof.Machine

/-! ### The placed glyphs (R81) -/

section
variable (l : FrameLatch) (glyphs : List Glyph)

theorem placeCodes_length (syllableX fill x : Nat) (cs : List Nat) :
    (placeCodes l glyphs syllableX fill x cs).length = cs.length := by
  induction cs generalizing x with
  | nil => rfl
  | cons c cs ih => simp only [placeCodes, List.length_cons, ih]

/-- A code of a syllable stands where the codes before it have moved the pen. -/
theorem placeCodes_get (syllableX fill x : Nat) (codes : List Nat) (c : Nat) (later : List Nat) :
    (placeCodes l glyphs syllableX fill x (codes ++ c :: later))[codes.length]? = some
      { x := x + (codes.map (advanceOf l glyphs)).sum, width := widthOf l glyphs c
        bitmap := (lookupGlyph glyphs c).map Glyph.bitmap, syllableX := syllableX, fill := fill } := by
  induction codes generalizing x with
  | nil => rfl
  | cons d codes ih =>
    rw [List.cons_append, placeCodes, List.length_cons, List.getElem?_cons_succ, ih, List.map_cons, List.sum_cons,
      Nat.add_assoc]

theorem placeSyllables_length (x : Nat) (xs : List Syllable) :
    (placeSyllables l glyphs x xs).length = (xs.flatMap Syllable.codes).length := by
  induction xs generalizing x with
  | nil => rfl
  | cons y xs ih =>
    rw [placeSyllables, List.length_append, placeCodes_length, ih, List.flatMap_cons, List.length_append]

/-- A code of a line stands where the syllables before its own, and the codes before it, have moved the pen. -/
theorem placeSyllables_get (x : Nat) (before rest : List Syllable) (y : Syllable) {codes later : List Nat} {c : Nat}
    (hy : y.codes = codes ++ c :: later) :
    (placeSyllables l glyphs x (before ++ y :: rest))[(before.flatMap Syllable.codes).length + codes.length]? = some
      { x := x + (before.map (syllableAdvance l glyphs)).sum + (codes.map (advanceOf l glyphs)).sum
        width := widthOf l glyphs c
        bitmap := (lookupGlyph glyphs c).map Glyph.bitmap
        syllableX := x + (before.map (syllableAdvance l glyphs)).sum
        fill := fillOf l y.start y.duration (syllableWidth l glyphs y) } := by
  induction before generalizing x with
  | nil =>
    have hlt : codes.length < y.codes.length := by rw [hy]; simp
    simp only [List.nil_append, List.flatMap_nil, List.length_nil, Nat.zero_add, List.map_nil, List.sum_nil,
      Nat.add_zero, placeSyllables]
    rw [List.getElem?_append_left (by rwa [placeCodes_length]), hy, placeCodes_get]
  | cons z before ih =>
    rw [List.cons_append, placeSyllables, List.flatMap_cons, List.length_append, List.getElem?_append_right
      (by rw [placeCodes_length]; omega), placeCodes_length, Nat.add_assoc, Nat.add_sub_cancel_left, ih, List.map_cons,
      List.sum_cons, ← Nat.add_assoc]

end

/-! ### The drawn glyphs (R82, R83) -/

/-- The elements taken while they meet `p` are the first ones, up to the first that does not. -/
theorem takeWhile_eq_take {α : Type} (p : α → Bool) (xs : List α) :
    ∃ n, xs.takeWhile p = xs.take n ∧ (∀ a ∈ xs.take n, p a = true) ∧ ∀ a, xs[n]? = some a → p a = false := by
  have htake := List.takeWhile_eq_take_findIdx_not (xs := xs) (p := p)
  refine ⟨xs.findIdx fun a => !p a, htake, fun a ha => ?_, fun a ha => ?_⟩
  · rw [← htake] at ha
    exact List.mem_takeWhile_imp ha
  · obtain ⟨hlt, rfl⟩ := List.getElem?_eq_some_iff.mp ha
    simpa using List.findIdx_getElem (w := hlt)

section
variable {l : FrameLatch} {glyphs : List Glyph} {xs : List Syllable}

theorem drawnGlyphs_fitting (h : lineWidth l glyphs xs ≤ l.bandW) :
    drawnGlyphs l glyphs xs = placeSyllables l glyphs (lineStart l glyphs xs) xs :=
  if_neg (by simpa [overflowed] using h)

theorem overflowed_of_wide (h : l.bandW < lineWidth l glyphs xs) : overflowed l glyphs xs = true := decide_eq_true h

theorem drawnGlyphs_dropped (h : l.bandW < lineWidth l glyphs xs) (hd : l.lineOverflow = .drop) :
    drawnGlyphs l glyphs xs = [] := by
  unfold drawnGlyphs
  dsimp only
  rw [if_pos (overflowed_of_wide h), hd]

/-- R83: in CLIP mode the first glyph that reaches past the band's right edge is left out with every glyph after it. -/
theorem drawnGlyphs_clipped (h : l.bandW < lineWidth l glyphs xs) (hc : l.lineOverflow = .clip) :
    let placed := placeSyllables l glyphs (lineStart l glyphs xs) xs
    ∃ n, drawnGlyphs l glyphs xs = placed.take n
      ∧ (∀ g ∈ placed.take n, g.x + g.width ≤ l.bandX + l.bandW)
      ∧ ∀ g, placed[n]? = some g → l.bandX + l.bandW < g.x + g.width := by
  intro placed
  obtain ⟨n, htake, hin, hout⟩ :=
    takeWhile_eq_take (fun g : Placed => decide (g.x + g.width ≤ l.bandX + l.bandW)) placed
  refine ⟨n, ?_, fun g hg => of_decide_eq_true (hin g hg), fun g hg => ?_⟩
  · unfold drawnGlyphs
    dsimp only
    rw [if_pos (overflowed_of_wide h), hc]
    exact htake
  · exact Nat.lt_of_not_le (of_decide_eq_false (hout g hg))

end

/-- Settles O24: the terms of the statement are the model's advances, widths and pen start. -/
theorem lyricLinesAreLaidOut : Obligations.LyricLinesAreLaidOut := by
  intro l glyphs syllables found advance width moved total left
  have hadvance : advance = advanceOf l glyphs := funext fun c => by
    show _ = ((found c).map Glyph.advance).getD l.missingAdvance
    dsimp only [advance]
    cases found c <;> rfl
  have hwidth : width = widthOf l glyphs := funext fun c => by
    show _ = ((found c).map Glyph.width).getD l.missingAdvance
    dsimp only [width]
    cases found c <;> rfl
  have hmoved : moved = syllableAdvance l glyphs := funext fun x => by
    dsimp only [moved]
    rw [hadvance]
    rfl
  have htotal : total = lineWidth l glyphs syllables := by
    dsimp only [total]
    rw [hmoved]
    rfl
  have hleft : left = lineStart l glyphs syllables := by
    dsimp only [left]
    rw [htotal]
    simp [lineStart, overflowed]
  rw [hleft, htotal, hmoved, hwidth, hadvance]
  refine ⟨rfl, placeSyllables l glyphs (lineStart l glyphs syllables) syllables, placeSyllables_length .., ?_,
    drawnGlyphs_fitting, drawnGlyphs_dropped, drawnGlyphs_clipped⟩
  rintro before x rest codes c later rfl hx
  exact placeSyllables_get l glyphs _ before rest x hx

end Sys2Proof.Machine
end

section
/-! PROOFS. The blend of a pixel, the wipe of a syllable and the residual of a scroll (O25). -/

namespace Sys2Proof.Machine

/-! ### The blend (R87) -/

section
variable {a : Nat}

/-- R87: the weighted mean of two bytes is a byte, so that no channel wraps. -/
theorem blendChannel_toNat (h : a ≤ 15) (fg bg : Byte) :
    (blendChannel a fg bg).toNat = (fg.toNat * a + bg.toNat * (15 - a) + 7) / 15 := by
  have hfg : fg.toNat * a ≤ 255 * a := Nat.mul_le_mul_right a (Nat.le_of_lt_succ fg.isLt)
  have hbg : bg.toNat * (15 - a) ≤ 255 * (15 - a) := Nat.mul_le_mul_right _ (Nat.le_of_lt_succ bg.isLt)
  unfold blendChannel
  rw [BitVec.toNat_ofNat]
  exact Nat.mod_eq_of_lt (by omega)

theorem blendChannel_zero (fg bg : Byte) : blendChannel 0 fg bg = bg := by
  apply BitVec.eq_of_toNat_eq
  rw [blendChannel_toNat (by decide)]
  omega

theorem blendChannel_full (fg bg : Byte) : blendChannel 15 fg bg = fg := by
  apply BitVec.eq_of_toNat_eq
  rw [blendChannel_toNat (by decide)]
  omega

end

theorem blend_zero (fg bg : Rgb) : blend 0 fg bg = bg := by
  unfold blend
  simp only [blendChannel_zero]

theorem blend_full (fg bg : Rgb) : blend 15 fg bg = fg := by
  unfold blend
  simp only [blendChannel_full]

/-! ### The fill (R85) -/

section
variable {l : FrameLatch} {start duration : Nat}

theorem fillOf_preview (w : Nat) (h : l.cls = .preview) : fillOf l start duration w = 0 := if_pos h

theorem fillOf_before (w : Nat) (ht : l.clock < start) : fillOf l start duration w = 0 := by
  unfold fillOf
  rw [if_pos ht, ite_self]

theorem fillOf_during (w : Nat) (h : l.cls ≠ .preview) (hs : start ≤ l.clock) (he : l.clock < start + duration) :
    fillOf l start duration w = w * (l.clock - start) / duration := by
  unfold fillOf
  rw [if_neg h, if_neg (Nat.not_lt.mpr hs), if_neg (Nat.not_le.mpr he)]

theorem fillOf_after (w : Nat) (h : l.cls ≠ .preview) (hs : start ≤ l.clock) (he : start + duration ≤ l.clock) :
    fillOf l start duration w = w := by
  unfold fillOf
  rw [if_neg h, if_neg (Nat.not_lt.mpr hs), if_pos he]

theorem fillOf_le (l : FrameLatch) (start duration w : Nat) : fillOf l start duration w ≤ w := by
  by_cases hp : l.cls = .preview
  · rw [fillOf_preview w hp]
    exact Nat.zero_le w
  rcases Nat.lt_or_ge l.clock start with hs | hs
  · rw [fillOf_before w hs]
    exact Nat.zero_le w
  rcases Nat.lt_or_ge l.clock (start + duration) with he | he
  · rw [fillOf_during w hp hs he, Nat.mul_comm]
    exact Nat.div_le_of_le_mul (Nat.mul_le_mul_right w (by omega))
  · rw [fillOf_after w hp hs he]

end

/-! ### The residual (R67) -/

/-- R67: from the scroll's start on, the residual is a subtraction that stops at 0. -/
theorem residualOf_of_le {t start : Nat} (pitch len : Nat) (h : start ≤ t) :
    residualOf pitch t start len = if len = 0 then 0 else pitch - pitch * (t - start) / len := by
  have hmoved : (pitch : Int) * ((t : Int) - start) / len = (pitch * (t - start) / len : Nat) := by
    rw [← Int.ofNat_sub h, Int.natCast_div, Int.natCast_mul]
  unfold residualOf
  rw [hmoved]
  split
  · rfl
  · omega

/-- R67: at the scroll's end the whole pitch has been taken back. -/
theorem pitch_le_scrolled {pitch moved len : Nat} (hlen : len ≠ 0) (h : len ≤ moved) : pitch ≤ pitch * moved / len :=
  (Nat.le_div_iff_mul_le (Nat.pos_of_ne_zero hlen)).mpr (Nat.mul_le_mul_left pitch h)

/-- Settles O25. -/
theorem blendFillAndResidual : Obligations.BlendFillAndResidual := by
  refine ⟨fun a fg bg ha => ⟨blendChannel_toNat ha .., blendChannel_toNat ha .., blendChannel_toNat ha ..,
      blend_zero fg bg, blend_full fg bg⟩,
    fun l start duration w => ⟨fillOf_le l start duration w, fillOf_preview w, fun _ => fillOf_before w,
      fun h => fillOf_during w (by simp [h]), fun h => fillOf_after w (by simp [h])⟩,
    fun pitch t start len h => ?_⟩
  rw [residualOf_of_le pitch len h, residualOf_of_le pitch len (Nat.le_refl start)]
  refine ⟨?never_above, fun hlen => ?at_start, fun ht => ?scrolling, fun ht => ?ended⟩
  case never_above =>
    split
    · exact Nat.zero_le _
    · exact Nat.sub_le _ _
  case at_start => rw [if_neg (by omega), Nat.sub_self, Nat.mul_zero, Nat.zero_div, Nat.sub_zero]
  case scrolling => exact if_neg (by omega)
  case ended =>
    split
    · rfl
    · next hlen => exact Nat.sub_eq_zero_of_le (pitch_le_scrolled hlen (by omega))

end Sys2Proof.Machine
end

section
/-! PROOFS. The frame latch of a frame-start line (O22), and the lyric line drawn on a video line (O23). -/

namespace Sys2Proof.Machine

/-! ### An accepted line (R74) -/

theorem exec_video_accepted {s : State} {line : Nat} {pixels : List Rgb} (r : RoomId) (frameStart : Bool)
    (hm : s.mode ≠ .stop) (hl : line ≤ 1079) (hp : pixels.length ≤ 1920) :
    exec (.video r line frameStart pixels) s =
      .next (s.countIn.setRoom r ((s.room r).videoLine s.mode s.font line frameStart pixels)) := by
  have hcell : ¬(1079 < line ∨ 1920 < pixels.length) := by omega
  show Host.Outcome.next (takeMedia (videoCell r line frameStart pixels) s) = _
  unfold takeMedia
  rw [if_neg hm]
  exact congrArg (fun x => Host.Outcome.next (s.countIn.setRoom r x)) (if_neg hcell)

/-! ### What drawing keeps of the latch (R75, R88) -/

/-- What a line drawn leaves as it is: the latch but for the lyric lines laid out, and the counts of frames. -/
def Room.frameTaken (rm : Room) : Option FrameLatch × Counter × Counter :=
  (rm.latch.map fun l => { l with laidOut := [] }, rm.overlay.frameStarts, rm.overlay.overlayFrames)

theorem layOut_frameTaken (glyphs : List Glyph) (bank : Bank) (rm : Room) (i : Nat) :
    (rm.layOut glyphs bank i).frameTaken = rm.frameTaken := by
  unfold Room.layOut
  split
  · next l _ hl _ =>
    split
    · rfl
    · unfold Room.frameTaken
      rw [hl]
      rfl
  · rfl

theorem videoLine_frameTaken (rm : Room) (m : Mode) (t : GlyphTable) (line : Nat) (frameStart : Bool)
    (pixels : List Rgb) :
    (rm.videoLine m t line frameStart pixels).frameTaken =
      (if frameStart then rm.takeLatch m t else rm).frameTaken := by
  show ((if frameStart then rm.takeLatch m t else rm).drawVideo m t line pixels).2.frameTaken = _
  unfold Room.drawVideo
  split
  · rfl
  split
  · rfl
  · exact foldl_keeps _ Room.frameTaken (layOut_frameTaken _ _) _ _

/-- A frame-start line leaves the latch it has taken, with the lyric lines it has laid out. -/
theorem videoLine_takes (rm : Room) (m : Mode) (t : GlyphTable) (line : Nat) (pixels : List Rgb) :
    let x := rm.videoLine m t line true pixels
    (∃ laidOut, x.latch = some { rm.frameLatch m t with laidOut := laidOut })
      ∧ x.overlay.frameStarts = rm.overlay.frameStarts + 1
      ∧ x.overlay.overlayFrames =
        bump rm.overlay.overlayFrames (if frameClass m rm.ctx.state = .pass then 0 else 1) := by
  intro x
  have h : x.frameTaken = (rm.takeLatch m t).frameTaken := videoLine_frameTaken rm m t line true pixels
  obtain ⟨hlatch, hcounts⟩ := Prod.ext_iff.mp h
  obtain ⟨hstarts, hframes⟩ := Prod.ext_iff.mp hcounts
  obtain ⟨l, hl, htaken⟩ := Option.map_eq_some_iff.mp hlatch
  have hrest : { l with laidOut := [] } = rm.frameLatch m t := htaken
  exact ⟨⟨l.laidOut, hl.trans (congrArg (fun x => some { x with laidOut := l.laidOut }) hrest)⟩, hstarts, hframes⟩

/-! ### The frame class (R77) -/

theorem frameClass_overlay {c : RoomContext} (h : c.singing = true) : frameClass .run c.state = .overlay := by
  rcases c.singing_iff.mp h with hs | hs <;> rw [hs] <;> rfl

theorem frameClass_pass {m : Mode} {st : RoomState}
    (h : m = .config ∨ st = .off ∨ st = .idle ∨ st = .calibrating ∨ st = .ending) : frameClass m st = .pass := by
  unfold frameClass
  rcases h with rfl | rfl | rfl | rfl | rfl
  · rfl
  all_goals cases m <;> rfl

section
variable {rm : Room} {m : Mode} (t : GlyphTable)

theorem frameLatch_overlay (h : frameClass m rm.ctx.state = .overlay) :
    let l := rm.frameLatch m t
    l.cls = .overlay ∧ l.bank = rm.ctx.currentBank
      ∧ (∀ b, l.bank = some b → l.lineFrontier = (rm.bank b).lines.length)
      ∧ l.current = rm.ctx.lyric.current ∧ l.finished = rm.ctx.lyric.finished
      ∧ l.residual = residualOf l.pitch l.clock rm.ctx.lyric.scrollStart rm.ctx.lyric.scrollLength := by
  unfold Room.frameLatch
  simp only [h, Room.latchedBank, decide_true, if_true, Bool.true_and]
  exact ⟨trivial, trivial, fun b hb => by rw [hb]; rfl, trivial, trivial, trivial⟩

theorem frameLatch_preview (h : frameClass m rm.ctx.state = .preview) :
    let l := rm.frameLatch m t
    l.cls = .preview ∧ l.bank = rm.ctx.cuedBank
      ∧ (∀ b, l.bank = some b → l.lineFrontier = (rm.bank b).lines.length)
      ∧ l.current = 0 ∧ l.finished = false ∧ l.residual = 0 := by
  unfold Room.frameLatch
  simp only [h, Room.latchedBank]
  exact ⟨trivial, trivial, fun b hb => by rw [hb]; rfl, rfl, rfl, rfl⟩

theorem frameLatch_pass (h : frameClass m rm.ctx.state = .pass) :
    (rm.frameLatch m t).cls = .pass ∧ (rm.frameLatch m t).bank = none := by
  unfold Room.frameLatch
  simp only [h, Room.latchedBank]
  exact ⟨trivial, trivial⟩

end

/-- Settles O22. -/
theorem frameStartTakesTheLatch : Obligations.FrameStartTakesTheLatch := by
  intro r line pixels s hm hl hp
  obtain ⟨⟨laidOut, hlatch⟩, hstarts, hframes⟩ := videoLine_takes (s.room r) s.mode s.font line pixels
  refine ⟨_, { (s.room r).frameLatch s.mode s.font with laidOut := laidOut }, exec_video_accepted r true hm hl hp, ?_⟩
  rw [room_setRoom_same]
  refine ⟨hlatch, rfl, rfl, rfl, rfl, rfl, rfl, rfl, rfl, rfl, rfl, rfl, rfl, rfl, rfl, rfl, hstarts,
    fun hrun hsing => ?overlay, fun hrun hcued => ?preview, fun h => ?pass⟩
  case overlay =>
    have hc : frameClass s.mode (s.room r).ctx.state = .overlay := hrun ▸ frameClass_overlay hsing
    obtain ⟨hcls, hbank, hfrontier, hcurrent, hfinished, hresidual⟩ := frameLatch_overlay s.font hc
    rw [hframes, hc]
    exact ⟨hcls, hbank, hfrontier, hcurrent, hfinished, hresidual, rfl⟩
  case preview =>
    have hc : frameClass s.mode (s.room r).ctx.state = .preview := by rw [hrun, hcued]; rfl
    obtain ⟨hcls, hbank, hfrontier, hcurrent, hfinished, hresidual⟩ := frameLatch_preview s.font hc
    rw [hframes, hc]
    exact ⟨hcls, hbank, hfrontier, hcurrent, hfinished, hresidual, rfl⟩
  case pass =>
    have hc : frameClass s.mode (s.room r).ctx.state = .pass := frameClass_pass h
    obtain ⟨hcls, hbank⟩ := frameLatch_pass s.font hc
    rw [hframes, hc]
    exact ⟨hcls, hbank, BitVec.add_zero _⟩

end Sys2Proof.Machine
end

section
/-! PROOFS. The lyric line drawn on a video line: which line it meets, its pixels and its counts (O23). -/

namespace Sys2Proof.Machine

/-! ### The lyric line a video line meets (R68, R84) -/

section
variable (l : FrameLatch)

theorem mem_drawnLines (i : Nat) :
    i ∈ l.drawnLines ↔ l.finished = false ∧ i < l.lineFrontier
      ∧ (l.current ≤ i ∧ i < l.current + l.rows ∨ i + 1 = l.current ∧ 0 < l.residual) := by
  unfold FrameLatch.drawnLines
  cases l.finished with
  | true => simp
  | false =>
    rw [if_neg Bool.false_ne_true, List.mem_filter, List.mem_append, List.mem_range'_1, decide_eq_true_iff]
    split
    · simp only [List.mem_singleton, true_and]
      omega
    · simp only [List.not_mem_nil, false_or, true_and]
      omega

theorem drawnLines_nodup : l.drawnLines.Nodup := by
  unfold FrameLatch.drawnLines
  split
  · exact .nil
  refine List.Nodup.filter _ (List.Nodup.append (by split <;> simp) (List.nodup_range' ..) fun i hi hr => ?_)
  have hc := List.mem_range'_1.mp hr
  split at hi
  · have := List.mem_singleton.mp hi
    omega
  · exact List.not_mem_nil hi

/-- R68: the glyph rows of a lyric line end above the top of every later line, since the pitch is no less than Hf. -/
theorem top_add_height_le {i j : Nat} (hp : l.height ≤ l.pitch) (h : i < j) : l.top i + l.height ≤ l.top j := by
  have hstep : (1 : Int) * l.pitch ≤ ((j : Int) - i) * l.pitch :=
    Int.mul_le_mul_of_nonneg_right (by omega) (Int.natCast_nonneg _)
  have hsplit : ((j : Int) - i) * l.pitch = ((j : Int) - l.current) * l.pitch - ((i : Int) - l.current) * l.pitch := by
    rw [← Int.sub_mul]
    congr 1
    omega
  unfold FrameLatch.top
  omega

variable {l}

/-- R68, R84: no two lyric lines meet one video line. -/
theorem rowAt_unique {i j y : Nat} (hp : l.height ≤ l.pitch) (hi : l.top i ≤ y ∧ (y : Int) < l.top i + l.height)
    (hj : j ≠ i) : l.rowAt j y = none := by
  refine if_neg fun h => ?_
  rcases Nat.lt_or_gt_of_ne hj with hlt | hgt
  · have := top_add_height_le l hp hlt
    omega
  · have := top_add_height_le l hp hgt
    omega

theorem crossing_empty {y : Nat} (h : ∀ i ∈ l.drawnLines, ¬(l.top i ≤ y ∧ (y : Int) < l.top i + l.height)) :
    l.crossing y = [] := by
  have hnone : l.drawnLines.filterMap (fun i => (l.rowAt i y).map fun row => (i, row)) = [] :=
    List.filterMap_eq_nil_iff.mpr fun i hi => by
      rw [show l.rowAt i y = none from if_neg (h i hi)]
      rfl
  unfold FrameLatch.crossing
  rw [hnone, ite_self]

/-- A list without duplicates in which one element alone has a value maps to that value. -/
theorem filterMap_one {α β : Type} {f : α → Option β} {xs : List α} {a : α} {b : β} (hn : xs.Nodup) (ha : a ∈ xs)
    (hb : f a = some b) (hrest : ∀ x, x ≠ a → f x = none) : xs.filterMap f = [b] := by
  obtain ⟨l1, l2, rfl⟩ := List.append_of_mem ha
  have hnil (ys : List α) (h : a ∉ ys) : ys.filterMap f = [] :=
    List.filterMap_eq_nil_iff.mpr fun x hx => hrest x fun e => h (e ▸ hx)
  have h1 : a ∉ l1 := fun h => List.disjoint_of_nodup_append hn h List.mem_cons_self
  have h2 : a ∉ l2 := (List.nodup_cons.mp (List.nodup_append.mp hn).2.1).1
  rw [List.filterMap_append, List.filterMap_cons, hb, hnil l1 h1, hnil l2 h2]
  rfl

theorem crossing_one {i y : Nat} (hp : l.height ≤ l.pitch) (hband : l.inBand y = true) (hi : i ∈ l.drawnLines)
    (hmet : l.top i ≤ y ∧ (y : Int) < l.top i + l.height) : l.crossing y = [(i, (y - l.top i).toNat)] := by
  unfold FrameLatch.crossing
  rw [if_pos hband]
  refine filterMap_one (drawnLines_nodup l) hi ?_ fun j hj => ?_
  · rw [show l.rowAt i y = some (y - l.top i).toNat from if_pos hmet]
    rfl
  · rw [rowAt_unique hp hmet hj]
    rfl

end

/-! ### The pixels and the counts of a drawn line (R84, R88) -/

theorem mapColumns_eq (f : Nat → Rgb → Rgb) (x : Nat) (ps : List Rgb) :
    mapColumns f x ps = ps.mapIdx fun i p => f (x + i) p := by
  induction ps generalizing x with
  | nil => rfl
  | cons p ps ih =>
    rw [mapColumns, ih, List.mapIdx_cons]
    simp only [Nat.add_zero, Nat.add_assoc, Nat.add_comm 1]

theorem drawLine_eq {l : FrameLatch} {glyphs : List Glyph} {bank : Bank} {i : Nat} {record : Line}
    (h : bank.lines[i]? = some record) (row : Nat) (pixels : List Rgb) :
    drawLine l glyphs bank pixels (i, row) = pixels.mapIdx (blendAt l record.part row
      (drawnGlyphs l glyphs (bank.covered record.firstSyllable record.syllableCount))) := by
  unfold drawLine
  simp only [h, mapColumns_eq, Nat.zero_add]

/-- R51: a code is missing when it is 0 or no record has it. -/
theorem lookupGlyph_isNone (glyphs : List Glyph) (c : Nat) :
    (lookupGlyph glyphs c).isNone = (decide (c = 0) || glyphs.all fun g => g.code != c) := by
  unfold lookupGlyph
  by_cases hc : c = 0
  · simp [hc]
  · rw [if_neg hc, decide_eq_false hc, Bool.false_or, Bool.eq_iff_iff, Option.isNone_iff_eq_none, List.find?_eq_none]
    simp

theorem bump_ite (c : Counter) (p : Prop) [Decidable p] (m n : Nat) :
    bump c (if p then m else n) = c + if p then BitVec.ofNat 32 m else BitVec.ofNat 32 n := by
  unfold bump
  rw [apply_ite (BitVec.ofNat 32)]

/-- R88: the room once a lyric line of the syllables `xs` has been laid out in the frame. -/
theorem layOut_eq {glyphs : List Glyph} {bank : Bank} {rm : Room} {l : FrameLatch} {i : Nat} {record : Line}
    (hl : rm.latch = some l) (h : bank.lines[i]? = some record) :
    let xs := bank.covered record.firstSyllable record.syllableCount
    rm.layOut glyphs bank i =
      if i ∈ l.laidOut then rm
      else { rm with
        latch := some { l with laidOut := l.laidOut ++ [i] }
        overlay := { rm.overlay with
          missingGlyph := rm.overlay.missingGlyph + BitVec.ofNat 32 (missingCount glyphs xs)
          overflowLines := rm.overlay.overflowLines + (if l.bandW < lineWidth l glyphs xs then 1 else 0) } } := by
  intro xs
  have hover : bump rm.overlay.overflowLines (if overflowed l glyphs xs then 1 else 0) =
      rm.overlay.overflowLines + (if l.bandW < lineWidth l glyphs xs then 1 else 0) := by
    simp only [overflowed, decide_eq_true_eq, bump_ite]
    rfl
  unfold Room.layOut
  simp only [hl, h]
  rw [hover]
  rfl

/-! ### The room after a line within the band (R74, R78, R84) -/

theorem drawnBank_loaded {rm : Room} {l : FrameLatch} {b : BankId} (hb : l.bank = some b) (hoff : l.bandOff = false)
    (hst : (rm.bank b).state = .filling ∨ (rm.bank b).state = .closed) : rm.drawnBank .run l = some (rm.bank b) := by
  have hloaded : (rm.bank b).loaded = true := by
    unfold Bank.loaded
    rcases hst with h | h <;> rw [h] <;> rfl
  unfold Room.drawnBank
  rw [if_pos ⟨rfl, hoff⟩, hb]
  exact if_pos hloaded

section
variable {rm : Room} {l : FrameLatch} {b : BankId} (t : GlyphTable) {y : Nat} (pixels : List Rgb)

/-- R84: with no lyric line met the pixels pass and nothing is counted. -/
theorem drawVideo_nothing (hl : rm.latch = some l) (hbank : rm.drawnBank .run l = some (rm.bank b))
    (hc : l.crossing y = []) : rm.drawVideo .run t y pixels = (pixels, rm) := by
  unfold Room.drawVideo
  simp only [hl, hbank, hc]
  rfl

/-- R84, R88: the one lyric line met is drawn and laid out. -/
theorem drawVideo_one {i row : Nat} (hl : rm.latch = some l) (hbank : rm.drawnBank .run l = some (rm.bank b))
    (hc : l.crossing y = [(i, row)]) :
    rm.drawVideo .run t y pixels =
      (drawLine l (t.glyphs.take l.glyphCount) (rm.bank b) pixels (i, row),
        rm.layOut (t.glyphs.take l.glyphCount) (rm.bank b) i) := by
  unfold Room.drawVideo
  simp only [hl, hbank, hc]
  rfl

end

/-- R75, R88: the counters of a frame that is taken. -/
theorem takeLatch_eq (rm : Room) (m : Mode) (t : GlyphTable) :
    rm.takeLatch m t = { rm with
      latch := some (rm.frameLatch m t)
      overlay := { rm.overlay with
        frameStarts := rm.overlay.frameStarts + 1
        overlayFrames := rm.overlay.overlayFrames + (if (rm.frameLatch m t).cls = .pass then 0 else 1) } } := by
  unfold Room.takeLatch
  dsimp only
  rw [bump_ite]
  rfl

/-- Settles O23: the line is accepted, its latch's bank is drawn, and its one crossing, or none, is drawn and counted. -/
theorem lyricLinesAreDrawn : Obligations.LyricLinesAreDrawn := by
  intro r line frameStart pixels l b s rm taken inForce sent bank top drawn met hm hline hpixels hl hb hoff hst hpitch
    hlow hhigh
  have hforce : (if frameStart then rm.takeLatch s.mode s.font else rm) = inForce := by
    dsimp only [inForce]
    rw [takeLatch_eq]
  have hbank : inForce.bank b = bank := by
    dsimp only [inForce]
    split <;> rfl
  have hdrawnBank : inForce.drawnBank .run l = some (inForce.bank b) :=
    drawnBank_loaded hb hoff (hbank.symm ▸ hst)
  have hexec : exec (.video r line frameStart pixels) s =
      .next (sent (inForce.drawVideo .run s.font line pixels).2 (inForce.drawVideo .run s.font line pixels).1) := by
    rw [exec_video_accepted r frameStart (by rw [hm]; decide) hline hpixels, ← hforce, hm]
    rfl
  refine ⟨fun hnone => ?nothing, ?one⟩
  case nothing =>
    have hc : l.crossing line = [] := crossing_empty fun i hi => hnone i ((mem_drawnLines l i).mp hi)
    rw [hexec, drawVideo_nothing s.font pixels hl hdrawnBank hc]
  case one =>
    intro i record hi hmet hrecord glyphs syllables row coverage sung unsung pixel missing
    have hc : l.crossing line = [(i, row)] :=
      crossing_one (by omega) (by simp [FrameLatch.inBand, hlow, hhigh]) ((mem_drawnLines l i).mpr hi) hmet
    have hmissing : missingCount glyphs syllables = missing := by
      unfold missingCount
      simp only [lookupGlyph_isNone]
      rfl
    have hpixel : blendAt l record.part row (drawnGlyphs l glyphs syllables) = pixel := by
      dsimp only [pixel, sung, unsung]
      cases record.part <;> rfl
    rw [hexec, drawVideo_one s.font pixels hl hdrawnBank hc, hbank]
    dsimp only
    rw [drawLine_eq hrecord, layOut_eq hl hrecord]
    show Host.Outcome.next (sent (if i ∈ l.laidOut then inForce else _)
      (pixels.mapIdx (blendAt l record.part row (drawnGlyphs l glyphs syllables)))) = _
    rw [hpixel, ← hmissing]
    rfl

end Sys2Proof.Machine
end

section
/-! PROOFS. The line test: the advance with its LINE_SCOREs, and the hold step (O56). -/

namespace Sys2Proof.Machine

/-! ### The line that becomes current (R56, R58) -/

/-- R56: line `k` lies after the current one, is loaded, and its advance time is reached at clock `t`. -/
def Room.reaches (rm : Room) (t k : Nat) : Prop :=
  rm.ctx.lyric.current < k ∧ ∃ l, rm.lyricLines[k]? = some l ∧ l.start ≤ t + rm.params.advanceLead

theorem qualifies_iff (rm : Room) (t k : Nat) :
    qualifies rm.lyricLines rm.ctx.lyric.current rm.params.advanceLead t k = true ↔ rm.reaches t k := by
  unfold qualifies Room.reaches
  cases rm.lyricLines[k]? with
  | none => simp
  | some l => simp

/-- The last number below `n` that meets `p`. -/
theorem getLast?_filter_range {p : Nat → Bool} {n k : Nat} (hk : k < n) (hp : p k = true)
    (hmax : ∀ j, k < j → p j = false) : ((List.range n).filter p).getLast? = some k := by
  induction n with
  | zero => omega
  | succ n ih =>
    rw [List.range_succ, List.filter_append]
    rcases Nat.lt_or_ge k n with hlt | hge
    · rw [show [n].filter p = [] by simp [hmax n hlt], List.append_nil]
      exact ih hlt
    · obtain rfl : k = n := by omega
      rw [show [k].filter p = [k] by simp [hp], List.getLast?_concat]

section
variable {rm : Room} {t : Nat}

theorem largestQualifying_some {k : Nat} (hk : rm.reaches t k) (hmax : ∀ j, k < j → ¬rm.reaches t j) :
    largestQualifying rm.lyricLines rm.ctx.lyric.current rm.params.advanceLead t = some k := by
  have hlt : k < rm.lyricLines.length := by
    obtain ⟨_, l, hl, _⟩ := hk
    exact (List.getElem?_eq_some_iff.mp hl).1
  exact getLast?_filter_range hlt ((qualifies_iff rm t k).mpr hk) fun j hj =>
    Bool.eq_false_iff.mpr fun h => hmax j hj ((qualifies_iff rm t j).mp h)

theorem largestQualifying_none (h : ∀ k, ¬rm.reaches t k) :
    largestQualifying rm.lyricLines rm.ctx.lyric.current rm.params.advanceLead t = none := by
  unfold largestQualifying
  rw [List.getLast?_eq_none_iff, List.filter_eq_nil_iff]
  exact fun k _ hq => h k ((qualifies_iff rm t k).mp hq)

end

/-! ### The line test, case by case (R57 to R59) -/

section
variable {r : RoomId} {t : Nat} {s : State}

theorem lineTest_hold (h : ∀ k, ¬(s.room r).reaches t k) : lineTest r t s = holdStep r t s := by
  unfold lineTest
  simp only [largestQualifying_none h]

theorem lineTest_halt {k : Nat} (hk : (s.room r).reaches t k) (hmax : ∀ j, k < j → ¬(s.room r).reaches t j)
    (hh : (s.room r).ctx.lyric.haltPending = true) : lineTest r t s = takeEnding r .halted s := by
  unfold lineTest
  simp only [largestQualifying_some hk hmax, hh, if_true]

theorem lineTest_advance {k : Nat} (hk : (s.room r).reaches t k) (hmax : ∀ j, k < j → ¬(s.room r).reaches t j)
    (hh : (s.room r).ctx.lyric.haltPending = false) : lineTest r t s = holdStep r t (advanceTo r k t s) := by
  unfold lineTest
  simp only [largestQualifying_some hk hmax, hh, Bool.false_eq_true, if_false]

/-! ### The hold step, case by case (R60, R61) -/

theorem holdStep_none (h : (s.room r).lyricLines[(s.room r).ctx.lyric.current]? = none) : holdStep r t s = s := by
  unfold holdStep
  simp only [h]

variable {l : Line} (h : (s.room r).lyricLines[(s.room r).ctx.lyric.current]? = some l)
include h

theorem holdStep_last_waits (hl : l.last = true) (hw : t < l.finish ∨ (s.room r).ctx.lyric.finished = true) :
    holdStep r t s = s := by
  have hn : ¬(l.finish ≤ t ∧ (s.room r).ctx.lyric.finished = false) := by
    rintro ⟨ht, hf⟩
    rcases hw with hw | hw
    · omega
    · rw [hf] at hw
      cases hw
  unfold holdStep
  simp only [h, hl, if_true, if_neg hn]

theorem holdStep_last_finishes (hl : l.last = true) (ht : l.finish ≤ t)
    (hf : (s.room r).ctx.lyric.finished = false) :
    let finished := s.updRoom r fun rm => rm.updCtx fun c => { c with lyric := { c.lyric with finished := true } }
    holdStep r t s = if (s.room r).ctx.lyric.haltPending then takeEnding r .halted finished else finished := by
  unfold holdStep
  simp only [h, hl, if_true, if_pos (And.intro ht hf)]

theorem holdStep_next_loaded (hl : l.last = false)
    (hn : (s.room r).ctx.lyric.current + 1 < (s.room r).lyricLines.length) :
    holdStep r t s =
      s.updRoom r fun rm => rm.updCtx fun c => { c with lyric := { c.lyric with starved := false } } := by
  unfold holdStep
  simp only [h, hl, Bool.false_eq_true, if_false, if_pos hn]

theorem holdStep_next_missing (hl : l.last = false)
    (hn : (s.room r).lyricLines.length ≤ (s.room r).ctx.lyric.current + 1) :
    holdStep r t s = if l.finish ≤ t then s.updRoom r fun rm => rm.updCtx RoomContext.starve else s := by
  unfold holdStep
  simp only [h, hl, Bool.false_eq_true, if_false, if_neg (Nat.not_lt.mpr hn)]

end

/-! ### Starvation (R60) -/

theorem starve_starved {c : RoomContext} (h : c.lyric.starved = true) : c.starve = c := if_pos h

theorem starve_new {c : RoomContext} (h : c.lyric.starved = false) :
    c.starve = { c with
      starvedEver := true, starvationCount := min (c.starvationCount + 1) 65535
      lyric := { c.lyric with starved := true } } := if_neg (by simp [h])

/-- A room that is starved already stays as it is. -/
theorem updRoom_starve_starved {s : State} {r : RoomId} (h : (s.room r).ctx.lyric.starved = true) :
    (s.updRoom r fun rm => rm.updCtx RoomContext.starve) = s := by
  show s.setRoom r { s.room r with ctx := (s.room r).ctx.starve } = s
  rw [starve_starved h]
  exact setRoom_room_self s r

/-! ### The reports of an advance (R58, R136) -/

/-- The LINE_SCORE of a line, as it is raised in a room. -/
def State.lineReport (s : State) (r : RoomId) (skipped : Bool) (line : Nat) : Report :=
  s.newReport (.lineScore ((s.room r).lineScore r line skipped))

section
variable {r : RoomId} {s : State}

/-- A line-score event whose report enters the queue leaves an empty stack empty. -/
theorem handLineScore_enters (line : Nat) (skipped : Bool) (h : s.reports.length < 16)
    (hk : (s.room r).stack.isEmpty = true) :
    let x := handLineScore r line skipped s
    x.reports = s.reports ++ [s.lineReport r skipped line]
      ∧ x.room r = if skipped then s.room r else (s.room r).clearLines := by
  unfold handLineScore
  dsimp only
  rw [raise_enters (r := r) rfl h hk]
  cases skipped with
  | true => exact ⟨rfl, rfl⟩
  | false => exact ⟨rfl, room_updRoom_same ..⟩

/-- The lines passed report one after another, in the room as it stands. -/
theorem handSkipped_enter (ls : List Nat) (h : s.reports.length + ls.length ≤ 16)
    (hk : (s.room r).stack.isEmpty = true) :
    (ls.foldl (fun acc j => handLineScore r j true acc) s).reports = s.reports ++ ls.map (s.lineReport r true) := by
  induction ls generalizing s with
  | nil => exact (List.append_nil _).symm
  | cons j ls ih =>
    rw [List.length_cons] at h
    obtain ⟨hreports, hroom⟩ := handLineScore_enters j true (by omega) hk
    rw [if_pos rfl] at hroom
    have hsame : (handLineScore r j true s).lineReport r true = s.lineReport r true := by
      funext i
      unfold State.lineReport State.newReport
      rw [hroom, handLineScore_venueTime]
    have hplace : (handLineScore r j true s).reports.length + ls.length ≤ 16 := by
      rw [hreports, List.length_append, List.length_singleton]
      omega
    rw [List.foldl_cons, ih hplace (hroom ▸ hk), hreports, hsame, List.append_assoc]
    rfl

/-- A skipped line's report does not read the line accumulators. -/
theorem lineScore_skipped_clearLines (rm : Room) (line : Nat) :
    rm.clearLines.lineScore r line true = rm.lineScore r line true := rfl

/-- R58, R136: an advance whose reports all enter the queue reports the line left and then each line passed. -/
theorem advanceTo_reports {k : Nat} (t : Nat) (hlt : (s.room r).ctx.lyric.current < k)
    (h : s.reports.length + (k - (s.room r).ctx.lyric.current) ≤ 16) (hk : (s.room r).stack.isEmpty = true) :
    (advanceTo r k t s).reports = s.reports ++ s.lineReport r false (s.room r).ctx.lyric.current ::
      (List.range' ((s.room r).ctx.lyric.current + 1) (k - (s.room r).ctx.lyric.current - 1)).map
        (s.lineReport r true) := by
  obtain ⟨hreports, hroom⟩ := handLineScore_enters (s.room r).ctx.lyric.current false (by omega) hk
  rw [if_neg Bool.false_ne_true] at hroom
  have hsame : (handLineScore r (s.room r).ctx.lyric.current false s).lineReport r true = s.lineReport r true := by
    funext i
    unfold State.lineReport State.newReport
    rw [hroom, handLineScore_venueTime, lineScore_skipped_clearLines]
  have hplace : (handLineScore r (s.room r).ctx.lyric.current false s).reports.length
      + (List.range' ((s.room r).ctx.lyric.current + 1) (k - (s.room r).ctx.lyric.current - 1)).length ≤ 16 := by
    rw [hreports, List.length_append, List.length_singleton, List.length_range']
    omega
  unfold advanceTo
  dsimp only
  rw [updRoom_reports, handSkipped_enter _ hplace (hroom ▸ hk), hreports, hsame, List.append_assoc]
  rfl

/-- R58: beside its room's reports an advance changes its rooms alone. -/
theorem advanceTo_eq (r : RoomId) (k t : Nat) (s : State) :
    let a := advanceTo r k t s
    a = { s with
      rooms := a.rooms, reports := a.reports
      link := { s.link with
        reportsStacked := a.link.reportsStacked, reportsReplaced := a.link.reportsReplaced } } := by
  have hpanels : (advanceTo r k t s).panels = s.panels := by
    unfold advanceTo
    dsimp only
    rw [updRoom_panels, foldl_keeps _ State.panels (fun g j => handLineScore_panels r j true g), handLineScore_panels]
  have h := eq_of_beyondRooms (advanceTo_beyond r k t s)
  rwa [hpanels] at h

end

/-! ### SONG_TICK (R57) -/

theorem songTick_atTick {r : RoomId} {s : State} (h : (s.room r).ctx.atTick = true) :
    exec (.songTick r) s = .next (lineTest r ((s.room r).ctx.position / 64) s).sendIfIdle := by
  show Host.Outcome.next (if _ then (songTick r s).sendIfIdle else s) = _
  unfold songTick
  rw [if_pos h, if_pos h]
  rfl

theorem songTick_elsewhere {r : RoomId} {s : State} (h : ¬(s.room r).ctx.atTick = true) :
    exec (.songTick r) s = .next s := congrArg Host.Outcome.next (if_neg h)

/-- Settles O56: the statement's terms are the model's, and each clause is a case of the line test or the hold step. -/
theorem lineTestsAdvanceAndHold : Obligations.LineTestsAdvanceAndHold := by
  intro r t s rm ly lines reached withLyric lane score
  have hlines : lines = rm.lyricLines := by
    dsimp only [lines, Room.lyricLines, Room.currentBank?]
    cases rm.ctx.currentBank <;> rfl
  have hreached : reached = rm.reaches t := by
    dsimp only [reached]
    rw [hlines]
    rfl
  have hscore (skipped : Bool) : s.lineReport r skipped = fun k => score k skipped := by
    cases skipped <;> rfl
  rw [hlines, hreached]
  refine ⟨lineTest_hold, fun k hk hmax => ⟨lineTest_halt hk hmax, fun hh => ?advance⟩, holdStep_none,
    fun l hl => ⟨fun hlast => ?last, fun hlast => ?notLast⟩, fun hp h0 h64 => ?tick, fun hn => ?elsewhere⟩
  case advance =>
    intro a
    obtain ⟨st, _, hroom⟩ := advanceTo_room r k t s
    refine ⟨lineTest_advance hk hmax hh, ?_, ?_, fun j hj => advanceTo_room_ne r j k t s hj, advanceTo_eq r k t s,
      fun hlen hstack => ?_⟩
    · rw [hroom]
      rfl
    · rw [hroom]
      rfl
    · rw [advanceTo_reports t hk.1 hlen hstack, hscore, hscore]
  case last =>
    exact ⟨holdStep_last_waits hl hlast, holdStep_last_finishes hl hlast⟩
  case notLast =>
    refine ⟨holdStep_next_loaded hl hlast, fun hn hw => ?_, fun hn ht hst => ?_⟩
    · rw [holdStep_next_missing hl hlast hn]
      rcases hw with hw | hst
      · exact if_neg (by omega)
      · rw [updRoom_starve_starved hst, ite_self]
    · rw [holdStep_next_missing hl hlast hn, if_pos ht]
      exact congrArg (fun c => s.setRoom r { s.room r with ctx := c }) (starve_new hst)
  case tick => exact songTick_atTick ((atTick_iff _).mpr ⟨hp, h0, h64⟩)
  case elsewhere =>
    refine songTick_elsewhere fun h => ?_
    obtain ⟨hp, h0, h64⟩ := (atTick_iff _).mp h
    rcases hn with hn | hn | hn
    · exact hn hp
    · exact hn h64
    · exact h0.ne' hn

end Sys2Proof.Machine
end

section
/-! PROOFS. The lines and pixels that the overlay lets pass (O21). -/

namespace Sys2Proof.Machine

theorem exec_video_discarded {s : State} {line : Nat} {pixels : List Rgb} (r : RoomId) (frameStart : Bool)
    (hm : s.mode ≠ .stop) (h : 1079 < line ∨ 1920 < pixels.length) :
    exec (.video r line frameStart pixels) s = .next (s.countIn.setRoom r { s.room r with
      overlay := { (s.room r).overlay with videoDiscarded := (s.room r).overlay.videoDiscarded + 1 } }) := by
  show Host.Outcome.next (takeMedia (videoCell r line frameStart pixels) s) = _
  rw [takeMedia_taken hm]
  exact congrArg (fun x => Host.Outcome.next (s.countIn.setRoom r x)) (if_pos h)

/-! ### Lines on which nothing is drawn (R69, R77, R78) -/

theorem drawnBank_none {rm : Room} {m : Mode} {l : FrameLatch}
    (h : l.bank = none ∨ l.bandOff = true
      ∨ ∃ b, l.bank = some b ∧ ((rm.bank b).state = .empty ∨ (rm.bank b).state = .clearing)) :
    rm.drawnBank m l = none := by
  unfold Room.drawnBank
  rcases h with hbank | hoff | ⟨b, hbank, hst⟩
  · rw [hbank, ite_self]
  · rw [hoff, if_neg (by simp)]
  · have hloaded : ¬(rm.bank b).loaded = true := by
      rw [Bank.loaded_iff]
      rcases hst with hst | hst <;> rw [hst] <;> decide
    simp only [hbank, if_neg hloaded, ite_self]

theorem drawnBank_config (rm : Room) (l : FrameLatch) : rm.drawnBank .config l = none := if_neg (by simp)

theorem crossing_outside {l : FrameLatch} {y : Nat} (h : y < l.bandY ∨ l.bandY + l.rows * l.pitch ≤ y) :
    l.crossing y = [] := by
  have hband : ¬l.inBand y = true := by
    simp only [FrameLatch.inBand, Bool.and_eq_true, decide_eq_true_eq]
    omega
  exact if_neg hband

/-- R77, R78, R84: with no bank drawn from, or no lyric line met, the pixels pass and nothing is counted. -/
theorem drawVideo_passes {rm : Room} {m : Mode} {y : Nat} (t : GlyphTable) (pixels : List Rgb)
    (h : ∀ l, rm.latch = some l → rm.drawnBank m l = none ∨ l.crossing y = []) :
    rm.drawVideo m t y pixels = (pixels, rm) := by
  unfold Room.drawVideo
  split
  · rfl
  next l hl =>
    split
    · rfl
    next bank hbank =>
      have hc : l.crossing y = [] := (h l hl).resolve_left (by simp [hbank])
      rw [hc]
      rfl

/-! ### The pixels of a line on which the overlay draws (R84) -/

theorem drawLine_length (l : FrameLatch) (glyphs : List Glyph) (bank : Bank) (pixels : List Rgb) (at_ : Nat × Nat) :
    (drawLine l glyphs bank pixels at_).length = pixels.length := by
  unfold drawLine
  split
  · rfl
  · rw [mapColumns_eq, List.length_mapIdx]

theorem blendAt_outside {l : FrameLatch} {x : Nat} (h : x < l.bandX ∨ l.bandX + l.bandW ≤ x) (part : Part)
    (row : Nat) (gs : List Placed) (px : Rgb) : blendAt l part row gs x px = px := if_neg (by omega)

theorem drawLine_outside {l : FrameLatch} {x : Nat} (h : x < l.bandX ∨ l.bandX + l.bandW ≤ x) (glyphs : List Glyph)
    (bank : Bank) (pixels : List Rgb) (at_ : Nat × Nat) :
    (drawLine l glyphs bank pixels at_)[x]? = pixels[x]? := by
  unfold drawLine
  split
  · rfl
  · simp only [mapColumns_eq, List.getElem?_mapIdx, Nat.zero_add, blendAt_outside h, Option.map_id']

/-- What every lyric line drawn keeps of the pixels, the line sent has of the line that arrived. -/
theorem drawVideo_keeps {β : Type} (view : List Rgb → β) {rm : Room}
    (h : ∀ l, rm.latch = some l → ∀ glyphs bank ps at_, view (drawLine l glyphs bank ps at_) = view ps)
    (m : Mode) (t : GlyphTable) (y : Nat) (pixels : List Rgb) :
    view (rm.drawVideo m t y pixels).1 = view pixels := by
  unfold Room.drawVideo
  split
  · rfl
  next l hl =>
    split
    · rfl
    · exact foldl_keeps _ view (h l hl _ _) _ _

/-- Settles O21: the line is discarded, or sent with the pixels of `Room.drawVideo`. -/
theorem videoLinesPassOutsideTheBand : Obligations.VideoLinesPassOutsideTheBand := by
  intro r line frameStart pixels s hm rm taken inForce sent
  refine ⟨exec_video_discarded r frameStart hm, fun hline hpixels => ?_⟩
  let drawn := inForce.drawVideo s.mode s.font line pixels
  have hforce : (if frameStart then rm.takeLatch s.mode s.font else rm) = inForce := by
    dsimp only [inForce]
    rw [takeLatch_eq]
  have hexec : exec (.video r line frameStart pixels) s = .next (sent drawn.2 drawn.1) := by
    dsimp only [drawn]
    rw [exec_video_accepted r frameStart hm hline hpixels, ← hforce]
    rfl
  have hpass (h : ∀ l, inForce.latch = some l → inForce.drawnBank s.mode l = none ∨ l.crossing line = []) :
      exec (.video r line frameStart pixels) s = .next (sent inForce pixels) := by
    rw [hexec, show drawn = (pixels, inForce) from drawVideo_passes s.font pixels h]
  have hbank (b : BankId) : inForce.bank b = rm.bank b := by
    dsimp only [inForce]
    split <;> rfl
  refine ⟨fun h => hpass fun l hl => ?noLatch, fun l hl h => hpass fun l' hl' => ?nothingDrawn, ?columns⟩
  case noLatch =>
    rcases h with hconfig | hnone
    · exact .inl (hconfig ▸ drawnBank_config inForce l)
    · rw [hnone] at hl
      contradiction
  case nothingDrawn =>
    obtain rfl : l = l' := Option.some.inj (hl.symm.trans hl')
    rcases h with h | h | h | h | ⟨b, hb, hst⟩
    · exact .inl (drawnBank_none (.inl h))
    · exact .inl (drawnBank_none (.inr (.inl h)))
    · exact .inr (crossing_outside (.inl h))
    · exact .inr (crossing_outside (.inr h))
    · exact .inl (drawnBank_none (.inr (.inr ⟨b, hb, (hbank b).symm ▸ hst⟩)))
  case columns =>
    obtain ⟨latch, overlay, hframe⟩ := drawVideo_frame inForce s.mode s.font line pixels
    refine ⟨latch, overlay, drawn.1, hframe ▸ hexec, ?_, fun l hl x hx => ?_⟩
    · exact drawVideo_keeps List.length (fun l _ => drawLine_length l) ..
    · refine drawVideo_keeps (fun ps => ps[x]?) (fun l' hl' => ?_) ..
      obtain rfl : l = l' := Option.some.inj (hl.symm.trans hl')
      exact drawLine_outside hx

end Sys2Proof.Machine
end

section
/-! PROOFS. CHIP_PARAM and ROOM_PARAM: the range of every parameter, and the state with its new value (O39). -/

namespace Sys2Proof.Machine

/-! ### Operands (12.2, R184) -/

theorem twoWay_none {v : Nat} (h : ¬v ≤ 1) : twoWay v = none := by
  match v with
  | 0 | 1 => omega
  | _ + 2 => rfl

theorem twoWay_elim {α : Type} (v : Nat) (d : α) (f : Bool → α) :
    (twoWay v).elim d f = if v = 0 then f false else if v = 1 then f true else d := by
  match v with
  | 0 | 1 => rfl
  | n + 2 => rw [twoWay_none (by omega), if_neg (by omega), if_neg (by omega)]; rfl

theorem within_elim {α : Type} (lo hi v : Nat) (d : α) (f : Nat → α) :
    (within lo hi v).elim d f = if lo ≤ v ∧ v ≤ hi then f v else d := by
  unfold within
  split <;> rfl

theorem micOf_none {mic : Nat} (h1 : mic ≠ 1) (h2 : mic ≠ 2) : micOf mic = none := by
  match mic with
  | 0 | _ + 3 => rfl
  | 1 | 2 => contradiction

theorem assignOf_none {n : Nat} (h0 : n ≠ 0) (h1 : n ≠ 1) (h2 : n ≠ 2) (h3 : n ≠ 3) : assignOf n = none := by
  match n with
  | 0 | 1 | 2 | 3 => contradiction
  | _ + 4 => rfl

@[simp] theorem assignOf_code (x : Assign) : assignOf x.code = some x := by cases x <;> rfl

/-! ### CHIP_PARAM (R174) -/

/-- R174: the parameters the value gives are taken with OK, and a value that gives none is answered RANGE. -/
theorem exec_chipParam {s : State} (h : s.takes) (tag : Nat) (id : ChipParamId) (v : Nat) :
    exec (.chipParam tag id v) s = .next ((s.chip.take id v).elim (s.replied 15 tag 2 .range)
      fun c => ({ s with chip := c } : State).replied 15 tag 2 .ok) := by
  show Host.Outcome.next (chipOrder tag 2 (chipParamOrder id v) s) = _
  cases e : s.chip.take id v with
  | none =>
    exact congrArg _ (chipOrder_replied h (t := s) (by unfold chipParamOrder; rw [countIn_chip, e]; rfl))
  | some c =>
    exact congrArg _ (chipOrder_replied h (t := { s with chip := c })
      (by unfold chipParamOrder; rw [countIn_chip, e]; rfl))

/-! ### The ranges of the room parameters (R175) -/

/-- A setting gives the parameters `q` where `ok` holds, and none elsewhere. -/
def RoomParams.Gives (p : RoomParams) (setting : RoomSetting) (ok : Prop) (q : RoomParams) : Prop :=
  (ok → p.take setting = some q) ∧ (¬ok → p.take setting = none)

section
variable {p : RoomParams} {setting : RoomSetting} {v : Nat}

theorem gives_of_if {ok : Prop} {c : Bool} {q : RoomParams} (hok : c = true ↔ ok)
    (e : p.take setting = if c then some q else none) : p.Gives setting ok q :=
  ⟨fun h => e.trans (if_pos (hok.mpr h)), fun h => e.trans (if_neg fun hc => h (hok.mp hc))⟩

theorem gives_number {lo hi : Nat} {ok : Prop} {f : Nat → RoomParams} {q : RoomParams}
    (e : p.take setting = (within lo hi v).map f) (hq : q = f v) (hok : ok ↔ lo ≤ v ∧ v ≤ hi) :
    p.Gives setting ok q :=
  ⟨fun h => e.trans (by rw [within, if_pos (hok.mp h), hq]; rfl),
    fun h => e.trans (by rw [within, if_neg fun hv => h (hok.mpr hv)]; rfl)⟩

/-- 12.2: a two-way value is coded 0 for the first-named and 1 for the second. -/
theorem gives_choice {f : Bool → RoomParams} {q : RoomParams} (e : p.take setting = (twoWay v).map f)
    (hfirst : v = 0 → q = f false) (hsecond : v = 1 → q = f true) : p.Gives setting (v ≤ 1) q := by
  refine ⟨fun h => e.trans ?_, fun h => by rw [e, twoWay_none h]; rfl⟩
  match v with
  | 0 => exact congrArg some (hfirst rfl).symm
  | 1 => exact congrArg some (hsecond rfl).symm

theorem gives_always {q : RoomParams} (e : p.take setting = some q) : p.Gives setting True q :=
  ⟨fun _ => e, fun h => absurd trivial h⟩

theorem gives_none (e : p.take setting = none) : p.Gives setting False p := ⟨False.elim, fun _ => e⟩

theorem gives_calMic : p.Gives (.calMic v) (v = 1 ∨ v = 2) { p with calMic := if v = 1 then 0 else 1 } := by
  refine ⟨?_, fun h => ?_⟩
  · rintro (rfl | rfl) <;> rfl
  · show (micOf v).map _ = none
    rw [micOf_none (fun e => h (.inl e)) fun e => h (.inr e)]
    rfl

theorem take_micAssign (mic n : Nat) :
    p.take (.micAssign mic n) = (micOf mic).bind fun m => (assignOf n).map (p.setAssign m) := by
  unfold RoomParams.take
  dsimp only
  cases micOf mic <;> cases assignOf n <;> rfl

theorem gives_assign {mic : Nat} {m : MicId} (h : micOf mic = some m) (x : Assign) :
    p.Gives (.micAssign mic x.code) True (p.setAssign m x) :=
  gives_always (by rw [take_micAssign, h, assignOf_code]; rfl)

end

theorem bandOk_iff (x w : Nat) : bandOk x w = true ↔ x ≤ 1919 ∧ 64 ≤ w ∧ w ≤ 1920 ∧ x + w ≤ 1920 := by
  simp [bandOk, and_assoc]

theorem marksOk_iff (low high : Nat) : marksOk low high = true ↔ low ≤ 8192 ∧ high ≤ 8192 ∧ low < high := by
  simp [marksOk, and_assoc]

/-! ### ROOM_PARAM (R175) -/

section
variable {s : State} {setting : RoomSetting} {q : RoomParams}

theorem roomParamOrder_wrongMode (r : RoomId) (hc : configOnly setting = true) (hm : s.mode ≠ .config) :
    roomParamOrder r setting s = refuse s .wrongMode := if_pos ⟨hc, hm⟩

theorem roomParamOrder_range {r : RoomId} (hmode : configOnly setting = true → s.mode = .config)
    (e : (s.room r).params.take setting = none) : roomParamOrder r setting s = refuse s .range := by
  unfold roomParamOrder
  rw [if_neg fun h => h.2 (hmode h.1), e]

theorem roomParamOrder_taken {r : RoomId} (hmode : configOnly setting = true → s.mode = .config)
    (e : (s.room r).params.take setting = some q) :
    let t := s.setRoom r { s.room r with params := q }
    roomParamOrder r setting s = accept (if isMarks setting then markTest r t else t) := by
  unfold roomParamOrder
  rw [if_neg fun h => h.2 (hmode h.1), e]
  rfl

variable (h : s.takes) (tag : Nat)
include h

theorem exec_roomParam_wrongMode (r : RoomId) (hc : configOnly setting = true) (hm : s.mode ≠ .config) :
    exec (.roomParam r tag setting) s = .next (s.replied r.val tag 24 .wrongMode) :=
  congrArg Host.Outcome.next (roomOrder_replied h (roomParamOrder_wrongMode r hc hm))

theorem exec_roomParam_range {r : RoomId} (hmode : configOnly setting = true → s.mode = .config)
    (e : (s.room r).params.take setting = none) :
    exec (.roomParam r tag setting) s = .next (s.replied r.val tag 24 .range) :=
  congrArg Host.Outcome.next (roomOrder_replied h (roomParamOrder_range hmode e))

/-- R175: a parameter other than the watermarks is taken where its value is in range, and is RANGE elsewhere. -/
theorem exec_roomParam_gives {r : RoomId} {ok : Prop} (hmode : configOnly setting = true → s.mode = .config)
    (hmarks : isMarks setting = false) (e : (s.room r).params.Gives setting ok q) :
    (ok → exec (.roomParam r tag setting) s
      = .next ((s.setRoom r { s.room r with params := q }).replied r.val tag 24 .ok))
    ∧ (¬ok → exec (.roomParam r tag setting) s = .next (s.replied r.val tag 24 .range)) := by
  refine ⟨fun hok => congrArg Host.Outcome.next (roomOrder_replied h ?_), fun hok =>
    exec_roomParam_range h tag hmode (e.2 hok)⟩
  rw [roomParamOrder_taken (s := s.countIn) hmode (e.1 hok), hmarks]
  rfl

/-- R98: a new pair of watermarks runs the mark test. -/
theorem exec_roomParam_marks {r : RoomId} (hmarks : isMarks setting = true) (hc : configOnly setting = false)
    (e : (s.room r).params.take setting = some q) :
    exec (.roomParam r tag setting) s = .next (s.accepted r.val tag 24 fun x =>
      markTest r (x.setRoom r { s.room r with params := q })) := by
  refine congrArg Host.Outcome.next (roomOrder_accepted h ?_)
  rw [roomParamOrder_taken (s := s.countIn) (by simp [hc]) e, hmarks]
  rfl

end

/-- Settles O39, parameter by parameter: a number in its range, a two-way choice, or a range of its own. -/
theorem parametersAreChecked : Obligations.ParametersAreChecked := by
  refine ⟨?chip, ?room⟩
  case chip =>
    intro tag v s h set
    simp only [exec_chipParam h, ChipParams.take, Option.elim_map, twoWay_elim, within_elim, Function.comp_def]
    exact ⟨rfl, rfl, rfl, rfl⟩
  case room =>
    intro r tag v s h
    dsimp only
    refine ⟨exec_roomParam_wrongMode h tag r rfl, fun hm => exec_roomParam_gives h tag (fun _ => hm) rfl ?roomEnable,
      fun x w => exec_roomParam_gives h tag nofun rfl (gives_of_if (bandOk_iff x w) rfl), ?bandY, ?rows, ?rowGap,
      ?lineOverflow, fun c => exec_roomParam_gives h tag nofun rfl (gives_always rfl), ?advanceLead, ?scrollTicks,
      ?compMode, ?compOffset, ?voiceThreshold, ?hysteresis, ?tolerance, ?octaveFold, ?badAssign, ?badMic, ?micAssign,
      ?panelStopPermit, ?duplicates, ?calQ, ?calAmplitude, ?calCycles, ?calThreshold,
      exec_roomParam_gives h tag nofun rfl gives_calMic, fun low high => ⟨fun hok => ?marks, fun hok => ?noMarks⟩⟩
    case bandY | rows | rowGap | advanceLead | scrollTicks | compOffset | voiceThreshold | hysteresis | tolerance
        | calQ | calAmplitude | calCycles | calThreshold =>
      exact exec_roomParam_gives h tag nofun rfl (gives_number rfl rfl (by omega))
    case roomEnable => exact gives_choice rfl (by rintro rfl; rfl) (by rintro rfl; rfl)
    case lineOverflow | compMode | octaveFold | panelStopPermit | duplicates =>
      exact exec_roomParam_gives h tag nofun rfl (gives_choice rfl (by rintro rfl; rfl) (by rintro rfl; rfl))
    case badAssign =>
      refine fun mic n h0 h1 h2 h3 => exec_roomParam_gives h tag nofun rfl (gives_none ?_)
      rw [take_micAssign, assignOf_none h0 h1 h2 h3]
      exact Option.bind_fun_none _
    case badMic =>
      refine fun mic h1 h2 n => exec_roomParam_gives h tag nofun rfl (gives_none ?_)
      rw [take_micAssign, micOf_none h1 h2]
      rfl
    case micAssign =>
      exact fun x => ⟨exec_roomParam_gives h tag nofun rfl (gives_assign (m := 0) rfl x),
        exec_roomParam_gives h tag nofun rfl (gives_assign (m := 1) rfl x)⟩
    case marks => exact exec_roomParam_marks h tag rfl rfl (if_pos ((marksOk_iff low high).mpr hok))
    case noMarks => exact exec_roomParam_range h tag nofun (if_neg fun hc => hok ((marksOk_iff low high).mp hc))

end Sys2Proof.Machine
end

section
/-! PROOFS. The capacity law: the queues it bounds, and what each operation on a room, a panel or a report does to them
(O14). -/

namespace Sys2Proof.Machine

/-! ### Every queue within its capacity -/

/-- The capacity law with at most `n` replies waiting. Nothing but the REPLY of an order adds to the reply queue, and an
order that is taken finds at most 15 (R171). -/
structure State.Within (n : Nat) (s : State) : Prop where
  replies : s.replies.length ≤ n
  reports : s.reports.length ≤ 16
  frames : s.frameQueue.length ≤ 8
  queues : ∀ r, (s.room r).port.queue.length ≤ 8192
  outboxes : ∀ e, (s.panel e).outbox.length ≤ 4
  lists : ∀ r, (s.room r).requests.length ≤ 12
  fullQueue : ∀ o, s.stackEmpty o = false → s.reports.length = 16

theorem capacityLaw_iff {s : State} : s.CapacityLaw ↔ s.Within 16 :=
  ⟨fun h => { h with }, fun h => { h with }⟩

/-- Room `x` holds no more than `rm` in its backing queue and its request list, and stacks a report only where `rm` does. -/
structure Room.Holds (rm x : Room) : Prop where
  queue : x.port.queue.length ≤ rm.port.queue.length
  list : x.requests.length ≤ rm.requests.length
  stack : rm.stack.isEmpty = true → x.stack.isEmpty = true

/-- Most operations on a room leave its queue, its list and its stack. -/
theorem Room.Holds.of_eq {rm x : Room} (hq : x.port.queue = rm.port.queue) (hl : x.requests = rm.requests)
    (hk : x.stack = rm.stack) : rm.Holds x :=
  ⟨Nat.le_of_eq (hq ▸ rfl), Nat.le_of_eq (hl ▸ rfl), fun h => hk ▸ h⟩

theorem Room.Holds.trans {a b c : Room} (h : a.Holds b) (k : b.Holds c) : a.Holds c :=
  ⟨k.queue.trans h.queue, k.list.trans h.list, k.stack ∘ h.stack⟩

section
variable {n : Nat} {s : State} {r : RoomId}

/-- R177: where the report queue has a free place, no stack holds a report. -/
theorem State.Within.stackEmpty (h : s.Within n) (hfree : s.reports.length < 16) (o : Owner) : s.stackEmpty o = true :=
  Bool.not_eq_false _ ▸ fun ho => Nat.ne_of_lt hfree (h.fullQueue o ho)

/-- A change of one room that keeps its queue and its list within their capacities, and stacks no report. -/
theorem setQueues_within {f : Room → Room} (h : s.Within n) (hq : (f (s.room r)).port.queue.length ≤ 8192)
    (hl : (f (s.room r)).requests.length ≤ 12)
    (hk : (s.room r).stack.isEmpty = true → (f (s.room r)).stack.isEmpty = true) : (s.updRoom r f).Within n := by
  refine { h with queues := fun k => ?_, lists := fun k => ?_, fullQueue := fun o ho => ?_ }
  · rw [room_updRoom]; split
    · exact hq
    · exact h.queues k
  · rw [room_updRoom]; split
    · exact hl
    · exact h.lists k
  · refine h.fullQueue o ?_
    cases o with
    | chip => exact ho
    | room k =>
      simp only [State.stackEmpty, room_updRoom] at ho ⊢
      split at ho
      · next e => subst e; exact Bool.eq_false_iff.mpr fun he => Bool.eq_false_iff.mp ho (hk he)
      · exact ho

theorem updRoom_within {f : Room → Room} (h : s.Within n) (hf : (s.room r).Holds (f (s.room r))) :
    (s.updRoom r f).Within n :=
  setQueues_within h (hf.queue.trans (h.queues r)) (hf.list.trans (h.lists r)) hf.stack

theorem updPanel_within {e : PanelId} {f : PollEntry → PollEntry} (h : s.Within n)
    (hf : (f (s.panel e)).outbox.length ≤ 4) : (s.updPanel e f).Within n := by
  refine { h with outboxes := fun k => ?_ }
  rw [panel_updPanel]; split
  · exact hf
  · exact h.outboxes k

/-- A fold keeps the law where each of its steps does. -/
theorem foldl_within {α : Type} {f : State → α → State} (hf : ∀ x a, x.Within n → (f x a).Within n) (l : List α)
    (h : s.Within n) : (l.foldl f s).Within n := by
  induction l generalizing s with
  | nil => exact h
  | cons a l ih => exact ih (hf s a h)


/-! ### Reports (R98, R177, R178) -/

/-- R177, R178: a report takes a free place of the queue while every stack is empty, and else goes to its stack while the
queue is full. -/
theorem raise_within (b : ReportBody) (h : s.Within n) : (raise b s).Within n := by
  by_cases hfree : s.reports.length < 16
  · have hempty := h.stackEmpty hfree
    rw [raise_queued hfree (hempty _)]
    have hlen : (s.reports ++ [s.newReport b]).length ≤ 16 := by rw [List.length_append]; exact hfree
    exact { h with reports := hlen, fullQueue := fun o ho => absurd (hempty o) (Bool.eq_false_iff.mp ho) }
  · have hfull : s.reports.length = 16 := Nat.le_antisymm h.reports (Nat.not_lt.mp hfree)
    have hreports : (raise b s).reports = s.reports := by
      rw [raise_toStack (.inl (Nat.not_lt.mp hfree))]
      unfold stackReport fillSlot
      cases b <;> rfl
    exact {
      replies := by simpa using h.replies
      reports := hreports ▸ h.reports
      frames := by simpa using h.frames
      queues := by simpa using h.queues
      outboxes := by simpa using h.outboxes
      lists := by simpa using h.lists
      fullQueue := fun _ _ => hreports ▸ hfull }

theorem markTest_within (r : RoomId) (h : s.Within n) : (markTest r s).Within n := by
  rcases markTest_cases r s with e | ⟨m, _, e⟩ <;> rw [e]
  · exact h
  · exact raise_within _ (updRoom_within h (.of_eq rfl rfl rfl))

theorem handLineScore_within (r : RoomId) (line : Nat) (skipped : Bool) (h : s.Within n) :
    (handLineScore r line skipped s).Within n := by
  have hraised := raise_within (.lineScore ((s.room r).lineScore r line skipped)) h
  unfold handLineScore
  dsimp only
  split
  · exact hraised
  · exact updRoom_within hraised (.of_eq rfl rfl rfl)

/-! ### Outboxes (R149) -/

/-- R149: a fifth result displaces the oldest. -/
theorem push_outbox {p : PollEntry} (h : p.outbox.length ≤ 4) (k : ResultKind) : (p.push k).outbox.length ≤ 4 := by
  unfold PollEntry.push
  split
  · split
    · next hn => simpa using hn
    · simp only [List.length_append, List.length_tail, List.length_singleton]; omega
  · exact h

theorem pushResult_within (e : PanelId) (k : ResultKind) (h : s.Within n) : (pushResult e k s).Within n :=
  updPanel_within h (push_outbox (h.outboxes e) k)

theorem pushToRoom_within (r : RoomId) (k : ResultKind) (h : s.Within n) : (pushToRoom r k s).Within n :=
  foldl_within (fun x e hx => by split; exacts [pushResult_within e k hx, hx]) allPanels h

theorem emptyOutboxes_within (r : RoomId) (h : s.Within n) : (emptyOutboxes r s).Within n :=
  foldl_within (fun x e hx => by split; exacts [updPanel_within hx (Nat.zero_le _), hx]) allPanels h

/-! ### What an operation on a room holds -/

theorem updEntry_holds (rm : Room) (ticket : Nat) (f : Entry → Entry) : rm.Holds (rm.updEntry ticket f) :=
  ⟨Nat.le_refl _, Nat.le_of_eq (List.length_map _), id⟩

theorem updEntry_within (r : RoomId) (ticket : Nat) (f : Entry → Entry) (h : s.Within n) :
    (s.updEntry r ticket f).Within n := updRoom_within h (updEntry_holds _ ticket f)

theorem dropEntry_holds (rm : Room) (ticket : Nat) : rm.Holds (rm.dropEntry ticket) :=
  ⟨Nat.le_refl _, List.length_filter_le .., id⟩

theorem flushedQueue_length (q : List QueuedSample) : (flushedQueue q).length ≤ q.length := by
  unfold flushedQueue
  exact (List.drop_sublist ..).length_le.trans (List.dropWhile_sublist _).length_le

theorem ended_queue (p : Port) (reason : EndReason) : (p.ended reason).queue.length ≤ p.queue.length := by
  unfold Port.ended Port.flushed
  split
  · exact Nat.le_refl _
  · split
    · exact Nat.le_refl _
    · exact flushedQueue_length _

/-- R17, R99: an ending flushes the queue or keeps it. -/
theorem endSong_holds (rm : Room) (reason : EndReason) : rm.Holds (rm.endSong reason) := by
  rw [Room.endSong_eq]
  exact ⟨ended_queue _ _, Nat.le_refl _, id⟩

theorem emptied_queue (p : Port) : p.emptied.queue.length ≤ p.queue.length := Nat.zero_le _

/-- R7, R8: a withdrawn cue empties the queue or leaves it. -/
theorem withdrawCue_holds (rm : Room) : rm.Holds rm.withdrawCue := by
  rw [Room.withdrawCue_eq]
  refine ⟨?_, Nat.le_refl _, id⟩
  dsimp only
  split
  · exact emptied_queue _
  · exact Nat.le_refl _

theorem moveEntry?_holds (rm : Room) (t : Option Nat) (st : EntryState) : rm.Holds (rm.moveEntry? t st) := by
  rw [Room.moveEntry?_eq]
  exact ⟨Nat.le_refl _, Nat.le_of_eq (List.length_map _), id⟩

theorem releaseCue_holds (rm : Room) : rm.Holds rm.releaseCue :=
  (moveEntry?_holds rm _ _).trans (withdrawCue_holds _)

theorem clearBank_holds (rm : Room) (b : BankId) : rm.Holds (rm.clearBank b) := by
  rw [Room.clearBank_eq]
  exact .of_eq rfl rfl rfl

theorem updBank_holds (rm : Room) (b : BankId) (f : Bank → Bank) : rm.Holds (rm.updBank b f) :=
  ⟨by simp, by simp, by simp⟩

theorem updMic_holds (rm : Room) (m : MicId) (f : Mic → Mic) : rm.Holds (rm.updMic m f) :=
  ⟨by simp, by simp, by simp⟩

/-- R20, R21: a reset empties the room's queue, list and, but for some of its reports, stack. -/
theorem reset_holds (rm : Room) (m : Mode) (clearReports : Bool) : rm.Holds (rm.reset m clearReports) := by
  rw [Room.reset_eq]
  refine ⟨Nat.zero_le _, Nat.zero_le _, fun h => ?_⟩
  cases clearReports with
  | true => rfl
  | false =>
    simp only [RoomStack.isEmpty, Bool.and_eq_true, Option.isNone_iff_eq_none] at h
    obtain ⟨⟨⟨⟨h1, _⟩, h3⟩, h4⟩, h5⟩ := h
    simp [RoomStack.afterReset, RoomStack.isEmpty, h1, h3, h4, h5]

/-! ### The end of a song (R17, R18) -/

theorem leaveEnding_within (r : RoomId) (h : s.Within n) : (leaveEnding r s).Within n := by
  rw [leaveEnding_eq]
  split
  · exact updRoom_within (f := fun rm => { rm with
      ctx := { rm.ctx with state := .idle, currentBank := none }
      latch := rm.latch.filter fun l => l.bank = none ∨ l.bank = rm.ctx.cuedBank
      port := rm.port.emptied }) h ⟨emptied_queue _, Nat.le_refl _, id⟩
  · exact markTest_within r (updRoom_within (f := fun rm => { rm with
      ctx := { rm.ctx with state := .cued, currentBank := none }
      latch := rm.latch.filter fun l => l.bank = none ∨ l.bank = rm.ctx.cuedBank }) h (.of_eq rfl rfl rfl))

theorem endRequest_within (r : RoomId) (h : s.Within n) : (endRequest r s).Within n := by
  unfold endRequest
  split
  · exact h
  · exact pushToRoom_within r _ (updRoom_within h ((dropEntry_holds _ _).trans (.of_eq rfl rfl rfl)))

theorem takeEnding_within (r : RoomId) (reason : EndReason) (h : s.Within n) : (takeEnding r reason s).Within n := by
  cases hs : (s.room r).ctx.singing with
  | false => rwa [takeEnding_not_singing _ _ _ hs]
  | true =>
    have hlined : (endingLined r reason s).Within n :=
      handLineScore_within r _ false (updRoom_within h (.of_eq rfl rfl rfl))
    have hclosed : (songClosed r reason s).Within n :=
      endRequest_within r (updRoom_within (raise_within _ hlined) (endSong_holds _ _))
    rw [takeEnding_eq _ _ _ hs]
    split
    · exact leaveEnding_within r hclosed
    · exact hclosed

/-! ### The line test (R57 to R61) -/

theorem advanceTo_within (r : RoomId) (k t : Nat) (h : s.Within n) : (advanceTo r k t s).Within n := by
  unfold advanceTo
  exact updRoom_within (foldl_within (fun _ j hx => handLineScore_within r j true hx) _
    (handLineScore_within r _ false h)) (.of_eq rfl rfl rfl)

theorem holdStep_within (r : RoomId) (t : Nat) (h : s.Within n) : (holdStep r t s).Within n := by
  rcases holdStep_cases r t s with e | ⟨f, _, e⟩ | ⟨_, e⟩ <;> rw [e]
  · exact h
  · exact updRoom_within h (.of_eq rfl rfl rfl)
  · exact takeEnding_within r .halted (updRoom_within h (.of_eq rfl rfl rfl))

theorem lineTest_within (r : RoomId) (t : Nat) (h : s.Within n) : (lineTest r t s).Within n := by
  rcases lineTest_cases r t s with e | e | ⟨k, e⟩ <;> rw [e]
  · exact takeEnding_within r .halted h
  · exact holdStep_within r t h
  · exact holdStep_within r t (advanceTo_within r k t h)

theorem songTick_within (r : RoomId) (h : s.Within n) : (songTick r s).Within n := by
  rcases songTick_cases r s with e | ⟨_, e⟩ <;> rw [e]
  · exact h
  · exact lineTest_within r _ h

/-! ### Calibrations and resets -/

theorem endCalibration_within (r : RoomId) (outcome : CalOutcome) (j : Nat) {f : Port → Port} (h : s.Within n)
    (hf : ∀ p, (f p).queue = p.queue) : (endCalibration r outcome j f s).Within n := by
  unfold endCalibration
  split
  · exact h
  · exact raise_within _ (updRoom_within h ⟨Nat.le_of_eq (congrArg _ (hf _)), Nat.le_refl _, id⟩)

theorem markStale_within (r : RoomId) (h : s.Within n) : (markStale r s).Within n :=
  { h with frames := (List.length_map _).trans_le h.frames }

theorem resetRoom_within (r : RoomId) (h : s.Within n) : (resetRoom r s).Within n := by
  have hreset := updRoom_within (r := r) (f := fun rm => rm.reset s.mode s.chip.clearReports) h (reset_holds _ _ _)
  have hq : (resetQuietly r s).Within n := markStale_within r (emptyOutboxes_within r { hreset with })
  rcases resetRoom_cases r s with ⟨_, e⟩ | ⟨c, _, e⟩ <;> rw [e]
  · exact hq
  · exact raise_within _ hq

/-! ### The upstream scheduler (R179, R180) -/

theorem takeFirst_none {k : RoomStack} (h : k.takeFirst = none) : k.isEmpty = true := by
  unfold RoomStack.takeFirst at h
  repeat' split at h
  · cases h
  · cases h
  · cases h
  · cases h
  · cases h
  · simp [RoomStack.isEmpty, *]

theorem mem_ownersAfter (o p : Owner) : p ∈ ownersAfter o := by
  rw [ownersAfter_eq]
  cases o with
  | chip =>
    cases p with
    | chip => decide
    | room k => revert k; decide
  | room r =>
    cases p with
    | chip => revert r; decide
    | room k => revert r k; decide

/-- R179: a place that one report has left is given to a stack, if any holds a report. -/
theorem drain_within (rep : Report) (h : ({ s with reports := rep :: s.reports } : State).Within n) :
    (drain s).Within n := by
  have hroom : s.reports.length ≤ 15 := Nat.le_of_succ_le_succ h.reports
  have filled {o : Owner} (ho : s.servedNext = some o) : s.stackEmpty o = false := by
    simpa using List.find?_some ho
  have hfull {o : Owner} (ho : s.servedNext = some o) (x : Report) : (s.reports ++ [x]).length = 16 := by
    rw [List.length_append]
    exact h.fullQueue o (filled ho)
  rcases drain_cases s with ⟨hnone, e⟩ | ⟨r, ho, e⟩ | ⟨ho, e⟩ <;> rw [e]
  · refine { h with reports := hroom.trans (by decide), fullQueue := fun o ho => ?_ }
    have := List.find?_eq_none.mp hnone o (mem_ownersAfter _ o)
    rw [ho] at this
    exact absurd rfl this
  · unfold drainRoom
    split
    · next hk => exact absurd (takeFirst_none hk) (Bool.eq_false_iff.mp (filled ho))
    · next x k _ =>
      have hgiven := updRoom_within (r := r) (f := fun rm => { rm with stack := k }) h
        ⟨Nat.le_refl _, Nat.le_refl _, fun he => absurd he (Bool.eq_false_iff.mp (filled ho))⟩
      have hqueued : ({ s.updRoom r (fun rm => { rm with stack := k }) with
          reports := s.reports ++ [x], lastServed := .room r } : State).Within n :=
        { hgiven with reports := Nat.le_of_eq (hfull ho x), fullQueue := fun _ _ => hfull ho x }
      rw [songEndQueued_eq]
      split
      · exact leaveEnding_within r hqueued
      · exact hqueued
  · unfold drainChip
    split
    · next hk =>
      refine absurd (List.all_eq_true.mpr fun e he => ?_) (Bool.eq_false_iff.mp (filled ho))
      simpa using List.find?_eq_none.mp hk e he
    · next e he =>
      obtain ⟨x, hx⟩ := Option.isSome_iff_exists.mp
        (List.find?_some (p := fun e => (s.chipStack.get e).isSome) he)
      have hlen : (s.reports ++ (s.chipStack.get e).toList).length = 16 := by rw [hx]; exact hfull ho x
      exact { h with reports := Nat.le_of_eq hlen, fullQueue := fun _ _ => hlen }

theorem schedule_within (h : s.Within n) : (schedule s).Within n := by
  rcases schedule_cases s with ⟨rep, rest, hr, e⟩ | ⟨_, _, e⟩ | ⟨sent, _, _, hq, e⟩ | ⟨rep, rest, _, _, _, hr, e⟩ <;> rw [e]
  · have hlen := h.replies
    rw [hr] at hlen
    have hrest : rest.length ≤ n := (Nat.le_succ _).trans hlen
    exact { h with replies := hrest }
  · exact { h with }
  · rcases sendRequest_cases s with ⟨i, c, _, e⟩ | ⟨w, _, _, e⟩ | ⟨_, _, e⟩ <;> rw [e] at hq <;> cases hq
    · exact { updEntry_within i.room i.ticket (fun e => { e with sentTime := some s.venueTime }) h with }
    · exact { updEntry_within w.1 w.2.ticket (fun x => { x with state := .sent, sentTime := some s.venueTime }) h with }
  · have hsent : ({ s with reports := rep :: rest } : State).Within n := hr ▸ h
    exact drain_within rep { hsent with }

theorem sendIfIdle_within (h : s.Within n) : s.sendIfIdle.Within n := by
  rcases sendIfIdle_cases s with ⟨_, e⟩ | ⟨_, e⟩ <;> rw [e]
  · exact h
  · exact schedule_within h

end

end Sys2Proof.Machine
end

section
/-! PROOFS. The capacity law through every command; and O14. -/

namespace Sys2Proof.Machine

section
variable {n : Nat} {s : State}

theorem accept_within {t : State} {data : List Byte} (h : t.Within n) : (accept t data).state.Within n := h

/-! ### Audio and the sample period -/

@[simp] theorem markTail_length (q : List QueuedSample) : (markTail q).length = q.length := by
  induction q using markTail.induct with
  | case1 => rfl
  | case2 x => rfl
  | case3 x y xs ih => exact congrArg Nat.succ ih

/-- R96: a cell's samples join the queue up to 8192. -/
theorem queueCell_queue {p : Port} (h : p.queue.length ≤ 8192) (endFlag : Bool) (samples : List Stereo) :
    (p.queueCell endFlag samples).queue.length ≤ 8192 := by
  have hall : (p.queue ++ (samples.take (8192 - p.fill)).map queued).length ≤ 8192 := by
    simp only [List.length_append, List.length_map, List.length_take, Port.fill]
    omega
  unfold Port.queueCell
  dsimp only
  split
  · split
    · exact h
    · exact (markTail_length _).trans_le hall
  · exact hall

theorem audioCell_within (r : RoomId) (endFlag : Bool) (samples : List Stereo) (h : s.Within n) :
    (audioCell r endFlag samples s).Within n := by
  unfold audioCell
  dsimp only
  split
  · exact updRoom_within h (.of_eq rfl rfl rfl)
  split
  · exact updRoom_within h (.of_eq rfl rfl rfl)
  split
  · exact updRoom_within h (.of_eq rfl rfl rfl)
  · exact updRoom_within h (.of_eq rfl rfl rfl)
  · exact updRoom_within h (.of_eq rfl rfl rfl)
  · exact sendIfIdle_within (markTest_within r (setQueues_within h (queueCell_queue (h.queues r) _ _) (h.lists r) id))

theorem underrun_holds (rm : Room) : rm.Holds rm.underrun := by
  rw [Room.underrun_eq]; exact .of_eq rfl rfl rfl

theorem backingOutput_within (r : RoomId) (h : s.Within n) : (backingOutput r s).Within n := by
  unfold backingOutput
  dsimp only
  split
  · split
    · exact takeEnding_within r .complete (updRoom_within h (.of_eq rfl rfl rfl))
    split
    · exact updRoom_within h (underrun_holds _)
    · next x rest hq =>
      have hshorter : rest.length ≤ (s.room r).port.queue.length := by rw [hq]; exact Nat.le_succ _
      have hmarked := markTest_within r (songTick_within r
        (updRoom_within (f := fun y => y.advanced rest) h ⟨hshorter, Nat.le_refl _, id⟩))
      split
      · exact takeEnding_within r .complete hmarked
      · exact hmarked
  · exact h

theorem calibrationStep_within (r : RoomId) (inputs : Vector Sample 8) (h : s.Within n) :
    (calibrationStep r inputs s).Within n := by
  unfold calibrationStep captureStep
  split
  · split
    · exact endCalibration_within r _ _ h fun _ => rfl
    split
    · exact endCalibration_within r _ _ h fun _ => rfl
    · exact updRoom_within h (.of_eq rfl rfl rfl)
  · exact h

theorem roomShare_within (r : RoomId) (inputs : Vector Sample 8) (h : s.Within n) :
    (roomShare r inputs s).1.Within n :=
  calibrationStep_within r inputs (backingOutput_within r (updRoom_within h (.of_eq rfl rfl rfl)))

theorem roomShares_within (inputs : Vector Sample 8) (order : List RoomId) (h : s.Within n) :
    (roomShares inputs order s).1.Within n := by
  unfold roomShares
  suffices ∀ acc : State × List FrameRecord, acc.1.Within n →
      (order.foldl (fun acc r =>
        ((roomShare r inputs acc.1).1, acc.2 ++ (roomShare r inputs acc.1).2)) acc).1.Within n
    from this (s, []) h
  induction order with
  | nil => exact fun _ h => h
  | cons r rs ih => exact fun acc h => ih _ (roomShare_within r inputs h)

theorem beginAnalysis_within (h : s.Within n) : (beginAnalysis s).Within n := by
  unfold beginAnalysis; split
  · exact { h with }
  · exact h

/-- R111: a frame record joins the frame queue up to 8. -/
theorem offerFrame_within (f : FrameRecord) (h : s.Within n) : (offerFrame f s).Within n := by
  unfold offerFrame; split
  · next hfree =>
    have hlen : (s.frameQueue ++ [f]).length ≤ 8 := by rw [List.length_append]; exact hfree
    exact beginAnalysis_within { h with frames := hlen }
  · exact updRoom_within h (updMic_holds _ _ _)

theorem samplePeriod_within (inputs : Vector Sample 8) (roomOrder offerOrder : Nat) (h : s.Within n) :
    (samplePeriod inputs roomOrder offerOrder s).Within n := by
  unfold samplePeriod
  split
  · exact { h with }
  · exact sendIfIdle_within (foldl_within (fun x f hx => offerFrame_within f hx) _
      (roomShares_within inputs _ { h with }))

theorem songPositionLimit_within (r : RoomId) (h : s.Within n) : (songPositionLimit r s).Within n := by
  unfold songPositionLimit; split
  · exact sendIfIdle_within (backingOutput_within r { h with })
  · exact h

theorem scoreFrame_holds (rm : Room) (f : ResultRecord) : rm.Holds (rm.scoreFrame f) := by
  unfold Room.scoreFrame
  split
  · exact .of_eq rfl rfl rfl
  · exact updMic_holds _ _ _

/-- R112: the analysed record leaves the frame queue. -/
theorem analysisComplete_within (h : s.Within n) : (analysisComplete s).Within n := by
  unfold analysisComplete
  split
  · exact h
  split
  · next a f rest _ hq =>
    have hframes := h.frames
    rw [hq] at hframes
    have hscored := updRoom_within (r := f.room) (f := fun rm => (rm.scoreFrame (analyse a f)).updMic f.mic fun m =>
      { m with lastResult := some (analyse a f) }) h ((scoreFrame_holds _ _).trans (updMic_holds _ _ _))
    exact beginAnalysis_within { hscored with frames := (Nat.le_succ _).trans hframes }
  · exact h

theorem calTimeout_within (r : RoomId) (h : s.Within n) : (calTimeout r s).Within n := by
  unfold calTimeout; split
  · exact sendIfIdle_within (endCalibration_within r _ _ h fun _ => rfl)
  · exact h

/-! ### The polling cycle -/

theorem beginPoll_within (e : PanelId) (h : s.Within n) : (beginPoll e s).Within n := by
  have hpolled : (s.panel e).polled.outbox.length ≤ 4 := by
    have := h.outboxes e
    simp only [PollEntry.polled, List.length_tail]
    omega
  exact { updPanel_within (f := PollEntry.polled) h hpolled with }

theorem startPolling_within (h : s.Within n) : (startPolling s).Within n := by
  unfold startPolling; split
  · exact h
  · exact beginPoll_within _ h

theorem nextPoll_within (h : s.Within n) : (nextPoll s).Within n := by
  unfold nextPoll; split
  · exact { h with }
  · exact beginPoll_within _ h

theorem endPoll_within {act : PanelId → State → State} (h : s.Within n)
    (ha : ∀ e x, x.Within n → (act e x).Within n) : (endPoll act s).Within n := by
  unfold endPoll; split
  · exact h
  · exact sendIfIdle_within (nextPoll_within (ha _ _ h))

theorem markGood_within (e : PanelId) (h : s.Within n) : (markGood e s).Within n := by
  have hheard := updPanel_within (e := e) (f := fun p => { p with good := bump p.good 1, missCount := 0, present := true })
    h (h.outboxes e)
  unfold markGood
  dsimp only
  split
  · exact hheard
  · exact raise_within _ hheard

theorem markMiss_within (e : PanelId) {count : PollEntry → PollEntry} (hcount : ∀ p, (count p).outbox = p.outbox)
    (h : s.Within n) : (markMiss e count s).Within n := by
  have hmissed := updPanel_within (e := e) (f := fun p => count p.missed) h
    ((congrArg List.length (hcount _)).trans_le (h.outboxes e))
  unfold markMiss
  dsimp only
  split
  · exact raise_within _ hmissed
  · exact hmissed

theorem goodAnswer_within {handle : PanelId → RoomId → State → State} (h : s.Within n)
    (ha : ∀ e r x, x.Within n → (handle e r x).Within n) : (goodAnswer handle s).Within n :=
  endPoll_within h fun e _ hx => ha e _ _ (markGood_within e hx)

theorem pollEntryOrder_within (entry enabled address room : Nat) (h : s.Within n) :
    (pollEntryOrder entry enabled address room s).state.Within n := by
  unfold pollEntryOrder
  split
  · exact h
  split
  · split
    · exact h
    split
    · exact h
    · exact accept_within (updPanel_within h (Nat.zero_le _))
  · exact h

/-! ### Requests and messages -/

theorem removeWithResult_within (r : RoomId) (e : Entry) (k : ResultKind) (h : s.Within n) :
    (removeWithResult r e k s).Within n := pushResult_within _ k (updRoom_within h (dropEntry_holds _ _))

/-- R155: a request is refused when the list holds 12. -/
theorem takeRequest_within (r : RoomId) (e : PanelId) (song : Nat) (keyShift : Int) (tag : Nat) (h : s.Within n) :
    (takeRequest r e song keyShift tag s).Within n := by
  unfold takeRequest
  dsimp only
  split
  · exact pushResult_within _ _ (updRoom_within h (.of_eq rfl rfl rfl))
  next hfree =>
  split
  · exact pushResult_within _ _ (updRoom_within h (.of_eq rfl rfl rfl))
  · have hlisted := setQueues_within (r := r) (f := fun rm => { rm with
        requests := rm.requests ++ [s.newEntry e song keyShift tag (s.room r).nextTicket]
        ticketCounter := (s.room r).nextTicket
        requestCounters := { rm.requestCounters with ticketsIssued := bump rm.requestCounters.ticketsIssued 1 } })
      h (h.queues r) (by rw [List.length_append]; exact Nat.not_le.mp hfree) id
    exact pushResult_within _ _ { hlisted with }

theorem beginCancel_within (r : RoomId) (ticket : Nat) (h : s.Within n) : (beginCancel r ticket s).Within n :=
  { updEntry_within r ticket (fun x => { x with state := .cancelling, sentTime := none }) h with }

theorem takeCancel_within (r : RoomId) (e : PanelId) (ticket : Nat) (h : s.Within n) :
    (takeCancel r e ticket s).Within n := by
  unfold takeCancel
  split
  · exact pushResult_within _ _ h
  split
  · exact pushResult_within _ _ h
  split
  · exact removeWithResult_within _ _ _ h
  · exact beginCancel_within r ticket h
  · exact beginCancel_within r ticket h
  · exact h
  · exact pushResult_within _ _ h
  · exact pushResult_within _ _ h

theorem requestMessage_within (payload : List Byte) (e : PanelId) (r : RoomId) (h : s.Within n) :
    (requestMessage payload e r s).Within n := by
  unfold requestMessage
  split
  · exact pushResult_within _ _ h
  dsimp only
  split
  · exact pushResult_within _ _ h
  · exact takeRequest_within _ _ _ _ _ h

theorem cancelMessage_within (payload : List Byte) (e : PanelId) (r : RoomId) (h : s.Within n) :
    (cancelMessage payload e r s).Within n := by
  unfold cancelMessage; split
  · exact pushResult_within _ _ h
  · exact takeCancel_within _ _ _ h

theorem stopMessage_within (e : PanelId) (r : RoomId) (h : s.Within n) : (stopMessage e r s).Within n := by
  unfold stopMessage
  split
  · exact pushResult_within _ _ h
  split
  · exact takeEnding_within _ _ h
  · exact pushResult_within _ _ h

theorem roomMessage_within {handle : PanelId → RoomId → State → State}
    (ha : ∀ e r x, x.Within n → (handle e r x).Within n) (e : PanelId) (r : RoomId) (h : s.Within n) :
    (roomMessage handle e r s).Within n := by
  unfold roomMessage; split
  · exact pushResult_within _ _ h
  · exact ha _ _ _ h

theorem withEntry_within (r : RoomId) (ticket : Nat) {act : Entry → State → Verdict} (h : s.Within n)
    (ha : ∀ e, (act e s).state.Within n) : (withEntry r ticket act s).state.Within n := by
  unfold withEntry; split
  · exact h
  · exact ha _

theorem acceptEntry_within (r : RoomId) (ticket position : Nat) (e : Entry) (h : s.Within n) :
    (acceptEntry r ticket position e s).state.Within n := by
  unfold acceptEntry
  split
  · exact pushResult_within _ _ (updEntry_within r ticket _ h)
  · exact updEntry_within r ticket _ h
  all_goals exact h

theorem positionEntry_within (r : RoomId) (ticket position : Nat) (e : Entry) (h : s.Within n) :
    (positionEntry r ticket position e s).state.Within n := by
  have hmoved := updEntry_within r ticket (fun x => { x with position := some position }) h
  unfold positionEntry
  dsimp only
  split
  · exact pushResult_within _ _ hmoved
  · exact pushResult_within _ _ hmoved
  · exact hmoved
  all_goals exact h

theorem confirmCancel_within (r : RoomId) (e : Entry) (h : s.Within n) : (confirmCancel r e s).Within n :=
  removeWithResult_within _ _ _ { h with }

theorem refuseOrder_within (r : RoomId) (ticket reason : Nat) (h : s.Within n) :
    (refuseOrder r ticket reason s).state.Within n := by
  unfold refuseOrder
  split
  · exact h
  · refine withEntry_within r ticket h fun e => ?_
    unfold refuseEntry
    split
    · exact removeWithResult_within _ _ _ h
    · exact removeWithResult_within _ _ _ h
    · exact confirmCancel_within _ _ h
    all_goals exact h

theorem dropOrder_within (r : RoomId) (e : Entry) (h : s.Within n) : (dropOrder r e s).state.Within n := by
  unfold dropOrder
  split
  · exact removeWithResult_within _ _ _ h
  · exact removeWithResult_within _ _ _ h
  · exact removeWithResult_within _ _ _ (updRoom_within h (withdrawCue_holds _))
  · exact confirmCancel_within _ _ h
  all_goals exact h

theorem timeOutEntry_within (r : RoomId) (e : Entry) (h : s.Within n) : (timeOutEntry r e s).Within n :=
  removeWithResult_within _ _ _ (updRoom_within h (.of_eq rfl rfl rfl))

theorem venueTimeTick_within (h : s.Within n) : (venueTimeTick s).Within n :=
  foldl_within (f := timeOutRoom) (fun _ r hx => foldl_within (fun _ e hy => timeOutEntry_within r e hy) _ hx) allRooms
    { h with }

theorem replyTimeout_within (r : RoomId) (ticket : Nat) (h : s.Within n) : (replyTimeout r ticket s).Within n := by
  unfold replyTimeout
  split
  · exact h
  split
  · exact timeOutEntry_within _ _ h
  · exact h

/-! ### Room orders -/

theorem cue_holds (rm : Room) (b : BankId) (ticket : Nat) : rm.Holds (rm.cue b ticket) := by
  unfold Room.cue
  rw [Room.dropLostLatch_eq]
  have hlinked (x : Room) (h : rm.Holds x) : rm.Holds (x.moveEntry? (ticketOf ticket) .cued) :=
    h.trans (moveEntry?_holds _ _ _)
  split
  · exact (hlinked _ (.of_eq rfl rfl rfl)).trans (.of_eq rfl rfl rfl)
  · exact (hlinked _ (moveEntry?_holds _ _ _)).trans (.of_eq rfl rfl rfl)

theorem cueOrder_within (r : RoomId) (bank ticket : Nat) (h : s.Within n) :
    (cueOrder r bank ticket s).state.Within n := by
  unfold cueOrder
  dsimp only
  split
  · exact h
  split
  · exact h
  split
  · exact h
  split
  · exact h
  split
  · exact h
  split
  · exact h
  · next b _ _ _ _ _ =>
    have hcued : (s.updRoom r fun x => x.cue b ticket).Within n := updRoom_within h (cue_holds _ _ _)
    show (if _ then _ else _ : State).Within n
    split
    · exact markTest_within r hcued
    · exact hcued

theorem start_holds (rm : Room) : rm.Holds rm.start :=
  (moveEntry?_holds rm rm.ctx.cuedTicket .playing).trans (.of_eq (by unfold Room.start; simp) rfl rfl)

theorem startOrder_within (r : RoomId) (h : s.Within n) : (startOrder r s).state.Within n := by
  unfold startOrder; split
  · exact markStale_within r (updRoom_within h (start_holds _))
  all_goals exact h

theorem moveOrder_within (r : RoomId) (source target : RoomState) (h : s.Within n) :
    (moveOrder r source target s).state.Within n := by
  unfold moveOrder; split
  · exact accept_within (updRoom_within h (.of_eq rfl rfl rfl))
  · exact h

theorem stopOrder_within (r : RoomId) (h : s.Within n) : (stopOrder r s).state.Within n := by
  unfold stopOrder
  split
  · exact takeEnding_within r _ h
  · exact takeEnding_within r _ h
  · exact endCalibration_within r _ _ h fun _ => rfl
  · exact updRoom_within h (releaseCue_holds _)
  · exact h

theorem haltOrder_within (r : RoomId) (h : s.Within n) : (haltOrder r s).state.Within n := by
  unfold haltOrder
  dsimp only
  split
  · split
    · exact takeEnding_within r _ h
    · exact accept_within (updRoom_within h (.of_eq rfl rfl rfl))
  · exact h

theorem calibrateOrder_within (r : RoomId) (h : s.Within n) : (calibrateOrder r s).state.Within n := by
  unfold calibrateOrder
  dsimp only
  split
  · split
    · exact h
    · exact accept_within (updRoom_within h (.of_eq rfl rfl rfl))
  · exact h

theorem roomParamOrder_within (r : RoomId) (setting : RoomSetting) (h : s.Within n) :
    (roomParamOrder r setting s).state.Within n := by
  unfold roomParamOrder
  split
  · exact h
  split
  · exact h
  · next p _ =>
    have hset : (s.updRoom r fun rm => { rm with params := p }).Within n := updRoom_within h (.of_eq rfl rfl rfl)
    show (if _ then _ else _ : State).Within n
    split
    · exact markTest_within r hset
    · exact hset

/-! ### Banks, the Glyph Table, the ladder and the tables -/

theorem bankOpenOrder_within (r : RoomId) (bank songId lines syllables notes : Nat) (h : s.Within n) :
    (bankOpenOrder r bank songId lines syllables notes s).state.Within n := by
  unfold bankOpenOrder
  split
  · exact h
  split
  · exact h
  · exact h
  · exact h
  · split
    · exact accept_within (updRoom_within h (updBank_holds _ _ _))
    · exact h

theorem bankCloseOrder_within (r : RoomId) (bank : Nat) (h : s.Within n) :
    (bankCloseOrder r bank s).state.Within n := by
  unfold bankCloseOrder
  split
  · exact h
  dsimp only
  split
  · split
    · exact accept_within (updRoom_within h (updBank_holds _ _ _))
    · exact h
  · exact h

theorem bankClearOrder_within (r : RoomId) (bank : Nat) (h : s.Within n) :
    (bankClearOrder r bank s).state.Within n := by
  unfold bankClearOrder
  split
  · exact h
  dsimp only
  split
  · exact h
  split
  · refine accept_within (updRoom_within h ?_)
    split
    · exact (releaseCue_holds _).trans (clearBank_holds _ _)
    · exact clearBank_holds _ _
  · exact h

theorem bankClearingComplete_within (r : RoomId) (b : BankId) (h : s.Within n) :
    (bankClearingComplete r b s).Within n := by
  unfold bankClearingComplete; split
  · exact sendIfIdle_within (raise_within _ (updRoom_within h (updBank_holds _ _ _)))
  · exact h

theorem appendOrder_within {α : Type} {take : Bank → α → Option Bank} {frontier declared : Bank → Nat}
    {after : BankId → State → State} (ha : ∀ b x, x.Within n → (after b x).Within n) (r : RoomId)
    (bank first : Nat) (xs : List α) (h : s.Within n) :
    (appendOrder take frontier declared after r bank first xs s).state.Within n := by
  unfold appendOrder
  split
  · exact h
  split
  · exact h
  · exact ha _ _ (updRoom_within h (updBank_holds _ _ _))

theorem linesOrder_within (r : RoomId) (bank first : Nat) (recs : List LineRec) (h : s.Within n) :
    (linesOrder r bank first recs s).state.Within n := by
  refine appendOrder_within (fun b x hx => ?_) r bank first recs h
  unfold lineAppendEvent
  dsimp only
  split
  · exact lineTest_within r _ hx
  · exact hx

theorem fontClearOrder_within (height space missing : Nat) (h : s.Within n) :
    (fontClearOrder height space missing s).state.Within n := by
  unfold fontClearOrder
  split
  · exact h
  split
  · exact h
  split
  · exact { h with }
  · exact h

theorem fontAppendOrder_within (first count : Option Nat) (records : List Byte) (h : s.Within n) :
    (fontAppendOrder first count records s).state.Within n := by
  unfold fontAppendOrder
  dsimp only
  split
  · exact h
  split
  · exact h
  split
  · exact h
  split
  · exact h
  split
  · exact h
  · exact { h with }

theorem fontClearingComplete_within (h : s.Within n) : (fontClearingComplete s).Within n := by
  unfold fontClearingComplete
  split
  · exact { h with }
  · exact h

theorem ladderOrder_within (first : Nat) (bounds : List Nat) (h : s.Within n) :
    (ladderOrder first bounds s).state.Within n := by
  unfold ladderOrder
  split
  · exact h
  split
  · exact h
  split
  · exact h
  · exact { h with }

theorem slotMapOrder_within (direction slot target : Nat) (h : s.Within n) :
    (slotMapOrder direction slot target s).state.Within n := by
  unfold slotMapOrder
  split
  · exact h
  split
  · split
    · exact h
    split
    · exact h
    · exact { h with }
  · split
    · exact h
    split
    · exact h
    · exact { h with }
  · exact h

theorem chipParamOrder_within (id : ChipParamId) (v : Nat) (h : s.Within n) :
    (chipParamOrder id v s).state.Within n := by
  unfold chipParamOrder; split
  · exact h
  · exact { h with }

theorem readBankOrder_within (r : RoomId) (bank : Nat) (h : s.Within n) :
    (readBankOrder r bank s).state.Within n := by
  unfold readBankOrder; split <;> exact h

/-! ### SET_MODE -/

theorem mapRooms_within {f : Room → Room} (hf : ∀ rm : Room, rm.Holds (f rm)) (h : s.Within n) :
    (s.mapRooms f).Within n :=
  foldl_within (fun _ _ hx => updRoom_within hx (hf _)) allRooms h

theorem enabled_holds (rm : Room) : rm.Holds rm.enabled := by
  unfold Room.enabled; split <;> exact .of_eq rfl rfl rfl

theorem setModeOrder_within (mode : Nat) (h : s.Within n) : (setModeOrder mode s).state.Within n := by
  have moved (m : Mode) : ({ s with mode := m } : State).Within n := { h with }
  unfold setModeOrder
  split
  · exact h
  split
  · exact h
  · exact h
  · exact h
  · split
    · exact startPolling_within (mapRooms_within enabled_holds (moved .run))
    · exact h
  · split
    · exact h
    · exact foldl_within (fun _ r hx => resetRoom_within r hx) allRooms { h with }
  · exact h
  · exact mapRooms_within (fun _ => .of_eq rfl rfl rfl) (moved .stop)
  · exact moved .config
  · exact h

/-! ### The trunk -/

theorem videoLine_holds (rm : Room) (m : Mode) (t : GlyphTable) (line : Nat) (frameStart : Bool) (pixels : List Rgb) :
    rm.Holds (rm.videoLine m t line frameStart pixels) := by
  obtain ⟨latch, overlay, out, e⟩ := videoLine_frame rm m t line frameStart pixels
  rw [e]; exact .of_eq rfl rfl rfl

theorem videoCell_within (r : RoomId) (line : Nat) (frameStart : Bool) (pixels : List Rgb) (h : s.Within n) :
    (videoCell r line frameStart pixels s).Within n := by
  refine updRoom_within h ?_
  split
  · exact .of_eq rfl rfl rfl
  · exact videoLine_holds _ _ _ _ _ _

theorem discardCell_within (bytes : List Byte) (h : s.Within n) : (discardCell bytes s).Within n := by
  have hcount (f : LinkCounters → LinkCounters) : (s.count f).Within n := { h with }
  unfold discardCell
  dsimp only
  split
  · exact hcount _
  split
  · exact hcount _
  split
  · exact hcount _
  split
  · exact hcount _
  split
  · exact hcount _
  split
  · exact hcount _
  · exact h

theorem takeMedia_within {act : State → State} (h : s.Within n) (ha : ∀ x, x.Within n → (act x).Within n) :
    (takeMedia act s).Within n := by
  rcases takeMedia_cases act s with e | e <;> rw [e]
  · exact { h with }
  · exact ha _ { h with }

theorem pushReply_within (x : Reply) (h : s.Within n) : (s.pushReply x).Within (n + 1) :=
  have hlen : (s.replies ++ [x]).length ≤ n + 1 := by rw [List.length_append]; exact Nat.succ_le_succ h.replies
  { h with replies := hlen }

/-- Check 6 of R169 leaves a place for the REPLY. -/
theorem State.Within.oneFree (h : s.Within 16) (hfree : ¬s.repliesFull = true) : s.countIn.Within 15 :=
  { h with replies := by simpa [State.repliesFull, Nat.lt_succ_iff] using hfree }

/-- R169, R171: an order that is taken finds a place for its REPLY, and adds no other. -/
theorem takeOrder_within (inStandby : Bool) (room tag kind : Nat) {d : State → Verdict} (h : s.Within 16)
    (hd : ∀ x, x.Within 15 → (d x).state.Within 15) : (takeOrder inStandby room tag kind d s).Within 16 := by
  unfold takeOrder
  split
  · exact { h with }
  split
  · exact { h with }
  · next hfree => exact sendIfIdle_within (pushReply_within _ (hd _ (h.oneFree hfree)))

theorem answerMalformed_within (bytes : List Byte) (h : s.Within 16) : (answerMalformed bytes s).Within 16 := by
  unfold answerMalformed
  dsimp only
  split
  · exact { h with }
  split
  · exact { h with }
  · next hfree =>
    exact sendIfIdle_within { pushReply_within (malformedReply (rawCell bytes) s.freeDrawn) (h.oneFree hfree) with }

theorem pinReset_within (s : State) : (pinReset s).Within 16 := { capacityLaw_iff.mp reset_capacityLaw with }

end

/-! ### Every command -/

/-- Every command answers a state whose queues are within their capacities. -/
theorem exec_within (c : Instr) {s t : State} (h : s.Within 16) (e : exec c s = .next t) : t.Within 16 := by
  have order {b : Bool} {room tag kind : Nat} {d : State → Verdict} (hd : ∀ x, x.Within 15 → (d x).state.Within 15)
      (e : (.next (takeOrder b room tag kind d s) : Host.Outcome State Fault Refusal) = .next t) : t.Within 16 := by
    cases e; exact takeOrder_within b room tag kind h hd
  have ends {x : State} (hx : x.Within 16) (e : (.next x : Host.Outcome State Fault Refusal) = .next t) :
      t.Within 16 := by
    cases e; exact hx
  cases c with
  | pinReset => exact ends (pinReset_within s) e
  | cellDiscarded bytes => exact ends (discardCell_within bytes h) e
  | unknownOrder bytes =>
    refine ends ?_ e
    split
    · exact answerMalformed_within bytes h
    · exact h
  | video r line frameStart pixels => exact ends (takeMedia_within h fun _ => videoCell_within r line frameStart pixels) e
  | audio r endFlag samples => exact ends (takeMedia_within h fun _ => audioCell_within r endFlag samples) e
  | appendLines r tag bank first recs => exact order (fun _ => linesOrder_within r bank first recs) e
  | appendSyllables r tag bank first recs =>
    exact order (fun _ => appendOrder_within (fun _ _ hx => hx) r bank first recs) e
  | appendGuide r tag bank first recs =>
    exact order (fun _ => appendOrder_within (fun _ _ hx => hx) r bank first recs) e
  | appendFont tag first count records => exact order (fun _ => fontAppendOrder_within first count records) e
  | appendLadder tag first bounds => exact order (fun _ => ladderOrder_within first bounds) e
  | setMode tag mode => exact order (fun _ => setModeOrder_within mode) e
  | chipParam tag param value => exact order (fun _ => chipParamOrder_within param value) e
  | slotMap tag direction slot target => exact order (fun _ => slotMapOrder_within direction slot target) e
  | pollEntry tag entry enabled address room =>
    exact order (fun _ => pollEntryOrder_within entry enabled address room) e
  | fontClear tag height space missing => exact order (fun _ => fontClearOrder_within height space missing) e
  | readChip tag => exact order (fun _ hx => hx) e
  | readRoom r tag => exact order (fun _ hx => hx) e
  | readBank r tag bank => exact order (fun _ => readBankOrder_within r bank) e
  | readRequestList r tag => exact order (fun _ hx => hx) e
  | readScores r tag => exact order (fun _ hx => hx) e
  | readCounters room tag =>
    cases room with
    | none => exact order (fun _ hx => hx) e
    | some r => exact order (fun _ hx => hx) e
  | cue r tag bank ticket => exact order (fun _ => cueOrder_within r bank ticket) e
  | start r tag => exact order (fun _ => startOrder_within r) e
  | pause r tag => exact order (fun _ => moveOrder_within r .playing .held) e
  | resume r tag => exact order (fun _ => moveOrder_within r .held .playing) e
  | stop r tag => exact order (fun _ => stopOrder_within r) e
  | haltAtLine r tag => exact order (fun _ => haltOrder_within r) e
  | roomReset r tag => exact order (fun _ => resetRoom_within r) e
  | calibrate r tag => exact order (fun _ => calibrateOrder_within r) e
  | roomParam r tag setting => exact order (fun _ => roomParamOrder_within r setting) e
  | bankOpen r tag bank songId lines syllables notes =>
    exact order (fun _ => bankOpenOrder_within r bank songId lines syllables notes) e
  | bankClose r tag bank => exact order (fun _ => bankCloseOrder_within r bank) e
  | bankClear r tag bank => exact order (fun _ => bankClearOrder_within r bank) e
  | reqAccept r tag ticket position =>
    exact order (fun _ hx => withEntry_within r ticket hx fun en => acceptEntry_within r ticket position en hx) e
  | reqPosition r tag ticket position =>
    exact order (fun _ hx => withEntry_within r ticket hx fun en => positionEntry_within r ticket position en hx) e
  | reqRefuse r tag ticket reason => exact order (fun _ => refuseOrder_within r ticket reason) e
  | reqDrop r tag ticket => exact order (fun _ hx => withEntry_within r ticket hx fun en => dropOrder_within r en hx) e
  | samplePeriod inputs roomOrder offerOrder => exact ends (samplePeriod_within inputs roomOrder offerOrder h) e
  | songPositionLimit r => exact ends (songPositionLimit_within r h) e
  | songTick r =>
    refine ends ?_ e
    split
    · exact sendIfIdle_within (songTick_within r h)
    · exact h
  | analysisComplete => exact ends (analysisComplete_within h) e
  | calTimeout r => exact ends (calTimeout_within r h) e
  | bankClearingComplete r b => exact ends (bankClearingComplete_within r b h) e
  | fontClearingComplete => exact ends (fontClearingComplete_within h) e
  | panelNone payload => exact ends (goodAnswer_within h fun _ _ _ hx => hx) e
  | panelRequest payload =>
    exact ends (goodAnswer_within h fun en r _ =>
      roomMessage_within (fun en r _ => requestMessage_within payload en r) en r) e
  | panelCancel payload =>
    exact ends (goodAnswer_within h fun en r _ =>
      roomMessage_within (fun en r _ => cancelMessage_within payload en r) en r) e
  | panelStopMessage payload =>
    exact ends (goodAnswer_within h fun en r _ => roomMessage_within (fun en r _ => stopMessage_within en r) en r) e
  | panelUnknownKind kind payload => exact ends (goodAnswer_within h fun _ _ _ => pushResult_within _ _) e
  | wrongEcho address =>
    refine ends ?_ e
    split
    · exact h
    · exact endPoll_within h fun en _ => markMiss_within en fun _ => rfl
  | garbled =>
    refine ends ?_ e
    exact endPoll_within h fun en _ => markMiss_within en fun _ => rfl
  | noAnswer =>
    refine ends ?_ e
    exact endPoll_within h fun en _ => markMiss_within en fun _ => rfl
  | venueTimeTick => exact ends (venueTimeTick_within h) e
  | replyTimeout r ticket => exact ends (replyTimeout_within r ticket h) e
  | cellSent => exact ends (schedule_within h) e

/-- Settles O14: each command's effect is a composition of operations that keep the law, and only the REPLY of an order
adds to the reply queue. -/
theorem stepKeepsTheCapacities : Obligations.StepKeepsTheCapacities := by
  intro s t h e
  have hin := capacityLaw_iff.mp h
  unfold step at e
  split at e
  · cases e; exact h
  · refine capacityLaw_iff.mpr (exec_within _ ?_ e)
    exact { hin with }

end Sys2Proof.Machine
end

section
/-! PROOFS. The watermarks of a backing queue (O27), AUDIO cells (O28) and the slot map (O37). -/

namespace Sys2Proof.Machine

/-! ### The mark test (R98) -/

theorem markTested_iff (c : RoomContext) :
    c.markTested = true ↔ c.state = .cued ∨ c.state = .playing ∨ c.state = .held := by
  simp [RoomContext.markTested, or_assoc]

theorem markTest_none {r : RoomId} {s : State} (h : (s.room r).markDue = none) : markTest r s = s := by
  unfold markTest; rw [h]

/-- Settles O27: where the test runs, each clause is one way in which the mark that is due comes out. -/
theorem markTestRaisesOnce : Obligations.MarkTestRaisesOnce := by
  intro r s
  dsimp only
  have htested := markTested_iff (s.room r).ctx
  have due (h : _ ∨ _ ∨ _) : (s.room r).markDue = _ := markDue_tested (htested.mpr h)
  refine ⟨fun h => ?untested, fun h hfill hmark => ?low, fun h hlow hfill hmark => ?high, fun h hlow hhigh => ?neither⟩
  case untested => exact markTest_none (if_neg (htested.not.mpr h))
  case low => exact markTest_some ((due h).trans (if_pos ⟨hfill, hmark⟩))
  case high => exact markTest_some ((due h).trans ((if_neg hlow).trans (if_pos ⟨hfill, hmark⟩)))
  case neither => exact markTest_none ((due h).trans ((if_neg hlow).trans (if_neg hhigh)))

/-! ### AUDIO (R95, R96) -/

theorem exec_audio {s : State} (h : s.mode ≠ .stop) (r : RoomId) (endFlag : Bool) (xs : List Stereo) :
    exec (.audio r endFlag xs) s = .next (audioCell r endFlag xs s.countIn) :=
  congrArg Host.Outcome.next (takeMedia_taken h _)

/-- R96: the samples of a cell that find a place behind a fill. -/
def fitting (fill : Nat) (xs : List Stereo) : List QueuedSample := (xs.take (8192 - fill)).map queued

/-- R96: the samples that find no place. -/
theorem overrun_count (fill : Nat) (xs : List Stereo) :
    xs.length - (fitting fill xs).length = xs.length - (8192 - fill) := by
  simp only [fitting, List.length_map, List.length_take]
  omega

theorem markTail_append (front : List QueuedSample) (x : QueuedSample) :
    markTail (front ++ [x]) = front ++ [{ x with endMark := true }] := by
  induction front with
  | nil => rfl
  | cons y front ih =>
    rw [List.cons_append, List.cons_append, ← ih]
    cases front <;> rfl

/-- R96: the queue with the samples of a cell that find a place. -/
def Port.joined (p : Port) (xs : List Stereo) : List QueuedSample := p.queue ++ fitting p.queue.length xs

/-- R96: a cell taken into the queue, field by field. -/
theorem queueCell_eq (p : Port) (endFlag : Bool) (xs : List Stereo) :
    p.queueCell endFlag xs = { p with
      queue := if endFlag then markTail (p.joined xs) else p.joined xs
      pendingEnd := p.pendingEnd || (endFlag && (p.joined xs).isEmpty)
      overrun := p.overrun + BitVec.ofNat 32 (xs.length - (8192 - p.queue.length)) } := by
  rw [← overrun_count]
  cases endFlag with
  | false => rw [Bool.false_and, Bool.or_false]; rfl
  | true =>
    have hflagged : p.queueCell true xs =
        { (if (p.joined xs).isEmpty then { p with pendingEnd := true }
            else { p with queue := markTail (p.joined xs) } : Port) with
          overrun := p.overrun + BitVec.ofNat 32 (xs.length - (fitting p.queue.length xs).length) } := rfl
    rw [hflagged]
    cases hall : p.joined xs with
    | nil =>
      have hq : p.queue = [] := (List.append_eq_nil_iff.mp hall).1
      simp [hq, markTail]
    | cons y ys => simp

/-- Settles O28, check by check of R95. -/
theorem audioCellsAreQueued : Obligations.AudioCellsAreQueued := by
  intro r endFlag xs s hm
  dsimp only
  rw [exec_audio hm]
  unfold audioCell
  dsimp only
  rw [room_countIn]
  refine ⟨fun hbad => ?bad, fun hlen hd => ?draining, fun hlen hd hq => ?quiet, fun hlen hd hq => ?queued⟩
  case bad => rw [if_pos hbad]; rfl
  case draining => rw [if_neg (Nat.not_lt.mpr hlen), if_pos hd]; rfl
  case quiet =>
    rw [if_neg (Nat.not_lt.mpr hlen), hd, if_neg (by decide)]
    rcases hq with hq | hq | hq <;> rw [hq] <;> rfl
  case queued =>
    rw [if_neg (Nat.not_lt.mpr hlen), hd, if_neg (by decide)]
    refine ⟨if endFlag then markTail ((s.room r).port.joined xs) else (s.room r).port.joined xs,
      (s.room r).port.pendingEnd || (endFlag && ((s.room r).port.joined xs).isEmpty), ?_, ?_, ?_, ?_⟩
    · split
      · next hst => exact absurd (.inl hst) hq
      · next hst => exact absurd (.inr (.inl hst)) hq
      · next hst => exact absurd (.inr (.inr hst)) hq
      · exact congrArg (fun p =>
          Host.Outcome.next (markTest r (s.countIn.setRoom r { s.room r with port := p })).sendIfIdle)
          (queueCell_eq (s.room r).port endFlag xs)
    · rintro rfl
      exact ⟨Bool.or_false _, rfl⟩
    · rintro rfl hempty rfl
      simp [Port.joined, fitting, hempty, markTail]
    · rintro rfl front x (hjoined : (s.room r).port.joined xs = front ++ [x])
      simp [hjoined, markTail_append]

/-! ### SLOT_MAP (R91) -/

@[simp] theorem slotOf_val (k : SlotId) : slotOf k.val = some k := dif_pos k.isLt

theorem slotOf_none {n : Nat} (h : 8 ≤ n) : slotOf n = none := dif_neg (Nat.not_lt.mpr h)

theorem micTargetOf_none {n : Nat} (h : 8 ≤ n) (h255 : n ≠ 255) : micTargetOf n = none := by
  unfold micTargetOf; rw [if_neg h255, if_neg (Nat.not_lt.mpr h)]

theorem channelTargetOf_none {n : Nat} (h : 8 ≤ n) (h255 : n ≠ 255) : channelTargetOf n = none := by
  unfold channelTargetOf; rw [if_neg h255, if_neg (Nat.not_lt.mpr h)]

/-- 12.2: a target byte holds the room, and 4 for mic 2. -/
theorem micTargetOf_code (r : RoomId) (m : MicId) : micTargetOf (r.val + 4 * m.val) = some (some ⟨r, m⟩) := by
  revert r m; decide

/-- 12.2: a target byte holds the room, and 4 for channel R. -/
theorem channelTargetOf_code (r : RoomId) (c : Channel) :
    channelTargetOf (r.val + (match c with | .left => 0 | .right => 4)) = some (some ⟨r, c⟩) := by
  cases c <;> revert r <;> decide

/-- R91, check 3: another entry of the direction holds the target. -/
theorem targetTaken_iff {α : Type} [DecidableEq α] (v : Vector (Option α) 8) (k : SlotId) (t : α) :
    targetTaken v k (some t) = true ↔ ∃ j, j ≠ k ∧ v.get j = some t := by
  simp [targetTaken, mem_allPanels]

theorem targetTaken_none {α : Type} [DecidableEq α] (v : Vector (Option α) 8) (k : SlotId) :
    targetTaken v k none = false := rfl

section
variable {s : State} {k : SlotId} {target : Nat}

theorem slotMapOrder_range {direction slot : Nat} (hm : s.mode = .config)
    (h : 2 ≤ direction ∨ 8 ≤ slot ∨ (8 ≤ target ∧ target ≠ 255)) :
    slotMapOrder direction slot target s = refuse s .range := by
  unfold slotMapOrder
  rw [if_neg (not_not_intro hm)]
  rcases h with h | h | ⟨h, h255⟩
  · rw [twoWay_none (by omega)]
  · rw [slotOf_none h]
    split <;> simp_all
  · rw [micTargetOf_none h h255, channelTargetOf_none h h255]
    split <;> rfl

/-- R91: an input entry in CONFIG mode. -/
theorem slotMapOrder_in (hm : s.mode = .config) {t : Option MicTarget} (ht : micTargetOf target = some t) :
    slotMapOrder 0 k.val target s =
      if targetTaken s.slotIn k t then refuse s .range else accept { s with slotIn := s.slotIn.set k t } := by
  unfold slotMapOrder
  rw [if_neg (not_not_intro hm), slotOf_val, ht]
  rfl

/-- R91: an output entry in CONFIG mode. -/
theorem slotMapOrder_out (hm : s.mode = .config) {t : Option ChannelTarget} (ht : channelTargetOf target = some t) :
    slotMapOrder 1 k.val target s =
      if targetTaken s.slotOut k t then refuse s .range else accept { s with slotOut := s.slotOut.set k t } := by
  unfold slotMapOrder
  rw [if_neg (not_not_intro hm), slotOf_val, ht]
  rfl

variable (h : s.takes) (tag : Nat)
include h

theorem exec_slotMap_replied {t : State} {direction slot : Nat} {code : ReplyCode}
    (e : slotMapOrder direction slot target s.countIn = ⟨t.countIn, code, []⟩) :
    exec (.slotMap tag direction slot target) s = .next (t.replied 15 tag 3 code) :=
  congrArg Host.Outcome.next (chipOrder_replied h e)

theorem exec_slotMap_in (hm : s.mode = .config) {t : Option MicTarget} (ht : micTargetOf target = some t) :
    (targetTaken s.slotIn k t = true → exec (.slotMap tag 0 k.val target) s = .next (s.replied 15 tag 3 .range))
    ∧ (targetTaken s.slotIn k t = false → exec (.slotMap tag 0 k.val target) s
      = .next (({ s with slotIn := s.slotIn.set k t } : State).replied 15 tag 3 .ok)) := by
  have hdecided := slotMapOrder_in (s := s.countIn) (k := k) hm ht
  exact ⟨fun hk => exec_slotMap_replied h tag (hdecided.trans (if_pos hk)),
    fun hk => exec_slotMap_replied h tag (hdecided.trans (if_neg (Bool.eq_false_iff.mp hk)))⟩

theorem exec_slotMap_out (hm : s.mode = .config) {t : Option ChannelTarget} (ht : channelTargetOf target = some t) :
    (targetTaken s.slotOut k t = true → exec (.slotMap tag 1 k.val target) s = .next (s.replied 15 tag 3 .range))
    ∧ (targetTaken s.slotOut k t = false → exec (.slotMap tag 1 k.val target) s
      = .next (({ s with slotOut := s.slotOut.set k t } : State).replied 15 tag 3 .ok)) := by
  have hdecided := slotMapOrder_out (s := s.countIn) (k := k) hm ht
  exact ⟨fun hk => exec_slotMap_replied h tag (hdecided.trans (if_pos hk)),
    fun hk => exec_slotMap_replied h tag (hdecided.trans (if_neg (Bool.eq_false_iff.mp hk)))⟩

end

theorem targetTaken_free {α : Type} [DecidableEq α] {v : Vector (Option α) 8} {k : SlotId} {t : α}
    (h : ∀ j, j ≠ k → v.get j ≠ some t) : targetTaken v k (some t) = false :=
  Bool.eq_false_iff.mpr fun ht => by
    obtain ⟨j, hj, e⟩ := (targetTaken_iff v k t).mp ht
    exact h j hj e

/-- Settles O37, check by check of R91. -/
theorem slotMapSetsOneEntry : Obligations.SlotMapSetsOneEntry := by
  intro tag direction slot target s h
  refine ⟨fun hm => exec_slotMap_replied h tag (if_pos hm), fun hm =>
    ⟨fun hbad => exec_slotMap_replied h tag (slotMapOrder_range (s := s.countIn) hm hbad), fun k =>
      ⟨(exec_slotMap_in h tag hm rfl).2 rfl, (exec_slotMap_out h tag hm rfl).2 rfl, fun r m => ?_, fun r c => ?_⟩⟩⟩
  · obtain ⟨htaken, hfree⟩ := exec_slotMap_in (k := k) h tag hm (micTargetOf_code r m)
    exact ⟨fun hk => htaken ((targetTaken_iff _ _ _).mpr hk), fun hk => hfree (targetTaken_free hk)⟩
  · obtain ⟨htaken, hfree⟩ := exec_slotMap_out (k := k) h tag hm (channelTargetOf_code r c)
    exact ⟨fun hk => htaken ((targetTaken_iff _ _ _).mpr hk), fun hk => hfree (targetTaken_free hk)⟩

end Sys2Proof.Machine
end

section
/-! PROOFS. Calibrations: CALIBRATE, the capture in a period and the end of its window (O47); and the output slots in a
sample period (O54). -/

namespace Sys2Proof.Machine

/-! ### The sample of a microphone (R92) -/

section
variable {s : State} {r : RoomId} {m : MicId}

/-- R92: a microphone takes the sample of the one input slot that is mapped to it. -/
theorem micInput_mapped (inputs : Vector Sample 8) {k : SlotId} (hk : s.slotIn.get k = some ⟨r, m⟩)
    (hone : ∀ j, j ≠ k → s.slotIn.get j ≠ some ⟨r, m⟩) : s.micInput inputs r m = some (inputs.get k) := by
  unfold State.micInput
  rw [allPanels_find? (e := k) (by simp [hk]) fun j hj => by simp [hone j (ne_of_lt hj)]]
  rfl

theorem micInput_unmapped (inputs : Vector Sample 8) (h : ∀ j, s.slotIn.get j ≠ some ⟨r, m⟩) :
    s.micInput inputs r m = none := by
  unfold State.micInput
  rw [List.find?_eq_none.mpr fun j _ => by simp [h j]]
  rfl

end

/-! ### Calibrations (R101 to R105) -/

section
variable {s : State} {r : RoomId} {c : Calibration}

/-- R103, R105: a calibration that ends leaves the room IDLE with the port that `f` makes of its own, and raises CAL_DONE. -/
theorem endCalibration_port (h : (s.room r).port.calibration = some c) (outcome : CalOutcome) (j : Nat)
    (f : Port → Port) :
    let p := f (s.room r).port
    endCalibration r outcome j f s =
      raise (.calDone r outcome j p.delay p.delayValid c.mic)
        (s.setRoom r { s.room r with
          ctx := { (s.room r).ctx with state := .idle }, port := { p with calibration := none } }) := by
  unfold endCalibration
  rw [h]
  dsimp only [calDone]
  rw [room_updRoom_same]
  rfl

/-- R103: a sample at or above the threshold is a capture. -/
theorem captureStep_sample (x : Sample) :
    captureStep r c (some x) s =
      if c.threshold ≤ x.toInt.natAbs then
        endCalibration r .ok c.period (fun p => { p with delay := c.period, delayValid := true }) s
      else captureStep r c none s :=
  if_congr ⟨fun h => of_decide_eq_true (Option.some.inj h), fun h => congrArg some (decide_eq_true h)⟩ rfl rfl

theorem captureStep_none :
    captureStep r c none s =
      if 23999 ≤ c.period then endCalibration r .timeout 0 id s
      else s.setRoom r { s.room r with
        port := { (s.room r).port with calibration := some { c with period := c.period + 1 } } } :=
  if_neg (by simp)

theorem calibrationStep_calibrating (hst : (s.room r).ctx.state = .calibrating)
    (hc : (s.room r).port.calibration = some c) (inputs : Vector Sample 8) :
    calibrationStep r inputs s = captureStep r c (s.micInput inputs r c.mic) s := by
  unfold calibrationStep
  rw [hst, hc]

theorem windowEnding_calibrating (hst : (s.room r).ctx.state = .calibrating)
    (hc : (s.room r).port.calibration = some c) : (s.room r).windowEnding = decide (23999 ≤ c.period) := by
  unfold Room.windowEnding
  rw [hc, hst]
  rfl

theorem windowEnding_elsewhere (hst : (s.room r).ctx.state ≠ .calibrating) : (s.room r).windowEnding = false := by
  unfold Room.windowEnding
  split
  · rfl
  · simp [hst]

end

/-- R101: CALIBRATE is decided by the room's state and the CAL_DONE that may wait. -/
theorem calibrateOrder_cases (r : RoomId) (s : State) :
    let rm := s.room r
    (rm.ctx.state ≠ .idle → calibrateOrder r s = refuse s .wrongState)
    ∧ (rm.ctx.state = .idle → rm.stack.calDone ≠ none → calibrateOrder r s = refuse s .busy)
    ∧ (rm.ctx.state = .idle → rm.stack.calDone = none →
        calibrateOrder r s = accept (s.setRoom r { rm with
          ctx := { rm.ctx with state := .calibrating }
          port := { rm.port with calibration := some rm.params.calibration } })) := by
  unfold calibrateOrder
  refine ⟨fun h => if_neg h, fun h hd => (if_pos h).trans (if_pos ?_), fun h hd => (if_pos h).trans (if_neg ?_)⟩
  · exact Option.isSome_iff_ne_none.mpr hd
  · simp [hd]

/-- Settles O47: the three checks of CALIBRATE, the capture with and without a sample, and CAL_TIMEOUT. -/
theorem calibrationsRunAndEnd : Obligations.CalibrationsRunAndEnd := by
  refine ⟨fun r tag s h => ?order, fun r inputs c s hst hc => ?step, fun r s hst => ?elsewhere⟩
  case order =>
    obtain ⟨hstate, hbusy, hok⟩ := calibrateOrder_cases r s.countIn
    exact ⟨fun hi => congrArg Host.Outcome.next (roomOrder_replied h (hstate hi)),
      fun hi hd => congrArg Host.Outcome.next (roomOrder_replied h (hbusy hi hd)),
      fun hi hd => congrArg Host.Outcome.next (roomOrder_replied h (hok hi hd))⟩
  case step =>
    dsimp only
    have htimeout := endCalibration_eq hc .timeout 0
    have hnone : captureStep r c none s = _ := captureStep_none
    rw [htimeout] at hnone
    rw [calibrationStep_calibrating hst hc]
    refine ⟨fun k hk hone => ?mapped, fun hno => ?unmapped, ?timeout⟩
    case mapped =>
      rw [micInput_mapped inputs hk hone, captureStep_sample, endCalibration_port hc, hnone]
    case unmapped =>
      rw [micInput_unmapped inputs hno, hnone]
    case timeout =>
      refine congrArg Host.Outcome.next ?_
      unfold calTimeout
      rw [windowEnding_calibrating hst hc, htimeout]
      simp only [decide_eq_true_eq]
  case elsewhere =>
    refine congrArg Host.Outcome.next (if_neg ?_)
    rw [windowEnding_elsewhere hst]
    decide

/-! ### What a sample period leaves beyond the rooms -/

@[simp] theorem songTick_beyond (r : RoomId) (s : State) : (songTick r s).beyondRooms = s.beyondRooms := by
  rcases songTick_cases r s with e | ⟨_, e⟩ <;> rw [e]
  exact lineTest_beyond ..

@[simp] theorem backingOutput_beyond (r : RoomId) (s : State) : (backingOutput r s).beyondRooms = s.beyondRooms := by
  unfold backingOutput
  dsimp only
  split
  · split
    · simp
    split
    · simp
    · split <;> simp
  · rfl

@[simp] theorem calibrationStep_beyond (r : RoomId) (inputs : Vector Sample 8) (s : State) :
    (calibrationStep r inputs s).beyondRooms = s.beyondRooms := by
  unfold calibrationStep captureStep
  split
  · split
    · simp
    split <;> simp
  · rfl

theorem roomShare_beyond (r : RoomId) (inputs : Vector Sample 8) (s : State) :
    (roomShare r inputs s).1.beyondRooms = s.beyondRooms := by
  unfold roomShare
  simp

/-- R90: one more room's share. -/
theorem roomShares_concat (inputs : Vector Sample 8) (l : List RoomId) (r : RoomId) (s : State) :
    roomShares inputs (l ++ [r]) s =
      ((roomShare r inputs (roomShares inputs l s).1).1,
        (roomShares inputs l s).2 ++ (roomShare r inputs (roomShares inputs l s).1).2) := by
  unfold roomShares
  rw [List.foldl_append]
  rfl

/-- The rooms' shares of a period change rooms, panels and reports alone. -/
theorem roomShares_beyond (inputs : Vector Sample 8) (l : List RoomId) (s : State) :
    (roomShares inputs l s).1.beyondRooms = s.beyondRooms := by
  induction l using List.reverseRecOn with
  | nil => rfl
  | append_singleton l r ih => rw [roomShares_concat, roomShare_beyond, ih]

theorem offerFrame_audioOut (f : FrameRecord) (s : State) : (offerFrame f s).audioOut = s.audioOut := by
  unfold offerFrame beginAnalysis
  split
  · split <;> rfl
  · rfl

/-! ### The output slots (R93, R102) -/

/-- R93: outside chip mode STOP the slots carry the values that the rooms give as the period begins. -/
theorem samplePeriod_audioOut {s : State} (h : s.mode ≠ .stop) (inputs : Vector Sample 8) (roomOrder offerOrder : Nat) :
    (samplePeriod inputs roomOrder offerOrder s).audioOut = s.slotValues := by
  unfold samplePeriod
  rw [if_neg h]
  dsimp only
  rw [sendIfIdle_audioOut, foldl_keeps _ State.audioOut fun g f => offerFrame_audioOut f g]
  exact congrArg State.audioOut (roomShares_beyond inputs (ordered roomOrder allRooms) { s with audioOut := s.slotValues })

theorem Room.output_calibrating {rm : Room} {g : Calibration} (h : rm.ctx.state = .calibrating)
    (hg : rm.port.calibration = some g) : rm.output = (g.output, g.output) := by
  unfold Room.output
  rw [h, hg]

theorem Room.output_quiet {rm : Room} (hp : rm.ctx.state ≠ .playing) (hc : rm.ctx.state ≠ .calibrating) :
    rm.output = (0, 0) := by
  unfold Room.output
  split
  · next h => exact absurd h hp
  · next h => exact absurd h hc
  · rfl

section
variable {g : Calibration} {n : Nat}

/-- R102: within the calibration's cycles the generator is high or low by the half-cycle in which the period lies. -/
theorem generator_half {i : Nat} (hlo : (g.q + 2) * i ≤ g.period) (hhi : g.period < (g.q + 2) * (i + 1))
    (hn : i < 2 * g.cycles) :
    g.output = if i % 2 = 0 then BitVec.ofInt 16 g.amplitude else BitVec.ofInt 16 (-(g.amplitude : Int)) := by
  have hend : g.period < 2 * (g.q + 2) * g.cycles := by
    calc g.period < (g.q + 2) * (i + 1) := hhi
      _ ≤ (g.q + 2) * (2 * g.cycles) := Nat.mul_le_mul_left _ hn
      _ = 2 * (g.q + 2) * g.cycles := by ring
  have hhalf : g.period / (g.q + 2) = i :=
    Nat.div_eq_of_lt_le (by rwa [Nat.mul_comm]) (by rwa [Nat.mul_comm])
  unfold Calibration.output
  dsimp only
  rw [if_pos hend, hhalf]

theorem generator_high (hn : n < g.cycles) (hlo : 2 * (g.q + 2) * n ≤ g.period)
    (hhi : g.period < 2 * (g.q + 2) * n + (g.q + 2)) : g.output = BitVec.ofInt 16 g.amplitude := by
  rw [generator_half (i := 2 * n) (by linarith) (by linarith) (by omega), if_pos (by omega)]

theorem generator_low (hn : n < g.cycles) (hlo : 2 * (g.q + 2) * n + (g.q + 2) ≤ g.period)
    (hhi : g.period < 2 * (g.q + 2) * (n + 1)) : g.output = BitVec.ofInt 16 (-(g.amplitude : Int)) := by
  rw [generator_half (i := 2 * n + 1) (by linarith) (by linarith) (by omega), if_neg (by omega)]

theorem generator_done (h : 2 * (g.q + 2) * g.cycles ≤ g.period) : g.output = 0 :=
  if_neg (Nat.not_lt.mpr h)

end

/-- Settles O54, slot by slot: by its entry, and by the state of the room that the entry names. -/
theorem samplePeriodOutputs : Obligations.SamplePeriodOutputs := by
  intro inputs roomOrder offerOrder s
  refine ⟨fun hm => congrArg Host.Outcome.next (if_pos hm), fun hm => ⟨_, rfl, fun k => ?_⟩⟩
  rw [samplePeriod_audioOut hm, slotValues_get]
  refine ⟨fun hk => by unfold State.slotValue; rw [hk], fun r c hk => ?_⟩
  have hvalue := slotValue_mapped hk
  have both {v : Sample} (e : (s.room r).output = (v, v)) : s.slotValue k = v := by
    rw [hvalue, e]
    exact ite_self v
  refine ⟨fun x rest hp he hq => ?_, fun hp hq => both (Room.output_silent hp hq), fun g hc hg => ?_, fun hst => ?_⟩
  · rw [hvalue, Room.output_sample hp he hq]
    cases c <;> rfl
  · have hout := both (Room.output_calibrating hc hg)
    exact ⟨fun n hn hlo hhi => hout.trans (generator_high hn hlo hhi),
      fun n hn hlo hhi => hout.trans (generator_low hn hlo hhi), fun hdone => hout.trans (generator_done hdone)⟩
  · refine both (Room.output_quiet ?_ ?_) <;> rintro h <;> simp [h] at hst

end Sys2Proof.Machine
end

section
/-! PROOFS. The assemblers and the completed frames of a sample period (O58). -/

namespace Sys2Proof.Machine

/-! ### The epoch and the position that a room's work in a period leaves (R9, R11, R97) -/

/-- R110: the epoch and the position that label a frame record. -/
def Room.stamp (rm : Room) : Epoch × Nat := (rm.ctx.epoch, rm.ctx.position)

@[simp] theorem Room.stamp_updPort (rm : Room) (f : Port → Port) : (rm.updPort f).stamp = rm.stamp := rfl

theorem RoomContext.starve_label (c : RoomContext) : (c.starve.epoch, c.starve.position) = (c.epoch, c.position) := by
  unfold RoomContext.starve
  split <;> rfl

section
variable (r : RoomId) (s : State)

theorem takeEnding_stamp (reason : EndReason) : ((takeEnding r reason s).room r).stamp = (s.room r).stamp := by
  cases h : (s.room r).ctx.singing with
  | false => rw [takeEnding_not_singing r reason s h]
  | true =>
    obtain ⟨_, _, _, _, _, e⟩ := takeEnding_room_common r reason s h
    rw [e, Room.closed_eq]
    rfl

theorem holdStep_stamp (t : Nat) : ((holdStep r t s).room r).stamp = (s.room r).stamp := by
  rcases holdStep_cases r t s with e | ⟨f, hf, e⟩ | ⟨_, e⟩ <;> rw [e]
  · rw [room_updRoom_same]
    rcases hf with rfl | rfl | rfl
    · rfl
    · rfl
    · exact RoomContext.starve_label _
  · rw [takeEnding_stamp, room_updRoom_same]
    rfl

theorem advanceTo_stamp (k t : Nat) : ((advanceTo r k t s).room r).stamp = (s.room r).stamp := by
  obtain ⟨_, _, e⟩ := advanceTo_room r k t s
  rw [e]
  rfl

theorem songTick_stamp : ((songTick r s).room r).stamp = (s.room r).stamp := by
  rcases songTick_cases r s with e | ⟨_, e⟩ <;> rw [e]
  rcases lineTest_cases r (s.room r).ctx.songClock s with e | e | ⟨k, e⟩ <;> rw [e]
  · exact takeEnding_stamp ..
  · exact holdStep_stamp ..
  · rw [holdStep_stamp, advanceTo_stamp]

theorem markTest_stamp : ((markTest r s).room r).stamp = (s.room r).stamp := by simp [Room.stamp]

/-- R103: a calibration leaves the label and the microphones of its room. -/
theorem endCalibration_stamp (outcome : CalOutcome) (j : Nat) (f : Port → Port) :
    ((endCalibration r outcome j f s).room r).stamp = (s.room r).stamp := by
  unfold endCalibration
  split
  · rfl
  · simp only [Room.stamp, raise_room_ctx, room_updRoom_same]
    rfl

theorem endCalibration_mic (outcome : CalOutcome) (j : Nat) (f : Port → Port) (m : MicId) :
    ((endCalibration r outcome j f s).room r).mic m = (s.room r).mic m := by
  unfold endCalibration
  split
  · rfl
  · simp only [raise_room_mic, room_updRoom_same]
    rfl

theorem calibrationStep_stamp (inputs : Vector Sample 8) :
    ((calibrationStep r inputs s).room r).stamp = (s.room r).stamp := by
  unfold calibrationStep captureStep
  split
  · split
    · exact endCalibration_stamp ..
    split
    · exact endCalibration_stamp ..
    · rw [room_updRoom_same, Room.stamp_updPort]
  · rfl

theorem calibrationStep_mic (inputs : Vector Sample 8) (m : MicId) :
    ((calibrationStep r inputs s).room r).mic m = (s.room r).mic m := by
  unfold calibrationStep captureStep
  split
  · split
    · exact endCalibration_mic ..
    split
    · exact endCalibration_mic ..
    · rw [room_updRoom_same]
      rfl
  · rfl

end

/-- R97: the sample that a room gives is the head of its queue, while it is PLAYING with no pending END. -/
theorem Room.givesSample_isSome (rm : Room) :
    rm.givesSample.isSome = true ↔ rm.ctx.state = .playing ∧ rm.port.pendingEnd = false ∧ rm.port.queue ≠ [] := by
  unfold Room.givesSample
  cases hq : rm.port.queue with
  | nil => simp
  | cons x rest => simp [Option.isSome_iff_exists]

/-- R97: the backing output moves the position by the sample that the room gives. -/
theorem backingOutput_stamp (r : RoomId) (s : State) :
    ((backingOutput r s).room r).stamp =
      ((s.room r).ctx.epoch, (s.room r).ctx.position + if (s.room r).givesSample.isSome then 1 else 0) := by
  have hgives := (s.room r).givesSample_isSome
  by_cases hp : (s.room r).ctx.state = .playing
  case neg =>
    rw [backingOutput_silent hp, if_neg fun h => hp (hgives.mp h).1]
    rfl
  cases he : (s.room r).port.pendingEnd with
  | true =>
    rw [backingOutput_pendingEnd hp he, takeEnding_stamp, room_updRoom_same, Room.stamp_updPort,
      if_neg fun h => absurd (hgives.mp h).2.1 (by simp [he])]
    rfl
  | false =>
    cases hq : (s.room r).port.queue with
    | nil =>
      rw [backingOutput_underrun hp he hq, room_updRoom_same, Room.underrun_eq, if_neg fun h => (hgives.mp h).2.2 hq]
      rfl
    | cons x rest =>
      have hmarked : ((markTest r (songTick r (s.updRoom r fun y => y.advanced rest))).room r).stamp =
          ((s.room r).ctx.epoch, (s.room r).ctx.position + 1) := by
        rw [markTest_stamp, songTick_stamp, room_updRoom_same]
        rfl
      rw [backingOutput_sample hp he hq, if_pos (hgives.mpr ⟨hp, he, by simp [hq]⟩)]
      split
      · rw [takeEnding_stamp, hmarked]
      · exact hmarked

/-! ### A song that goes on keeps its assemblers (R17) -/

section
variable {r : RoomId} {s : State} (m : MicId)

theorem holdStep_assembler (h : (s.room r).ctx.lyric.haltPending = false) (t : Nat) :
    (((holdStep r t s).room r).mic m).assembler = ((s.room r).mic m).assembler := by
  rcases holdStep_cases r t s with e | ⟨f, _, e⟩ | ⟨hhalt, _⟩
  · rw [e]
  · rw [e, room_updRoom_same]
    rfl
  · simp [h] at hhalt

theorem advanceTo_assembler (k t : Nat) :
    (((advanceTo r k t s).room r).mic m).assembler = ((s.room r).mic m).assembler := by
  obtain ⟨_, _, e⟩ := advanceTo_room r k t s
  rw [e]
  rcases bank_cases m with rfl | rfl <;> rfl

theorem advanceTo_haltPending (k t : Nat) :
    ((advanceTo r k t s).room r).ctx.lyric.haltPending = (s.room r).ctx.lyric.haltPending := by
  obtain ⟨_, _, e⟩ := advanceTo_room r k t s
  rw [e]
  rfl

/-- R57: without a pending halt the line test ends no song. -/
theorem lineTest_assembler (h : (s.room r).ctx.lyric.haltPending = false) (t : Nat) :
    (((lineTest r t s).room r).mic m).assembler = ((s.room r).mic m).assembler := by
  unfold lineTest
  dsimp only
  split
  · rw [if_neg (by simp [h]), holdStep_assembler m (by rw [advanceTo_haltPending, h]), advanceTo_assembler]
  · exact holdStep_assembler m h t

theorem songTick_assembler (h : (s.room r).ctx.lyric.haltPending = false) :
    (((songTick r s).room r).mic m).assembler = ((s.room r).mic m).assembler := by
  rcases songTick_cases r s with e | ⟨_, e⟩ <;> rw [e]
  exact lineTest_assembler m h _

/-- The song of a room, if it is PLAYING, does not end in this period (R17, R97). -/
def Room.goesOn (rm : Room) : Prop :=
  rm.ctx.state = .playing →
    rm.port.pendingEnd = false ∧ (∀ x, rm.port.queue.head? = some x → x.endMark = false)
      ∧ rm.ctx.position + 1 ≠ 4294967295 ∧ rm.ctx.lyric.haltPending = false

theorem backingOutput_assembler (h : (s.room r).goesOn) :
    (((backingOutput r s).room r).mic m).assembler = ((s.room r).mic m).assembler := by
  by_cases hp : (s.room r).ctx.state = .playing
  case neg => rw [backingOutput_silent hp]
  obtain ⟨he, hmark, hlimit, hhalt⟩ := h hp
  cases hq : (s.room r).port.queue with
  | nil =>
    rw [backingOutput_underrun hp he hq, room_updRoom_same, Room.underrun_eq]
    rfl
  | cons x rest =>
    have hend : x.endMark = false := hmark x (by rw [hq]; rfl)
    rw [backingOutput_sample hp he hq, if_neg (by simp [hend, positionLimit, hlimit]), markTest_room_mic,
      songTick_assembler m (by rw [room_updRoom_same]; exact hhalt), room_updRoom_same]
    rfl

end

/-! ### The assemblers (R109, R110) -/

section
variable {a : Assembler} {x : Sample} {gave : Bool}

/-- R109: an incomplete frame grows by the sample, and its consumed count by the backing sample that the room gave. -/
theorem take_grows (ha : a.assembling = true) (hl : a.samples.length < 1023) :
    a.take (some x) gave =
      ({ a with samples := a.samples ++ [x], consumed := a.consumed + if gave then 1 else 0 }, none) := by
  unfold Assembler.take
  simp only [ha, if_true, List.length_append, List.length_singleton]
  exact if_neg (by omega)

/-- R110: the 1024th sample completes the frame. -/
theorem take_completes (ha : a.assembling = true) (hl : 1023 ≤ a.samples.length) :
    a.take (some x) gave =
      ({ a with samples := [], consumed := 0 },
        some (a.samples ++ [x], a.consumed + if gave then 1 else 0)) := by
  unfold Assembler.take
  simp only [ha, if_true, List.length_append, List.length_singleton]
  exact if_pos (by omega)

/-- R110: a frame is completed by a sample that is delivered to an ASSEMBLING assembler of 1023 samples. -/
theorem take_some {input : Option Sample} {f : List Sample × Nat} (h : (a.take input gave).2 = some f) :
    a.assembling = true ∧ 1023 ≤ a.samples.length
      ∧ ∃ x, input = some x ∧ f = (a.samples ++ [x], a.consumed + if gave then 1 else 0) := by
  cases input with
  | none => exact absurd h (by simp [Assembler.take])
  | some x =>
    cases ha : a.assembling with
    | false => rw [take_notAssembling ha] at h; cases h
    | true =>
      by_cases hl : a.samples.length < 1023
      · rw [take_grows ha hl] at h; cases h
      · rw [take_completes ha (by omega)] at h
        exact ⟨rfl, by omega, x, rfl, (Option.some.inj h).symm⟩

end

/-- R92: a microphone's sample is that of an input slot that is mapped to it. -/
theorem micInput_some {s : State} {inputs : Vector Sample 8} {r : RoomId} {m : MicId} {x : Sample}
    (h : s.micInput inputs r m = some x) : ∃ k, s.slotIn.get k = some ⟨r, m⟩ ∧ x = inputs.get k := by
  obtain ⟨k, hk, rfl⟩ := Option.map_eq_some_iff.mp h
  exact ⟨k, by simpa using List.find?_some hk, rfl⟩

theorem micInput_isSome (s : State) (inputs : Vector Sample 8) (r : RoomId) (m : MicId) :
    (s.micInput inputs r m).isSome = true ↔ ∃ k, s.slotIn.get k = some ⟨r, m⟩ := by
  unfold State.micInput
  simp [mem_allPanels]

/-! ### The share of a room (R90) -/

/-- What the assembler of a microphone makes of the period's sample, and the frame that it completes. -/
def State.taken (s : State) (inputs : Vector Sample 8) (r : RoomId) (m : MicId) :
    Assembler × Option (List Sample × Nat) :=
  ((s.room r).mic m).assembler.take (s.micInput inputs r m) (s.room r).givesSample.isSome

/-- R110: the records of the frames that the microphones of a room complete in a period that leaves the room as
`after`. -/
def State.completed (s : State) (inputs : Vector Sample 8) (r : RoomId) (after : Room) : List FrameRecord :=
  ([0, 1] : List MicId).flatMap fun m => ((s.taken inputs r m).2.map (after.frameRecord r m)).toList

/-- What a period has done to a room, as far as the frames tell: its label has followed the sample that it gave, and
while its song goes on its assemblers have taken their samples. -/
structure State.Shared (s : State) (inputs : Vector Sample 8) (r : RoomId) (after : Room) : Prop where
  stamp : after.stamp =
    ((s.room r).ctx.epoch, (s.room r).ctx.position + if (s.room r).givesSample.isSome then 1 else 0)
  assembler : (s.room r).goesOn → ∀ m, (after.mic m).assembler = (s.taken inputs r m).1

section
variable {r : RoomId} {s x : State} {inputs : Vector Sample 8}

theorem taken_congr (hroom : x.room r = s.room r) (hslots : x.slotIn = s.slotIn) (m : MicId) :
    x.taken inputs r m = s.taken inputs r m := by
  unfold State.taken State.micInput
  rw [hroom, hslots]

theorem State.Shared.congr (hroom : x.room r = s.room r) (hslots : x.slotIn = s.slotIn) {after : Room}
    (h : x.Shared inputs r after) : s.Shared inputs r after where
  stamp := by rw [h.stamp, hroom]
  assembler hgo m := by rw [h.assembler (by rwa [hroom]) m, taken_congr hroom hslots]

theorem completed_congr (hroom : x.room r = s.room r) (hslots : x.slotIn = s.slotIn) (after : Room) :
    x.completed inputs r after = s.completed inputs r after := by
  unfold State.completed
  simp only [taken_congr hroom hslots]

theorem roomShare_room_ne {k : RoomId} (h : k ≠ r) : (roomShare r inputs s).1.room k = s.room k := by
  unfold roomShare
  dsimp only
  rw [calibrationStep_room_ne _ h, backingOutput_room_ne _ h, room_updRoom_ne _ _ _ _ h]

theorem assembled_assembler (m : MicId) :
    (((s.room r).assembled (s.micInput inputs r 0) (s.micInput inputs r 1)).mic m).assembler =
      (s.taken inputs r m).1 := by
  rcases bank_cases m with rfl | rfl <;> rfl

theorem roomShare_shared : s.Shared inputs r ((roomShare r inputs s).1.room r) where
  stamp := by
    unfold roomShare
    dsimp only
    rw [calibrationStep_stamp, backingOutput_stamp, room_updRoom_same]
    rfl
  assembler hgo m := by
    unfold roomShare
    dsimp only
    rw [calibrationStep_mic, backingOutput_assembler m (by rw [room_updRoom_same]; exact hgo), room_updRoom_same,
      assembled_assembler]

theorem roomShare_completed :
    (roomShare r inputs s).2 = s.completed inputs r ((roomShare r inputs s).1.room r) := by
  unfold State.completed
  simp only [List.flatMap_cons, List.flatMap_nil, List.append_nil]
  rfl

end

theorem roomShares_slotIn (inputs : Vector Sample 8) (l : List RoomId) (s : State) :
    (roomShares inputs l s).1.slotIn = s.slotIn := by
  have h := congrArg State.slotIn (roomShares_beyond inputs l s)
  exact h

theorem roomShares_frameQueue (inputs : Vector Sample 8) (l : List RoomId) (s : State) :
    (roomShares inputs l s).1.frameQueue = s.frameQueue := by
  have h := congrArg State.frameQueue (roomShares_beyond inputs l s)
  exact h

/-- R90, R110: what the shares of several rooms leave of every room, and the records of the frames they complete. -/
theorem roomShares_spec (inputs : Vector Sample 8) (s : State) {l : List RoomId} (hl : l.Nodup) :
    let after := (roomShares inputs l s).1.room
    (∀ k, k ∉ l → after k = s.room k) ∧ (∀ r ∈ l, s.Shared inputs r (after r))
      ∧ (roomShares inputs l s).2 = l.flatMap fun r => s.completed inputs r (after r) := by
  induction l using List.reverseRecOn with
  | nil => exact ⟨fun _ _ => rfl, fun _ h => absurd h List.not_mem_nil, rfl⟩
  | append_singleton l r ih =>
    obtain ⟨hr, hnodup⟩ : r ∉ l ∧ l.Nodup := List.nodup_cons.mp (List.nodup_append_comm.mp hl)
    obtain ⟨hother, hshared, hframes⟩ := ih hnodup
    have hroom : (roomShares inputs l s).1.room r = s.room r := hother r hr
    have hslots : (roomShares inputs l s).1.slotIn = s.slotIn := roomShares_slotIn inputs l s
    rw [roomShares_concat]
    dsimp only
    have hkept {k : RoomId} (hk : k ≠ r) :
        (roomShare r inputs (roomShares inputs l s).1).1.room k = (roomShares inputs l s).1.room k :=
      roomShare_room_ne hk
    have hne {k : RoomId} (hk : k ∈ l) : k ≠ r := fun e => hr (e ▸ hk)
    refine ⟨fun k hk => ?others, fun k hk => ?shared, ?frames⟩
    case others =>
      rw [List.mem_append, List.mem_singleton, not_or] at hk
      exact (hkept hk.2).trans (hother k hk.1)
    case shared =>
      rcases List.mem_append.mp hk with hk | hk
      · rw [hkept (hne hk)]
        exact hshared k hk
      · obtain rfl := List.mem_singleton.mp hk
        exact roomShare_shared.congr hroom hslots
    case frames =>
      rw [List.flatMap_append, List.flatMap_singleton, roomShare_completed, completed_congr hroom hslots, hframes]
      exact congrArg (· ++ _) (List.flatMap_congr fun k hk => by rw [hkept (hne hk)])

/-! ### The offers to the frame queue (R111) -/

/-- An assembler but for its DROPPED counter. -/
def Assembler.frame (a : Assembler) : Assembler := { a with dropped := 0 }

section
variable (f : FrameRecord) (s : State) (k : RoomId) (m : MicId)

theorem beginAnalysis_room : (beginAnalysis s).room k = s.room k := by
  unfold beginAnalysis
  split <;> rfl

theorem beginAnalysis_frameQueue : (beginAnalysis s).frameQueue = s.frameQueue := by
  unfold beginAnalysis
  split <;> rfl

/-- R111: a record that finds a place changes no room; a dropped one is counted. -/
theorem offerFrame_room :
    (offerFrame f s).room k =
      if k = f.room ∧ 8 ≤ s.frameQueue.length then
        (s.room k).updMic f.mic fun m =>
          { m with assembler := { m.assembler with dropped := bump m.assembler.dropped 1 } }
      else s.room k := by
  unfold offerFrame
  split
  · next h => rw [beginAnalysis_room, if_neg (by omega)]; rfl
  · next h =>
    rw [room_updRoom]
    split
    · next hk => subst hk; rw [if_pos ⟨rfl, by omega⟩]
    · next hk => rw [if_neg fun h => hk h.1]

theorem offerFrame_ctx : ((offerFrame f s).room k).ctx = (s.room k).ctx := by
  rw [offerFrame_room]
  split
  · exact Room.updMic_ctx ..
  · rfl

theorem offerFrame_frame :
    (((offerFrame f s).room k).mic m).assembler.frame = ((s.room k).mic m).assembler.frame := by
  rw [offerFrame_room]
  split
  · by_cases hm : m = f.mic
    · subst hm; rw [Room.mic_updMic_same]; rfl
    · rw [Room.mic_updMic_ne _ _ _ _ hm]
  · rfl

theorem offerFrame_assembler (h : (f.room, f.mic) ≠ (k, m)) :
    (((offerFrame f s).room k).mic m).assembler = ((s.room k).mic m).assembler := by
  rw [offerFrame_room]
  split
  · next hk => rw [Room.mic_updMic_ne _ _ _ _ fun hm => h (by rw [hk.1, hm])]
  · rfl

theorem offerFrame_frameQueue (h : s.frameQueue.length ≤ 8) :
    (offerFrame f s).frameQueue = (s.frameQueue ++ [f]).take 8 := by
  unfold offerFrame
  split
  · rw [beginAnalysis_frameQueue, List.take_of_length_le (by simpa using by omega)]
  · rw [List.take_append_of_le_length (by omega), List.take_of_length_le h]
    rfl

end

/-- R111: the records are offered one after another. -/
def State.offered (s : State) (fs : List FrameRecord) : State := fs.foldl (fun acc f => offerFrame f acc) s

theorem offered_cons (s : State) (f : FrameRecord) (fs : List FrameRecord) :
    s.offered (f :: fs) = (offerFrame f s).offered fs := rfl

theorem offered_ctx (s : State) (fs : List FrameRecord) (k : RoomId) : ((s.offered fs).room k).ctx = (s.room k).ctx :=
  foldl_keeps _ (fun x => (State.room x k).ctx) (fun g f => offerFrame_ctx f g k) fs s

theorem offered_frame (s : State) (fs : List FrameRecord) (k : RoomId) (m : MicId) :
    (((s.offered fs).room k).mic m).assembler.frame = ((s.room k).mic m).assembler.frame :=
  foldl_keeps _ (fun x => ((State.room x k).mic m).assembler.frame) (fun g f => offerFrame_frame f g k m) fs s

/-- R111: an assembler none of whose records is offered counts no drop. -/
theorem offered_assembler {k : RoomId} {m : MicId} {fs : List FrameRecord} (s : State)
    (h : ∀ f ∈ fs, (f.room, f.mic) ≠ (k, m)) :
    (((s.offered fs).room k).mic m).assembler = ((s.room k).mic m).assembler := by
  induction fs generalizing s with
  | nil => rfl
  | cons f fs ih =>
    obtain ⟨hf, hfs⟩ := List.forall_mem_cons.mp h
    rw [offered_cons, ih _ hfs, offerFrame_assembler f s k m hf]

/-- R111: the records join the frame queue up to 8. -/
theorem offered_frameQueue {s : State} (fs : List FrameRecord) (h : s.frameQueue.length ≤ 8) :
    (s.offered fs).frameQueue = (s.frameQueue ++ fs).take 8 := by
  induction fs generalizing s with
  | nil => rw [List.append_nil, List.take_of_length_le h]; rfl
  | cons f fs ih =>
    have hstep := offerFrame_frameQueue f s h
    rw [offered_cons, ih (by rw [hstep]; exact List.length_take_le ..), hstep, List.append_cons s.frameQueue f fs]
    rw [List.take_append, List.take_append (l₁ := s.frameQueue ++ [f]), List.take_take, List.length_take]
    by_cases hfull : s.frameQueue.length = 8
    · simp [hfull]
    · rw [show min 8 (s.frameQueue ++ [f]).length = (s.frameQueue ++ [f]).length by simp; omega]
      simp

/-! ### The end of the event (R180) -/

/-- A room's lyric state and microphones. -/
def Room.voices (rm : Room) : LyricState × Mic × Mic := (rm.ctx.lyric, rm.mic1, rm.mic2)

section
variable (s : State) (k : RoomId)

theorem updRoom_voices (r : RoomId) {f : Room → Room} (h : ∀ rm, (f rm).voices = rm.voices) :
    ((s.updRoom r f).room k).voices = (s.room k).voices := by
  rw [room_updRoom]
  split
  · next hk => subst hk; exact h _
  · rfl

theorem updEntry_voices (r : RoomId) (ticket : Nat) (f : Entry → Entry) :
    ((s.updEntry r ticket f).room k).voices = (s.room k).voices :=
  updRoom_voices s k r fun _ => rfl

/-- R18: a room that leaves ENDING keeps its lyric state and its microphones. -/
theorem leaveEnding_voices (r : RoomId) : ((leaveEnding r s).room k).voices = (s.room k).voices := by
  by_cases hk : k = r
  · subst hk
    obtain ⟨_, _, _, e⟩ := leaveEnding_room k s
    rw [e, Room.left_eq]
    rfl
  · rw [leaveEnding_room_ne _ _ _ hk]

theorem drain_voices : ((drain s).room k).voices = (s.room k).voices := by
  rcases drain_cases s with ⟨_, e⟩ | ⟨r, _, e⟩ | ⟨_, e⟩ <;> rw [e]
  · unfold drainRoom
    split
    · rfl
    · next rep stack _ =>
      have hgiven := updRoom_voices s k r (f := fun rm => { rm with stack := stack }) fun _ => rfl
      rw [songEndQueued_eq]
      split
      · rw [leaveEnding_voices]; exact hgiven
      · exact hgiven
  · unfold drainChip
    split <;> rfl

theorem schedule_voices : ((schedule s).room k).voices = (s.room k).voices := by
  rcases schedule_cases s with ⟨_, _, _, e⟩ | ⟨_, _, e⟩ | ⟨sent, _, _, hq, e⟩ | ⟨_, _, _, _, _, _, e⟩ <;> rw [e]
  · rfl
  · rfl
  · rcases sendRequest_cases s with ⟨i, _, _, e⟩ | ⟨w, _, _, e⟩ | ⟨_, _, e⟩ <;> rw [e] at hq <;> cases hq
    · exact updEntry_voices (s.count _) k i.room i.ticket _
    · exact updEntry_voices (s.count _) k w.1 w.2.ticket _
  · exact drain_voices _ k

theorem sendIfIdle_voices : (s.sendIfIdle.room k).voices = (s.room k).voices := by
  rcases sendIfIdle_cases s with ⟨_, e⟩ | ⟨_, e⟩ <;> rw [e]
  exact schedule_voices s k

theorem sendIfIdle_lyric : (s.sendIfIdle.room k).ctx.lyric = (s.room k).ctx.lyric :=
  congrArg Prod.fst (sendIfIdle_voices s k)

theorem sendIfIdle_mic (m : MicId) : (s.sendIfIdle.room k).mic m = (s.room k).mic m := by
  have h : (s.sendIfIdle.room k).mic1 = (s.room k).mic1 ∧ (s.sendIfIdle.room k).mic2 = (s.room k).mic2 :=
    Prod.mk.inj (congrArg Prod.snd (sendIfIdle_voices s k))
  unfold Room.mic
  rw [h.1, h.2]

end

/-! ### The sample period (R90, R109 to R111) -/

section
variable {s : State} {inputs : Vector Sample 8} {r : RoomId} {m : MicId}

theorem mem_completed {after : Room} {f : FrameRecord} :
    f ∈ s.completed inputs r after ↔ ∃ m y, (s.taken inputs r m).2 = some y ∧ f = after.frameRecord r m y := by
  simp [State.completed, eq_comm]

/-- What the period leaves in its last state `t`: `after r` is room `r` after the rooms' shares, before the offers and
the end of the event. -/
structure PeriodEnds (inputs : Vector Sample 8) (roomOrder offerOrder : Nat) (s t : State) (after : RoomId → Room) :
    Prop where
  shared : ∀ r, s.Shared inputs r (after r)
  frameQueue : s.frameQueue.length ≤ 8 → t.frameQueue = (s.frameQueue ++ ordered offerOrder
    ((ordered roomOrder allRooms).flatMap fun r => s.completed inputs r (after r))).take 8
  lyric : ∀ r, (t.room r).ctx.lyric = (after r).ctx.lyric
  frame : ∀ r m, ((t.room r).mic m).assembler.frame = ((after r).mic m).assembler.frame
  assembler : ∀ r m, (s.taken inputs r m).2 = none → ((t.room r).mic m).assembler = ((after r).mic m).assembler

theorem samplePeriod_ends (hm : s.mode ≠ .stop) (inputs : Vector Sample 8) (roomOrder offerOrder : Nat) :
    ∃ after, PeriodEnds inputs roomOrder offerOrder s (samplePeriod inputs roomOrder offerOrder s) after := by
  have hperm := ordered_perm roomOrder allRooms
  have hall (r : RoomId) : r ∈ ordered roomOrder allRooms := hperm.mem_iff.mpr (mem_allRooms r)
  obtain ⟨_, hshared, hframes⟩ := roomShares_spec inputs { s with audioOut := s.slotValues }
    (hperm.nodup_iff.mpr (by decide) : (ordered roomOrder allRooms).Nodup)
  have hqueue := roomShares_frameQueue inputs (ordered roomOrder allRooms) { s with audioOut := s.slotValues }
  have hperiod : samplePeriod inputs roomOrder offerOrder s =
      let shares := roomShares inputs (ordered roomOrder allRooms) { s with audioOut := s.slotValues }
      (shares.1.offered (ordered offerOrder shares.2)).sendIfIdle := if_neg hm
  rw [hperiod]
  generalize roomShares inputs (ordered roomOrder allRooms) { s with audioOut := s.slotValues } = shares at *
  obtain ⟨shared, frames⟩ := shares
  dsimp only at *
  refine ⟨shared.room,
    fun r => .congr (x := { s with audioOut := s.slotValues }) (s := s) rfl rfl (hshared r (hall r)),
    fun h => ?queue, fun r => ?lyric, fun r m => ?frame, fun r m hnone => ?assembler⟩
  case queue =>
    rw [sendIfIdle_frameQueue, offered_frameQueue _ (by rw [hqueue]; exact h), hqueue, hframes]
    rfl
  case lyric => rw [sendIfIdle_lyric, offered_ctx]
  case frame => rw [sendIfIdle_mic, offered_frame]
  case assembler =>
    rw [sendIfIdle_mic]
    refine offered_assembler shared fun f hf he => ?_
    rw [(ordered_perm _ _).mem_iff, hframes, List.mem_flatMap] at hf
    obtain ⟨k, _, hk⟩ := hf
    obtain ⟨j, y, hy, rfl⟩ := mem_completed.mp hk
    obtain ⟨rfl, rfl⟩ := Prod.mk.inj he
    exact absurd (hnone.symm.trans hy) nofun

/-- R110: which microphones complete a frame, where no frame holds more than 1023 samples. -/
theorem taken_isSome (h : ((s.room r).mic m).assembler.samples.length ≤ 1023) :
    (s.taken inputs r m).2.isSome =
      ((List.finRange 8).any (fun k => s.slotIn.get k = some ⟨r, m⟩) && ((s.room r).mic m).assembler.assembling
        && ((s.room r).mic m).assembler.samples.length == 1023) := by
  rw [Bool.eq_iff_iff]
  simp only [Bool.and_eq_true, List.any_eq_true, List.mem_finRange, true_and, decide_eq_true_eq, beq_iff_eq,
    ← micInput_isSome s inputs r m]
  constructor
  · intro hsome
    obtain ⟨y, hy⟩ := Option.isSome_iff_exists.mp hsome
    obtain ⟨ha, hl, x, hx, _⟩ := take_some hy
    exact ⟨⟨by rw [hx]; rfl, ha⟩, by omega⟩
  · rintro ⟨⟨hx, ha⟩, hl⟩
    obtain ⟨x, hx⟩ := Option.isSome_iff_exists.mp hx
    unfold State.taken
    rw [hx, take_completes ha (by omega)]
    rfl

/-- R111: the records of a room, mic 1 before mic 2. -/
theorem completed_labels (after : Room) :
    (s.completed inputs r after).map (fun f => (f.room, f.mic)) =
      [(r, (0 : MicId)), (r, 1)].filter fun p => (s.taken inputs p.1 p.2).2.isSome := by
  unfold State.completed
  cases h0 : (s.taken inputs r 0).2 <;> cases h1 : (s.taken inputs r 1).2 <;> simp [h0, h1, Room.frameRecord]

/-- The backing sample that a room gives in the period, counted. -/
theorem gives_eq (rm : Room) :
    (if rm.givesSample.isSome then 1 else 0) =
      if rm.ctx.state = .playing ∧ rm.port.pendingEnd = false ∧ rm.port.queue ≠ [] then 1 else 0 :=
  if_congr rm.givesSample_isSome rfl rfl

end

/-- Settles O58: the assemblers of a room whose song goes on, and the records of the completed frames. -/
theorem samplePeriodFeedsTheAssemblers : Obligations.SamplePeriodFeedsTheAssemblers := by
  intro inputs roomOrder offerOrder s hm hone
  obtain ⟨after, ends⟩ := samplePeriod_ends hm inputs roomOrder offerOrder
  refine ⟨_, rfl, ?_⟩
  generalize samplePeriod inputs roomOrder offerOrder s = t at ends
  dsimp only
  simp only [← gives_eq]
  refine ⟨fun r m hgo => ⟨fun k hk ha => ?fed, fun hun => ?unfed⟩, fun hlen hqueue =>
    ⟨_, ends.frameQueue hqueue, ordered_perm _ _, ?labels, fun f hf => ?records⟩⟩
  case fed =>
    have hshared := (ends.shared r).assembler hgo m
    have hinput : s.micInput inputs r m = some (inputs.get k) :=
      micInput_mapped inputs hk fun j hj h => hj (hone j k _ h hk)
    refine ⟨fun hl => ?grows, fun hl => ?completes⟩
    case grows =>
      have htaken : s.taken inputs r m = _ := (congrArg (Assembler.take _ · _) hinput).trans (take_grows ha hl)
      rw [ends.assembler r m (by rw [htaken]), hshared, htaken]
    case completes =>
      have htaken : s.taken inputs r m = _ :=
        (congrArg (Assembler.take _ · _) hinput).trans (take_completes ha hl.ge)
      have hframe := ends.frame r m
      rw [hshared, htaken] at hframe
      exact ⟨congrArg Assembler.samples hframe, congrArg Assembler.consumed hframe,
        (congrArg Assembler.assembling hframe).trans ha⟩
  case unfed =>
    have htaken : s.taken inputs r m = (((s.room r).mic m).assembler, none) := by
      rcases hun with ha | hno
      · exact take_notAssembling ha _ _
      · exact congrArg (Assembler.take _ · _) (micInput_unmapped inputs hno)
    rw [ends.assembler r m (by rw [htaken]), (ends.shared r).assembler hgo m, htaken]
  case labels =>
    rw [List.map_flatMap, List.filter_flatMap]
    refine List.flatMap_congr fun r _ => ?_
    rw [completed_labels]
    exact List.filter_congr fun p _ => taken_isSome (hlen p.1 p.2)
  case records =>
    obtain ⟨r, _, hr⟩ := List.mem_flatMap.mp hf
    obtain ⟨m, y, hy, rfl⟩ := mem_completed.mp hr
    obtain ⟨_, _, x, hx, rfl⟩ := take_some hy
    obtain ⟨k, hk, rfl⟩ := micInput_some hx
    obtain ⟨hepoch, hposition⟩ := Prod.mk.inj (ends.shared r).stamp
    refine ⟨k, hk, ?_⟩
    simp only [Room.frameRecord, hepoch, hposition, ends.lyric r]

end Sys2Proof.Machine
end

section
/-! PROOFS. The pitch ladder (O36), the frame queue and the analysis engine (O57), and the result of a frame (O59). -/

namespace Sys2Proof.Machine

/-! ### The ladder (R118) -/

/-- R118, check 3: boundaries that fall all the way have no rise. -/
theorem firstRise_none (i : Nat) (l : List Nat) (hfalls : ∀ k, k + 1 < l.length → l.getD (k + 1) 0 < l.getD k 0) :
    firstRise i l = none := by
  induction i, l using firstRise.induct with
  | case1 i a b rest h ih =>
    rw [firstRise, if_pos h]
    exact ih fun k hk => hfalls (k + 1) (Nat.succ_lt_succ hk)
  | case2 i a b rest h => exact absurd (hfalls 0 (by simp)) h
  | case3 l i hshort =>
    match l with
    | [] | [_] => rfl
    | a :: b :: rest => exact absurd rfl (hshort a b rest)

/-- R118, check 3: the lowest index at which the boundaries do not fall. -/
theorem firstRise_some (i : Nat) (l : List Nat) {k : Nat} (hk : k + 1 < l.length)
    (hrise : l.getD k 0 ≤ l.getD (k + 1) 0) (hfalls : ∀ j, j < k → l.getD (j + 1) 0 < l.getD j 0) :
    firstRise i l = some (i + k + 1) := by
  induction i, l using firstRise.induct generalizing k with
  | case1 i a b rest h ih =>
    cases k with
    | zero => exact absurd hrise (Nat.not_le.mpr h)
    | succ k =>
      rw [firstRise, if_pos h, ih (Nat.lt_of_succ_lt_succ hk) hrise fun j hj => hfalls (j + 1) (Nat.succ_lt_succ hj)]
      congr 1
      omega
  | case2 i a b rest h =>
    cases k with
    | zero => exact if_neg h
    | succ k => exact absurd (hfalls 0 k.succ_pos) h
  | case3 l i hshort =>
    match l with
    | a :: b :: rest => exact absurd rfl (hshort a b rest)

section
variable {s : State} {first : Nat} {bounds : List Nat}

theorem ladderOrder_range (hm : s.mode = .config) (h : first ≠ 0 ∨ bounds.length ≠ 43) :
    ladderOrder first bounds s = refuse s .range :=
  (if_neg (not_not_intro hm)).trans (if_pos h)

/-- R118, check 3, of a ladder that starts at boundary 0 and has 43 of them. -/
theorem ladderOrder_whole (hm : s.mode = .config) (hf : first = 0) (hl : bounds.length = 43) :
    ladderOrder first bounds s =
      (firstRise 0 bounds).elim (accept { s with ladder := { loaded := true, bounds := bounds } })
        fun k => refuse s .sequence (num 1 k) := by
  unfold ladderOrder
  rw [if_neg (not_not_intro hm), if_neg (by simp [hf, hl])]
  cases firstRise 0 bounds <;> rfl

end

/-- Settles O36, check by check of R118. -/
theorem ladderAppends : Obligations.LadderAppends := by
  intro tag first bounds s
  refine ⟨⟨_, rfl, rfl⟩, fun hm => congrArg Host.Outcome.next (takeOrder_standby hm ..), fun h hm => ?mode,
    fun h hm => ⟨fun hbad => ?range, fun hf hl => ⟨fun k hk hrise hfalls => ?sequence, fun hfalls => ?ok⟩⟩⟩
  all_goals refine congrArg Host.Outcome.next (chipOrder_replied h ?_)
  case mode => exact if_pos hm
  case range => exact ladderOrder_range (s := s.countIn) hm hbad
  case sequence =>
    rw [ladderOrder_whole (s := s.countIn) hm hf hl, firstRise_some 0 bounds (by omega) hrise hfalls, Nat.zero_add]
    rfl
  case ok =>
    rw [ladderOrder_whole (s := s.countIn) hm hf hl, firstRise_none 0 bounds fun k hk => hfalls k (by omega)]
    rfl

/-! ### The frame queue and the engine (R111, R112) -/

theorem beginAnalysis_busy {s : State} (h : s.engine ≠ none) : beginAnalysis s = s := by
  unfold beginAnalysis
  split
  · next he _ => exact absurd he h
  · rfl

/-- R112: an IDLE engine begins on the head record, if the queue holds one. -/
theorem beginAnalysis_idle {s : State} (h : s.engine = none) :
    beginAnalysis s = { s with engine := s.frameQueue.head?.map s.analysisOf } := by
  unfold beginAnalysis
  cases hq : s.frameQueue with
  | nil =>
    simp only [h, List.head?_nil, Option.map_none]
    rw [← h, ← hq]
  | cons f rest => rw [h]; rfl

/-- R112: the values an analysis takes are those of the room parameters and of the ladder. -/
theorem analysisOf_congr {s t : State} (hparams : ∀ r, (t.room r).params = (s.room r).params)
    (hladder : t.ladder = s.ladder) : t.analysisOf = s.analysisOf := by
  funext f
  unfold State.analysisOf
  rw [hparams, hladder]

theorem scoreFrame_params (rm : Room) (f : ResultRecord) : (rm.scoreFrame f).params = rm.params := by
  unfold Room.scoreFrame
  split
  · rfl
  · exact Room.updMic_params ..

theorem analysisComplete_idle {s : State} (h : s.mode = .stop ∨ s.engine = none) : analysisComplete s = s := by
  unfold analysisComplete
  rcases h with h | h
  · exact if_pos h
  · rw [h]
    exact ite_self s

/-- R112, R120: the state in which the result of `f` has been handed to the Score Unit and kept as the microphone's last. -/
def State.scored (s : State) (a : Analysis) (f : FrameRecord) : State :=
  s.updRoom f.room fun rm => (rm.scoreFrame (analyse a f)).updMic f.mic fun m =>
    { m with lastResult := some (analyse a f) }

theorem scored_params (s : State) (a : Analysis) (f : FrameRecord) (r : RoomId) :
    ((s.scored a f).room r).params = (s.room r).params := by
  unfold State.scored
  rw [room_updRoom]
  split
  · next h => rw [h, Room.updMic_params, scoreFrame_params]
  · rfl

/-- R112: the analysed record leaves the queue, and the engine begins on the next one with the values of `s`, which the
scoring leaves. -/
theorem analysisComplete_some {s : State} (hm : s.mode ≠ .stop) {a : Analysis} {f : FrameRecord}
    {rest : List FrameRecord} (he : s.engine = some a) (hq : s.frameQueue = f :: rest) :
    analysisComplete s =
      { s.scored a f with frameQueue := rest, engine := rest.head?.map s.analysisOf } := by
  have hvalues : (s.scored a f).analysisOf = s.analysisOf := analysisOf_congr (scored_params s a f) rfl
  unfold analysisComplete
  rw [if_neg hm, he, hq, ← hvalues]
  exact beginAnalysis_idle rfl

/-- Settles O57: the assembler, the offer of a frame, and the end of an analysis. -/
theorem framesMoveToTheScoreUnit : Obligations.FramesMoveToTheScoreUnit := by
  refine ⟨fun a x gave => ⟨take_grows, fun ha hl => take_completes ha hl.ge, fun ha => take_notAssembling ha _ _, rfl⟩,
    fun s => ⟨fun f => ⟨fun hq he => ?first, fun hlen he => ?later, fun hfull => if_neg (Nat.not_lt.mpr hfull)⟩,
      fun a f rest hm he hq => congrArg Host.Outcome.next (analysisComplete_some hm he hq),
      fun h => congrArg Host.Outcome.next (analysisComplete_idle h)⟩⟩
  case first =>
    refine (if_pos (by simp [hq])).trans ((beginAnalysis_idle (by exact he)).trans ?_)
    simp only [hq, List.nil_append, List.head?_cons, Option.map_some]
    rfl
  case later => exact (if_pos hlen).trans (beginAnalysis_busy he)

/-! ### The crossing detector (R114) -/

section
variable {h i : Nat} {d : Detector} {x : Sample}

/-- R114: an armed detector that meets +H. -/
theorem examine_crossing (ha : d.armed = true) (hx : (h : Int) ≤ x.toInt) :
    examine h d i x = { armed := false, n := d.n + 1, first := if d.n = 0 then i else d.first, last := i } :=
  if_pos ⟨ha, hx⟩

theorem examine_armed (ha : d.armed = true) (hx : x.toInt < h) : examine h d i x = d :=
  (if_neg fun c => absurd c.2 (Int.not_le.mpr hx)).trans (if_neg fun c => by simp [ha] at c)

/-- R114: a disarmed detector that meets -H. -/
theorem examine_arming (ha : d.armed = false) (hx : x.toInt ≤ -(h : Int)) : examine h d i x = { d with armed := true } :=
  (if_neg fun c => by simp [ha] at c).trans (if_pos ⟨ha, hx⟩)

theorem examine_disarmed (ha : d.armed = false) (hx : -(h : Int) < x.toInt) : examine h d i x = d :=
  (if_neg fun c => by simp [ha] at c).trans (if_neg fun c => absurd c.2 (Int.not_le.mpr hx))

end

theorem detect_append_singleton (h i : Nat) (front : List Sample) (x : Sample) (d : Detector) :
    detect h i (front ++ [x]) d = examine h (detect h i front d) (i + front.length) x := by
  induction front generalizing i d with
  | nil => rfl
  | cons y front ih =>
    refine (ih (i + 1) (examine h d i y)).trans ?_
    rw [List.length_cons, Nat.add_assoc, Nat.add_comm 1]
    rfl

/-- What a detector that started disarmed at index 0 holds before it examines index `i`: its crossings lie at indexes
from 1 to `i - 1`, two or more apart, for a sample between two of them has armed it. -/
structure Detector.Spaced (d : Detector) (i : Nat) : Prop where
  crossed : 0 < d.n → 1 ≤ d.first ∧ d.first + 2 * (d.n - 1) ≤ d.last ∧ d.last + 1 ≤ i
  armed : d.armed = true → 1 ≤ i ∧ (0 < d.n → d.last + 2 ≤ i)

theorem examine_spaced {d : Detector} {i : Nat} (hd : d.Spaced i) (h : Nat) (x : Sample) :
    (examine h d i x).Spaced (i + 1) := by
  obtain ⟨hcrossed, harmed⟩ := hd
  have later : d.Spaced (i + 1) := ⟨by omega, by omega⟩
  cases ha : d.armed with
  | true =>
    by_cases hx : (h : Int) ≤ x.toInt
    · rw [examine_crossing ha hx]
      have hbetween := harmed ha
      refine ⟨fun _ => ?_, fun hf => Bool.noConfusion hf⟩
      dsimp only
      split <;> omega
    · rwa [examine_armed ha (Int.not_le.mp hx)]
  | false =>
    by_cases hx : x.toInt ≤ -(h : Int)
    · rw [examine_arming ha hx]
      exact ⟨later.crossed, fun _ => ⟨Nat.le_add_left 1 i, fun hn => Nat.succ_le_succ (hcrossed hn).2.2⟩⟩
    · rwa [examine_disarmed ha (Int.not_le.mp hx)]

theorem detect_spaced (h : Nat) (xs : List Sample) {i : Nat} {d : Detector} (hd : d.Spaced i) :
    (detect h i xs d).Spaced (i + xs.length) := by
  induction xs generalizing i d with
  | nil => exact hd
  | cons x xs ih =>
    rw [List.length_cons, Nat.add_comm xs.length, ← Nat.add_assoc]
    exact ih (examine_spaced hd h x)

/-- The crossings of a frame: a detector starts a frame disarmed, with none. -/
theorem detect_frame_spaced (h : Nat) (xs : List Sample) : (detect h 0 xs {}).Spaced xs.length := by
  have hstart : Detector.Spaced {} 0 := ⟨fun hn => absurd hn (by decide), fun ha => Bool.noConfusion ha⟩
  simpa using detect_spaced h xs hstart

/-! ### Loudness, period and note (R113, R115, R116) -/

theorem magnitude_le (x : Sample) : magnitude x ≤ 32768 := by
  have hlo : -32768 ≤ x.toInt := BitVec.le_toInt x
  have hhi : x.toInt < 32768 := BitVec.toInt_lt
  unfold magnitude
  omega

/-- R113: the mean of 1024 magnitudes. -/
theorem meanAbs_le {xs : List Sample} (h : xs.length = 1024) : meanAbs xs ≤ 32768 := by
  have hsum : (xs.map magnitude).sum ≤ (xs.map magnitude).length • 32768 :=
    List.sum_le_card_nsmul _ _ fun n hn => by
      obtain ⟨x, _, rfl⟩ := List.mem_map.mp hn
      exact magnitude_le x
  rw [List.length_map, h, smul_eq_mul] at hsum
  unfold meanAbs
  omega

/-- R116: a frame is voiced by its loudness, and by a period within the ladder. -/
theorem voiced_iff (a : Analysis) (mav : Nat) (period : Option Nat) :
    voiced a mav period = true ↔
      a.voiceThreshold ≤ mav ∧ ∃ p, period = some p ∧ bound a.bounds 42 ≤ p ∧ p < bound a.bounds 0 := by
  cases period with
  | none => simp [voiced]
  | some p => simp [voiced, and_assoc]

/-- R116: the period `p` is one of the note 43 + `k`. -/
def OnNote (bounds : List Nat) (p k : Nat) : Prop := bound bounds (k + 1) ≤ p ∧ p < bound bounds k

/-- A period between the last and the first boundary lies between two neighbours. -/
theorem exists_onNote {bounds : List Nat} {p n : Nat} (hlast : bound bounds n ≤ p) (hfirst : p < bound bounds 0) :
    ∃ k, k < n ∧ OnNote bounds p k := by
  induction n with
  | zero => omega
  | succ n ih =>
    by_cases hn : bound bounds n ≤ p
    · obtain ⟨k, hk, hstep⟩ := ih hn
      exact ⟨k, hk.trans n.lt_succ_self, hstep⟩
    · exact ⟨n, n.lt_succ_self, hlast, Nat.not_le.mp hn⟩

/-- R116: the note of a period within the ladder. -/
theorem noteOf_within {bounds : List Nat} {p : Nat} (hlast : bound bounds 42 ≤ p) (hfirst : p < bound bounds 0) :
    ∃ k, k ≤ 41 ∧ OnNote bounds p k ∧ noteOf bounds p = some (43 + k) := by
  obtain ⟨j, hj, hstep⟩ := exists_onNote hlast hfirst
  have hfound : ((List.range 42).find? fun k => bound bounds (k + 1) ≤ p && p < bound bounds k).isSome = true :=
    List.find?_isSome.mpr ⟨j, List.mem_range.mpr hj, by simpa [OnNote] using hstep⟩
  obtain ⟨k, hk⟩ := Option.isSome_iff_exists.mp hfound
  exact ⟨k, Nat.le_of_lt_succ (List.mem_range.mp (List.mem_of_find?_eq_some hk)),
    by simpa [OnNote] using List.find?_some hk, congrArg _ hk⟩

/-- Of two notes of one period neither is above the other, where the ladder falls. -/
theorem onNote_le {bounds : List Nat} (hfalls : StrictAntiOn (bound bounds) (Set.Iic 42)) {p j k : Nat} (hj : j ≤ 41)
    (hk : k ≤ 41) (hpj : OnNote bounds p j) (hpk : OnNote bounds p k) : k ≤ j := by
  by_contra hjk
  have hbelow : bound bounds k ≤ bound bounds (j + 1) :=
    hfalls.antitoneOn (Nat.succ_le_succ hj) (hk.trans (by decide)) (Nat.not_le.mp hjk)
  exact absurd hpk.2 (Nat.not_lt.mpr (hbelow.trans hpj.1))

/-- R115: the period of two or more crossings in a frame of 1024 samples. -/
theorem Detector.Spaced.period_bounds {d : Detector} (hd : d.Spaced 1024) (hn : 2 ≤ d.n) :
    1 ≤ d.first ∧ 2 * (d.n - 1) ≤ d.last - d.first ∧ d.last - d.first ≤ 1022
      ∧ d.period = some (16 * (d.last - d.first) / (d.n - 1))
      ∧ 32 ≤ 16 * (d.last - d.first) / (d.n - 1) ∧ 16 * (d.last - d.first) / (d.n - 1) ≤ 16352 := by
  obtain ⟨hfirst, hapart, hlast⟩ := hd.crossed (by omega)
  have hlow : 32 ≤ 16 * (d.last - d.first) / (d.n - 1) := (Nat.le_div_iff_mul_le (by omega)).mpr (by omega)
  have hhigh : 16 * (d.last - d.first) / (d.n - 1) ≤ 16352 := (Nat.div_le_self _ _).trans (by omega)
  exact ⟨hfirst, by omega, by omega, if_pos hn, hlow, hhigh⟩

theorem Detector.Spaced.crossings_le {d : Detector} (hd : d.Spaced 1024) : d.n ≤ 512 := by
  have := hd.crossed
  omega

theorem Detector.period_none {d : Detector} (h : d.n < 2) : d.period = none := if_neg (Nat.not_le.mpr h)

/-- Settles O59: the four cases of the detector, its run sample by sample, and the fields of a result. -/
theorem analysisOfAFrame : Obligations.AnalysisOfAFrame := by
  refine ⟨fun h i x d => ⟨examine_crossing, examine_armed, examine_arming, examine_disarmed⟩,
    fun h i front x d => ⟨rfl, detect_append_singleton h i front x d⟩, fun a f hlen => ?_⟩
  have hspaced := detect_frame_spaced a.hysteresis f.samples
  rw [hlen] at hspaced
  have hvoiced := voiced_iff a (analyse a f).mav (analyse a f).period
  refine ⟨rfl, meanAbs_le hlen, rfl, hspaced.crossings_le, fun hn => ?unpitched, hspaced.period_bounds, hvoiced,
    fun hv => if_neg (Bool.eq_false_iff.mp hv), fun hfalls p hv hp => ?note, rfl, rfl, rfl, rfl, rfl, rfl, rfl⟩
  case unpitched =>
    have hperiod : (analyse a f).period = none := Detector.period_none hn
    exact ⟨hperiod, congrArg (voiced a (analyse a f).mav) hperiod⟩
  case note =>
    obtain ⟨_, q, hq, hlast, hfirst⟩ := hvoiced.mp hv
    obtain rfl : p = q := Option.some.inj (hp.symm.trans hq)
    obtain ⟨k, hk, hpk, hnote⟩ := noteOf_within hlast hfirst
    have hanti : StrictAntiOn (bound a.bounds) (Set.Iic 42) :=
      strictAntiOn_Iic_of_succ_lt fun m hm => hfalls m (Nat.le_of_lt_succ hm)
    have hbind : (analyse a f).note = (analyse a f).period.bind (noteOf a.bounds) := if_pos hv
    exact ⟨k, hk, hpk.1, hpk.2, by rw [hbind, hp]; exact hnote, fun j hj hlo hhi =>
      Nat.le_antisymm (onNote_le hanti hk hj hpk ⟨hlo, hhi⟩) (onNote_le hanti hj hk ⟨hlo, hhi⟩ hpk)⟩

end Sys2Proof.Machine
end

section
/-! PROOFS. The Score Unit: a frame's grade, the covering notes, its outcome, its count and credit, and the score
(O60). -/

namespace Sys2Proof.Machine

/-! ### The best grade (R131) -/

/-- R131: the better grade of two is one of them, and neither has more points. -/
theorem Grade.better_spec (a b : Grade) :
    (a.better b = a ∨ a.better b = b) ∧ a.points ≤ (a.better b).points ∧ b.points ≤ (a.better b).points := by
  cases a <;> cases b <;> decide

/-- R131: a fold of `better` ends with one of the grades it meets, and none of them has more points. -/
theorem foldl_better {α : Type} (grade : α → Grade) (gs : List α) (first : Grade) :
    let best := gs.foldl (fun best g => best.better (grade g)) first
    (best = first ∨ ∃ x ∈ gs, best = grade x) ∧ first.points ≤ best.points
      ∧ ∀ x ∈ gs, (grade x).points ≤ best.points := by
  induction gs generalizing first with
  | nil => exact ⟨.inl rfl, Nat.le_refl _, nofun⟩
  | cons g gs ih =>
    obtain ⟨hone, hfirst, hrest⟩ := ih (first.better (grade g))
    obtain ⟨hpick, hleft, hright⟩ := Grade.better_spec first (grade g)
    refine ⟨?_, hleft.trans hfirst, List.forall_mem_cons.mpr ⟨hright.trans hfirst, hrest⟩⟩
    rcases hone with e | ⟨x, hx, e⟩
    · rcases hpick with h | h
      · exact .inl (e.trans h)
      · exact .inr ⟨g, List.mem_cons_self, e.trans h⟩
    · exact .inr ⟨x, List.mem_cons_of_mem g hx, e⟩

/-- R131: the grade of a frame is the best one over its covering notes. -/
theorem judgeAll_best (p : RoomParams) (shift : Int) (note : Option Nat) (g : GuideNote) (gs : List GuideNote) :
    (∃ x ∈ g :: gs, judgeAll p shift note g gs = judge p shift note x)
      ∧ ∀ x ∈ g :: gs, (judge p shift note x).points ≤ (judgeAll p shift note g gs).points := by
  obtain ⟨hone, hfirst, hrest⟩ := foldl_better (judge p shift note) gs (judge p shift note g)
  refine ⟨?_, List.forall_mem_cons.mpr ⟨hfirst, hrest⟩⟩
  rcases hone with e | ⟨x, hx, e⟩
  · exact ⟨g, List.mem_cons_self, e⟩
  · exact ⟨x, List.mem_cons_of_mem g hx, e⟩

/-! ### The grade over one note (R129) -/

section
variable {p : RoomParams} {shift : Int} {n : Nat} {g0 : GuideNote}

theorem judge_outside (hf : p.octaveFold = false) (h : g0.note + shift < 43 ∨ 84 < g0.note + shift) :
    judge p shift (some n) g0 = .off := if_pos ⟨hf, h⟩

theorem judge_plain (hf : p.octaveFold = false) (hlow : 43 ≤ g0.note + shift) (hhigh : g0.note + shift ≤ 84) :
    judge p shift (some n) g0 =
      if (n - (g0.note + shift)).natAbs = 0 then .perfect
      else if (n - (g0.note + shift)).natAbs ≤ p.tolerance then .near else .off := by
  unfold judge noteDifference
  dsimp only
  rw [if_neg (by omega), hf]
  rfl

theorem judge_folded (hf : p.octaveFold = true) :
    judge p shift (some n) g0 =
      if ((n - (g0.note + shift) + 6) % 12 - 6).natAbs = 0 then .perfect
      else if ((n - (g0.note + shift) + 6) % 12 - 6).natAbs ≤ p.tolerance then .near else .off := by
  unfold judge noteDifference
  dsimp only
  rw [if_neg (by simp [hf]), hf]
  rfl

end

/-! ### The covering notes (R127) -/

theorem Part.hasA_iff (p : Part) : p.hasA = true ↔ p ≠ .b := by cases p <;> decide

theorem Part.hasB_iff (p : Part) : p.hasB = true ↔ p ≠ .a := by cases p <;> decide

/-- R127: the note is of a part that `part` takes and ends after the tick. -/
def openNote (part : Part → Bool) (t : Int) (g : GuideNote) : Bool :=
  part g.part && decide (t < (g.start + g.duration : Nat))

theorem openNote_iff {part : Part → Bool} {t : Int} {g : GuideNote} :
    openNote part t g = true ↔ part g.part = true ∧ t < (g.start + g.duration : Nat) := by
  rw [openNote, Bool.and_eq_true, decide_eq_true_iff]

/-- R127: the cursor stops at the first note from it on that is of its part and ends after the tick. -/
theorem moveCursor_eq (part : Part → Bool) (t : Int) (i : Nat) (gs : List GuideNote) :
    moveCursor part t i gs = i + gs.findIdx (openNote part t) := by
  induction gs generalizing i with
  | nil => rfl
  | cons g gs ih =>
    rw [moveCursor, List.findIdx_cons, ih]
    split
    · next h => rw [openNote_iff.mpr h]; rfl
    · next h => rw [Bool.eq_false_iff.mpr (mt openNote_iff.mp h), cond_false]; omega

section
variable (belongs : GuideNote → Prop) (guide : List GuideNote) (t : Nat)

/-- R127: a cursor moves from `before` past notes not of its part and notes that have ended, and stops at `after`: a
note of its part that ends later, or the end of the guide. -/
def CursorStops (before after : Nat) : Prop :=
  before ≤ after ∧ after ≤ guide.length
    ∧ (∀ (i : Nat) (g : GuideNote), before ≤ i → i < after → guide[i]? = some g → belongs g → g.start + g.duration ≤ t)
    ∧ ∀ g : GuideNote, guide[after]? = some g → belongs g ∧ t < g.start + g.duration

/-- R31: no two notes of a part overlap, and those before the cursor are over. -/
def NotesApart (cursor : Nat) : Prop :=
  (∀ (i j : Nat) (g h : GuideNote), i < j → guide[i]? = some g → guide[j]? = some h → belongs g → belongs h →
      g.start + g.duration ≤ h.start)
    ∧ ∀ (i : Nat) (g : GuideNote), i < cursor → guide[i]? = some g → belongs g → g.start + g.duration ≤ t

end

theorem moveCursor_stops {part : Part → Bool} {belongs : GuideNote → Prop} {guide : List GuideNote} {before : Nat}
    (hpart : ∀ g : GuideNote, part g.part = true ↔ belongs g) (t : Nat) (hbefore : before ≤ guide.length) :
    CursorStops belongs guide t before (moveCursor part t before (guide.drop before)) := by
  obtain ⟨hforward, hwithin⟩ := moveCursor_le part t (guide.drop before) before
  rw [List.length_drop] at hwithin
  rw [moveCursor_eq] at hforward hwithin ⊢
  have hopen (g : GuideNote) : openNote part t g = true ↔ belongs g ∧ t < g.start + g.duration := by
    rw [openNote_iff, hpart, Int.ofNat_lt]
  refine ⟨hforward, by omega, fun i g hi hlt hg hb => ?_, fun g hg => ?_⟩
  · obtain ⟨k, rfl⟩ := Nat.exists_eq_add_of_le hi
    rw [← List.getElem?_drop] at hg
    obtain ⟨_, e⟩ := List.getElem?_eq_some_iff.mp hg
    have hclosed := List.not_of_lt_findIdx (Nat.lt_of_add_lt_add_left hlt)
    rw [e, Bool.eq_false_iff, Ne, hopen] at hclosed
    exact Nat.not_lt.mp fun hend => hclosed ⟨hb, hend⟩
  · rw [← List.getElem?_drop] at hg
    obtain ⟨hlt, e⟩ := List.getElem?_eq_some_iff.mp hg
    rw [← hopen, ← e]
    exact List.findIdx_getElem

theorem coverAt_eq_some {guide : List GuideNote} {cursor t : Nat} {g : GuideNote} :
    coverAt guide cursor t = some g ↔ guide[cursor]? = some g ∧ g.start ≤ t := by
  unfold coverAt
  cases guide[cursor]? with
  | none => simp
  | some x =>
    dsimp only
    rw [Option.ite_none_right_eq_some, Option.some.injEq, Int.ofNat_le]
    exact ⟨fun ⟨h, e⟩ => ⟨e, e ▸ h⟩, fun ⟨e, h⟩ => ⟨e ▸ h, e⟩⟩

/-- R127: where the notes of a part do not overlap, the note at the stopped cursor is the only one of the part that can
cover the tick. -/
theorem mem_coverAt {belongs : GuideNote → Prop} {guide : List GuideNote} {t before after : Nat}
    (hstops : CursorStops belongs guide t before after) (hapart : NotesApart belongs guide t before) (g : GuideNote) :
    g ∈ coverAt guide after t ↔ g ∈ guide ∧ g.start ≤ t ∧ t < g.start + g.duration ∧ belongs g := by
  obtain ⟨_, _, hpassed, hstopped⟩ := hstops
  obtain ⟨hdisjoint, hover⟩ := hapart
  rw [Option.mem_def, coverAt_eq_some]
  refine ⟨fun ⟨hg, hstart⟩ => ?_, fun ⟨hmem, hstart, hend, hb⟩ => ⟨?_, hstart⟩⟩
  · obtain ⟨hb, hend⟩ := hstopped g hg
    exact ⟨List.mem_of_getElem? hg, hstart, hend, hb⟩
  · obtain ⟨i, hi⟩ := List.mem_iff_getElem?.mp hmem
    have hnot : ¬i < after := fun hlt => by
      have : g.start + g.duration ≤ t := by
        by_cases hbefore : i < before
        · exact hover i g hbefore hi hb
        · exact hpassed i g (Nat.not_lt.mp hbefore) hlt hi hb
      omega
    have hlen : i < guide.length := (List.getElem?_eq_some_iff.mp hi).1
    rcases Nat.eq_or_lt_of_le (Nat.not_lt.mp hnot) with rfl | hlt
    · exact hi
    · have hfirst : guide[after]? = some guide[after] := List.getElem?_eq_getElem _
      obtain ⟨hb', hend'⟩ := hstopped _ hfirst
      have := hdisjoint after i _ g hlt hfirst hi hb' hb
      omega

/-- R127: an assignment reads the notes of its parts. -/
def Assign.reads (x : Assign) (g : GuideNote) : Prop :=
  match x with
  | .a => g.part ≠ .b
  | .b => g.part ≠ .a
  | .all => True
  | .off => False

/-- R127: after a lookup the notes read for assignment `x` are those of its parts that cover the tick, where no two
notes of a part overlap. -/
theorem mem_covering {guide : List GuideNote} {t : Nat} {l : Lane} (hA : l.cursorA ≤ guide.length)
    (hB : l.cursorB ≤ guide.length) (apartA : NotesApart (fun g => g.part ≠ .b) guide t l.cursorA)
    (apartB : NotesApart (fun g => g.part ≠ .a) guide t l.cursorB) (x : Assign) (g : GuideNote) :
    g ∈ (l.lookUp guide t).covering guide x t ↔
      g ∈ guide ∧ g.start ≤ t ∧ t < g.start + g.duration ∧ x.reads g := by
  have memA := mem_coverAt (moveCursor_stops (fun g => g.part.hasA_iff) t hA) apartA g
  have memB := mem_coverAt (moveCursor_stops (fun g => g.part.hasB_iff) t hB) apartB g
  cases x with
  | a => exact Option.mem_toList.trans memA
  | b => exact Option.mem_toList.trans memB
  | off => exact ⟨nofun, fun ⟨_, _, _, never⟩ => never.elim⟩
  | all =>
    have hpart : g.part ≠ .b ∨ g.part ≠ .a := by cases g.part <;> decide
    refine (List.mem_append.trans (or_congr (Option.mem_toList.trans memA) (Option.mem_toList.trans memB))).trans ?_
    rw [← and_or_left, ← and_or_left, ← and_or_left]
    simp only [hpart, Assign.reads]

/-! ### The outcome of a frame (R125, R126, R128) -/

theorem discarded_iff {c : RoomContext} {f : ResultRecord} :
    discarded c f = true ↔ ¬(f.epoch = c.epoch ∧ f.stale = false ∧ c.singing = true) := by
  simp only [discarded, Bool.or_eq_true, bne_iff_ne, Bool.not_eq_true', not_and_or, Bool.not_eq_false, Bool.not_eq_true,
    or_assoc, ne_eq]

theorem scoreFrame_discarded {rm : Room} {f : ResultRecord} (h : discarded rm.ctx f = true) : rm.scoreFrame f = rm :=
  if_pos h

/-- R125: a frame that is not discarded is counted in its lane with the outcome decided. -/
theorem scoreFrame_counted {rm : Room} {f : ResultRecord} (h : ¬discarded rm.ctx f = true) {o : FrameOutcome} {l : Lane}
    (hd : decideOutcome rm f.mic f = (o, l)) :
    rm.scoreFrame f = rm.updMic f.mic fun m => { m with lane := l.count o } := by
  unfold Room.scoreFrame
  rw [if_neg h, hd]

section
variable {rm : Room} {m : MicId} {f : ResultRecord}

theorem decideOutcome_disturbed (h : f.consumed ≠ 1024) : decideOutcome rm m f = (.disturbed, (rm.mic m).lane) :=
  if_pos h

/-- R126: the evaluation tick is below 0. -/
theorem evalTick_neg {pEnd comp : Nat} : evalTick pEnd comp < 0 ↔ (pEnd - 512) / 64 < comp := by
  unfold evalTick; omega

theorem decideOutcome_early (h : f.consumed = 1024) (ht : f.pEnd < 512 ∨ (f.pEnd - 512) / 64 < rm.ctx.comp) :
    decideOutcome rm m f = (.rest, (rm.mic m).lane) := by
  unfold decideOutcome
  dsimp only
  rw [if_neg (not_not.mpr h), if_pos (by rwa [evalTick_neg])]

/-- R128, R131: the outcome by the notes that cover tick `t` of bank `b`. -/
def Room.outcomeBy (rm : Room) (b : Bank) (t : Nat) (note : Option Nat) : List GuideNote → FrameOutcome
  | [] => uncovered b t
  | g :: gs => .graded (judgeAll rm.params rm.ctx.keyShift note g gs)

/-- R127: from the first evaluable tick on the notes found by the lookup decide. -/
theorem decideOutcome_evaluated {b : BankId} (h : f.consumed = 1024) (hlow : 512 ≤ f.pEnd)
    (hcomp : rm.ctx.comp ≤ (f.pEnd - 512) / 64) (hb : rm.ctx.currentBank = some b) :
    let t : Nat := (f.pEnd - 512) / 64 - rm.ctx.comp
    let moved := (rm.mic m).lane.lookUp (rm.bank b).guide t
    decideOutcome rm m f =
      (rm.outcomeBy (rm.bank b) t f.note (moved.covering (rm.bank b).guide (rm.ctx.assign m) t), moved) := by
  intro t moved
  have htick : evalTick f.pEnd rm.ctx.comp = t := by unfold evalTick; omega
  have hbank : rm.currentBank?.getD {} = rm.bank b := by rw [Room.currentBank?, hb]; rfl
  unfold decideOutcome
  dsimp only
  rw [if_neg (not_not.mpr h), if_neg (by rw [evalTick_neg]; omega), htick, hbank]
  split
  · next hnone => simp only [moved, hnone, Room.outcomeBy]
  · next hsome => simp only [moved, hsome, Room.outcomeBy]

end

/-- R128: UNGUIDED while the guide is still loading and no note that starts after the tick has been loaded. -/
theorem uncovered_open {b : Bank} {t : Nat} (hs : b.state = .filling) (hg : ∀ g, b.lastGuideStart = some g → g ≤ t) :
    uncovered b t = .unguided := by
  unfold uncovered
  rw [if_pos hs]
  split
  · rfl
  · next g e => exact if_pos (Int.ofNat_le.mpr (hg g e))

theorem uncovered_shut {b : Bank} {t : Nat} (h : ¬(b.state = .filling ∧ ∀ g, b.lastGuideStart = some g → g ≤ t)) :
    uncovered b t = .rest := by
  unfold uncovered
  split
  · next hs =>
    split
    · next e => exact absurd ⟨hs, fun g hg => nomatch e.symm.trans hg⟩ h
    · next g e =>
      refine if_neg fun hle => h ⟨hs, fun g' hg => ?_⟩
      obtain rfl : g = g' := Option.some.inj (e.symm.trans hg)
      exact Int.ofNat_le.mp hle
  · rfl

/-! ### The count of an outcome (R121, R132, R133) -/

theorem Accumulators.credit_frozen {a : Accumulators} (h : a.frozen = true) (g : Grade) : a.credit g = a := if_pos h

/-- R133: an open set takes a judged frame. -/
theorem Accumulators.credit_open {a : Accumulators} (h : a.frozen = false) (g : Grade) :
    a.credit g =
      { s := a.s + 1
        p := a.p + g.points
        perfect := a.perfect + if g = .perfect then 1 else 0
        near := a.near + if g = .near then 1 else 0
        off := a.off + if g = .off then 1 else 0
        silent := a.silent + if g = .silent then 1 else 0
        frozen := decide (65535 ≤ a.s + 1) } := if_neg (Bool.eq_false_iff.mp h)

/-- R121, R132: a graded frame is credited to both sets of accumulators, and every outcome raises its own counter. -/
theorem Lane.count_eq (l : Lane) (o : FrameOutcome) :
    l.count o =
      { l with
        song := match o with
          | .graded g => l.song.credit g
          | _ => l.song
        line := match o with
          | .graded g => l.line.credit g
          | _ => l.line
        outcomes := l.outcomes.record o } := by
  cases o <;> rfl

/-- R121: an outcome raises its own counter alone. -/
theorem OutcomeCounters.record_eq (c : OutcomeCounters) (o : FrameOutcome) :
    c.record o =
      { perfect := if o = .graded .perfect then satAdd c.perfect 1 else c.perfect
        near := if o = .graded .near then satAdd c.near 1 else c.near
        off := if o = .graded .off then satAdd c.off 1 else c.off
        silent := if o = .graded .silent then satAdd c.silent 1 else c.silent
        disturbed := if o = .disturbed then satAdd c.disturbed 1 else c.disturbed
        rest := if o = .rest then satAdd c.rest 1 else c.rest
        unguided := if o = .unguided then satAdd c.unguided 1 else c.unguided } := by
  cases o with
  | graded g => cases g <;> rfl
  | disturbed => rfl
  | rest => rfl
  | unguided => rfl

/-! ### The score (R135) -/

theorem scoreOf_le {s p : Nat} (h : p ≤ 4 * s) : (scoreOf s p).value ≤ 100 := by
  unfold scoreOf
  split
  · exact Nat.zero_le _
  · exact Nat.div_le_of_le_mul (by omega)

/-- Settles O60: the outcome of a frame, its grade, the credit, the count, the covering notes and the score. -/
theorem framesAreJudgedAndCredited : Obligations.FramesAreJudgedAndCredited := by
  refine ⟨fun rm f => ?outcome, fun p shift g0 => ⟨rfl, fun n => ?grade⟩, fun a g => ?credit, fun l o => ?count,
    fun l guide t hA hB => ?lookup, fun s p => ⟨rfl, fun hs => if_neg (Nat.ne_of_gt hs), scoreOf_le⟩⟩
  case outcome =>
    intro lane counted inSong
    have scored (h : inSong) {o : FrameOutcome} {l : Lane} (hd : decideOutcome rm f.mic f = (o, l)) :
        rm.scoreFrame f = counted o l := scoreFrame_counted (fun hd => discarded_iff.mp hd h) hd
    refine ⟨fun h => scoreFrame_discarded (discarded_iff.mpr h), fun h hc => scored h (decideOutcome_disturbed hc),
      fun h hc ht => scored h (decideOutcome_early hc ht), ?_⟩
    intro b h hc hlow hcomp hb t moved open_
    have hd : decideOutcome rm f.mic f =
        (rm.outcomeBy (rm.bank b) t f.note (moved.covering (rm.bank b).guide (rm.ctx.assign f.mic) t), moved) :=
      decideOutcome_evaluated hc hlow hcomp hb
    refine ⟨fun hnone => ?_, fun g gs hsome => ?_⟩
    · rw [hnone, Room.outcomeBy] at hd
      exact ⟨fun ⟨hs, hg⟩ => scored h (uncovered_open hs hg ▸ hd), fun hshut => scored h (uncovered_shut hshut ▸ hd)⟩
    · rw [hsome, Room.outcomeBy] at hd
      obtain ⟨hone, hbest⟩ := judgeAll_best rm.params rm.ctx.keyShift f.note g gs
      exact ⟨_, scored h hd, hone, hbest⟩
  case grade =>
    intro g graded
    exact ⟨judge_outside, judge_plain, fun hf => ⟨judge_folded hf, by omega, by omega⟩⟩
  case credit =>
    refine ⟨fun h => Accumulators.credit_frozen h g, fun h => ?_⟩
    rw [Accumulators.credit_open h]
    exact ⟨rfl, by cases g <;> rfl, rfl, rfl, rfl, rfl, decide_eq_true_iff⟩
  case count =>
    intro raised
    rw [Lane.count_eq, OutcomeCounters.record_eq]
    rfl
  case lookup =>
    intro moved hasA hasB stops apart reads
    exact ⟨moveCursor_stops (fun g => g.part.hasA_iff) t hA, moveCursor_stops (fun g => g.part.hasB_iff) t hB,
      rfl, rfl, rfl, fun apartA apartB x g => mem_covering hA hB apartA apartB x g⟩

end Sys2Proof.Machine
end

section
/-! PROOFS. The score law: what a judged frame does to a lane, what the law reads of a room, and the work of the rooms
(O16). -/

namespace Sys2Proof.Machine

/-! ### Accumulators and lanes (R132, R133, R136) -/

/-- R133: a credit keeps S the sum of the grade counts and P within 4 points a frame, and freezes the set as S reaches
65535. -/
theorem Accumulators.Lawful.credit {a : Accumulators} (h : a.Lawful) (g : Grade) : (a.credit g).Lawful := by
  obtain ⟨hsum, hpoints, hbound, hfrozen⟩ := h
  cases hf : a.frozen with
  | true => rw [Accumulators.credit_frozen hf]; exact ⟨hsum, hpoints, hbound, hfrozen⟩
  | false =>
    have hroom : a.s < 65535 := Nat.lt_of_le_of_ne hbound fun e => Bool.eq_false_iff.mp hf (hfrozen.mpr e)
    have hgrade : g.points ≤ 4 := by cases g <;> decide
    have hone : (if g = .perfect then 1 else 0) + (if g = .near then 1 else 0) + (if g = .off then 1 else 0)
        + (if g = .silent then 1 else 0) = 1 := by cases g <;> rfl
    rw [Accumulators.credit_open hf]
    refine ⟨?sum, ?points, hroom, decide_eq_true_iff.trans ?full⟩
    case sum => dsimp only; omega
    case points => dsimp only; omega
    case full => dsimp only; omega

/-- Both sets of accumulators of a lane are lawful. -/
structure Lane.Lawful (l : Lane) : Prop where
  song : l.song.Lawful
  line : l.line.Lawful

theorem clearedLane_lawful : ({} : Lane).Lawful := ⟨clearedAccumulators_lawful, clearedAccumulators_lawful⟩

/-- R136: cleared line accumulators are lawful. -/
theorem Lane.Lawful.clearLine {l : Lane} (h : l.Lawful) : ({ l with line := {} } : Lane).Lawful :=
  ⟨h.song, clearedAccumulators_lawful⟩

/-- R132: only a graded frame is credited. -/
theorem Lane.Lawful.count {l : Lane} (h : l.Lawful) (o : FrameOutcome) : (l.count o).Lawful := by
  cases o with
  | graded g => exact ⟨h.song.credit g, h.line.credit g⟩
  | disturbed => exact ⟨h.song, h.line⟩
  | rest => exact ⟨h.song, h.line⟩
  | unguided => exact ⟨h.song, h.line⟩

/-- R127: a lookup moves cursors alone. -/
theorem Lane.Lawful.decideOutcome {rm : Room} {m : MicId} (h : (rm.mic m).lane.Lawful) (f : ResultRecord) :
    (decideOutcome rm m f).2.Lawful := by
  rcases decideOutcome_lane rm m f with e | ⟨t, e⟩ <;> rw [e]
  · exact h
  · exact ⟨h.song, h.line⟩

/-! ### What the law reads of a room -/

/-- The lanes of a room's microphones: all that the score law reads of it. -/
def Room.lanes (rm : Room) : Lane × Lane := (rm.mic1.lane, rm.mic2.lane)

/-- What the score law says of a room. -/
def Room.Scored (rm : Room) : Prop := rm.lanes.1.Lawful ∧ rm.lanes.2.Lawful

theorem scoreLaw_iff {s : State} : s.ScoreLaw ↔ ∀ r, (s.room r).Scored := by
  refine forall_congr' fun r => ⟨fun h => ⟨⟨(h 0).1, (h 0).2⟩, ⟨(h 1).1, (h 1).2⟩⟩, fun ⟨h1, h2⟩ m => ?_⟩
  rcases bank_cases m with rfl | rfl
  · exact ⟨h1.song, h1.line⟩
  · exact ⟨h2.song, h2.line⟩

theorem Room.Scored.congr {rm x : Room} (h : rm.Scored) (e : x.lanes = rm.lanes) : x.Scored := by
  unfold Room.Scored
  rw [e]; exact h

theorem Room.Scored.mic {rm : Room} (h : rm.Scored) (m : MicId) : (rm.mic m).lane.Lawful := by
  rcases bank_cases m with rfl | rfl
  · exact h.1
  · exact h.2

theorem Room.Scored.updMic {rm : Room} (h : rm.Scored) (m : MicId) {f : Mic → Mic} (hf : (f (rm.mic m)).lane.Lawful) :
    (rm.updMic m f).Scored := by
  rcases bank_cases m with rfl | rfl
  · exact ⟨hf, h.2⟩
  · exact ⟨h.1, hf⟩

theorem Room.lanes_congr {rm x : Room} (h : ∀ m, (x.mic m).lane = (rm.mic m).lane) : x.lanes = rm.lanes :=
  Prod.ext (h 0) (h 1)

/-- R125: the Score Unit takes a result record. -/
theorem Room.Scored.scoreFrame {rm : Room} (h : rm.Scored) (f : ResultRecord) : (rm.scoreFrame f).Scored := by
  unfold Room.scoreFrame
  split
  · exact h
  · exact h.updMic _ ((Lane.Lawful.decideOutcome (h.mic _) f).count _)

/-- R17, R136: the end of a song clears the line accumulators. -/
theorem Room.Scored.closed {rm : Room} (h : rm.Scored) (reason : EndReason) : (rm.closed reason).Scored := by
  rw [Room.closed_eq]
  exact ⟨h.1.clearLine, h.2.clearLine⟩

theorem Room.left_lanes (rm : Room) : rm.left.lanes = rm.lanes := by rw [Room.left_eq]; rfl

theorem Room.withdrawCue_lanes (rm : Room) : rm.withdrawCue.lanes = rm.lanes := by rw [Room.withdrawCue_eq]; rfl

theorem Room.moveEntry?_lanes (rm : Room) (t : Option Nat) (st : EntryState) :
    (rm.moveEntry? t st).lanes = rm.lanes := by
  rw [Room.moveEntry?_eq]; rfl

theorem Room.releaseCue_lanes (rm : Room) : rm.releaseCue.lanes = rm.lanes :=
  (Room.withdrawCue_lanes _).trans (Room.moveEntry?_lanes _ _ _)

theorem Room.clearBank_lanes (rm : Room) (b : BankId) : (rm.clearBank b).lanes = rm.lanes := by
  rw [Room.clearBank_eq]; rfl

theorem Room.updBank_lanes (rm : Room) (b : BankId) (f : Bank → Bank) : (rm.updBank b f).lanes = rm.lanes := by
  unfold Room.lanes
  rw [Room.updBank_mic1, Room.updBank_mic2]

theorem Room.cue_lanes (rm : Room) (b : BankId) (ticket : Nat) : (rm.cue b ticket).lanes = rm.lanes := by
  rw [Room.cue_eq]; rfl

theorem Room.enabled_lanes (rm : Room) : rm.enabled.lanes = rm.lanes := by unfold Room.enabled; split <;> rfl

/-- R122: START and ROOM_RESET clear the lanes. -/
theorem start_scored (rm : Room) : rm.start.Scored := ⟨clearedLane_lawful, clearedLane_lawful⟩

theorem reset_scored (rm : Room) (m : Mode) (clearReports : Bool) : (rm.reset m clearReports).Scored := by
  rw [Room.reset_eq]
  exact ⟨clearedLane_lawful, clearedLane_lawful⟩

/-! ### Changes of one room -/

section
variable {s t : State} {r : RoomId}

/-- Two states whose rooms have the same lanes. -/
theorem State.ScoreLaw.congr (h : s.ScoreLaw) (e : ∀ k, (t.room k).lanes = (s.room k).lanes) : t.ScoreLaw :=
  scoreLaw_iff.mpr fun k => (scoreLaw_iff.mp h k).congr (e k)

/-- Two states with the same rooms. -/
theorem State.ScoreLaw.of_rooms (h : s.ScoreLaw) (e : t.rooms = s.rooms) : t.ScoreLaw :=
  h.congr fun k => congrArg (fun v => (Vector.get v k).lanes) e

/-- A state one room of which alone has changed. -/
theorem State.ScoreLaw.of_room (h : s.ScoreLaw) (hk : ∀ k, k ≠ r → t.room k = s.room k) (hr : (t.room r).Scored) :
    t.ScoreLaw := scoreLaw_iff.mpr fun k => by
  by_cases e : k = r
  · rw [e]; exact hr
  · rw [hk k e]; exact scoreLaw_iff.mp h k

theorem setScores_scoreLaw {f : Room → Room} (h : s.ScoreLaw) (hf : (f (s.room r)).Scored) :
    (s.updRoom r f).ScoreLaw :=
  h.of_room (fun _ e => room_updRoom_ne _ _ _ _ e) (by rwa [room_updRoom_same])

/-- Most operations on a room leave its lanes. -/
theorem updRoom_scoreLaw {f : Room → Room} (h : s.ScoreLaw) (e : (f (s.room r)).lanes = (s.room r).lanes) :
    (s.updRoom r f).ScoreLaw := setScores_scoreLaw h ((scoreLaw_iff.mp h r).congr e)

/-- A fold keeps the law where each of its steps does. -/
theorem foldl_scoreLaw {α : Type} {f : State → α → State} (hf : ∀ x a, x.ScoreLaw → (f x a).ScoreLaw) (l : List α)
    (h : s.ScoreLaw) : (l.foldl f s).ScoreLaw := by
  induction l generalizing s with
  | nil => exact h
  | cons a l ih => exact ih (hf s a h)

/-! ### Reports and the upstream scheduler -/

theorem raise_scoreLaw (b : ReportBody) (h : s.ScoreLaw) : (raise b s).ScoreLaw :=
  h.congr fun k => Room.lanes_congr fun m => by rw [raise_room_mic]

theorem markTest_scoreLaw (r : RoomId) (h : s.ScoreLaw) : (markTest r s).ScoreLaw :=
  h.congr fun k => Room.lanes_congr fun m => by rw [markTest_room_mic]

theorem schedule_scoreLaw (h : s.ScoreLaw) : (schedule s).ScoreLaw :=
  h.congr fun k => congrArg (fun v => (v.2.1.lane, v.2.2.lane)) (schedule_voices s k)

theorem sendIfIdle_scoreLaw (h : s.ScoreLaw) : s.sendIfIdle.ScoreLaw :=
  h.congr fun k => Room.lanes_congr fun m => by rw [sendIfIdle_mic]

/-! ### The end of a song and the line test -/

/-- R17, R18: an ending clears the line accumulators of its room, whether or not the room leaves ENDING. -/
theorem takeEnding_scoreLaw (r : RoomId) (reason : EndReason) (h : s.ScoreLaw) : (takeEnding r reason s).ScoreLaw := by
  cases hs : (s.room r).ctx.singing with
  | false => rwa [takeEnding_not_singing _ _ _ hs]
  | true =>
    have hclosed : ((s.room r).closed reason).Scored := (scoreLaw_iff.mp h r).closed reason
    refine h.of_room (fun k e => takeEnding_room_ne _ _ _ _ e) ?_
    rcases takeEnding_room r reason s hs with ⟨k, mark, _, e⟩ | ⟨k, _, e⟩ <;> rw [e]
    · exact hclosed.congr (Room.left_lanes _)
    · exact hclosed.congr rfl

/-- R58, R136: an advance clears the line accumulators of its room. -/
theorem advanceTo_scoreLaw (r : RoomId) (k t : Nat) (h : s.ScoreLaw) : (advanceTo r k t s).ScoreLaw := by
  obtain ⟨h1, h2⟩ := scoreLaw_iff.mp h r
  obtain ⟨stack, _, e⟩ := advanceTo_room r k t s
  refine h.of_room (fun j hj => advanceTo_room_ne _ _ _ _ _ hj) ?_
  rw [e]
  exact ⟨h1.clearLine, h2.clearLine⟩

theorem holdStep_scoreLaw (r : RoomId) (t : Nat) (h : s.ScoreLaw) : (holdStep r t s).ScoreLaw := by
  rcases holdStep_cases r t s with e | ⟨f, _, e⟩ | ⟨_, e⟩ <;> rw [e]
  · exact h
  · exact updRoom_scoreLaw h rfl
  · exact takeEnding_scoreLaw r .halted (updRoom_scoreLaw h rfl)

theorem lineTest_scoreLaw (r : RoomId) (t : Nat) (h : s.ScoreLaw) : (lineTest r t s).ScoreLaw := by
  rcases lineTest_cases r t s with e | e | ⟨k, e⟩ <;> rw [e]
  · exact takeEnding_scoreLaw r .halted h
  · exact holdStep_scoreLaw r t h
  · exact holdStep_scoreLaw r t (advanceTo_scoreLaw r k t h)

theorem songTick_scoreLaw (r : RoomId) (h : s.ScoreLaw) : (songTick r s).ScoreLaw := by
  rcases songTick_cases r s with e | ⟨_, e⟩ <;> rw [e]
  · exact h
  · exact lineTest_scoreLaw r _ h

/-! ### Calibrations and resets -/

/-- R103, R104: a calibration leaves every microphone. -/
theorem endCalibration_scoreLaw (r : RoomId) (outcome : CalOutcome) (j : Nat) (f : Port → Port) (h : s.ScoreLaw) :
    (endCalibration r outcome j f s).ScoreLaw :=
  h.of_room (fun _ e => endCalibration_room_ne s e outcome j f)
    ((scoreLaw_iff.mp h r).congr (Room.lanes_congr fun m => by rw [endCalibration_mic]))

theorem calibrationStep_scoreLaw (r : RoomId) (inputs : Vector Sample 8) (h : s.ScoreLaw) :
    (calibrationStep r inputs s).ScoreLaw :=
  h.of_room (fun _ e => calibrationStep_room_ne s e inputs)
    ((scoreLaw_iff.mp h r).congr (Room.lanes_congr fun m => by rw [calibrationStep_mic]))

theorem calTimeout_scoreLaw (r : RoomId) (h : s.ScoreLaw) : (calTimeout r s).ScoreLaw := by
  unfold calTimeout; split
  · exact sendIfIdle_scoreLaw (endCalibration_scoreLaw r _ _ _ h)
  · exact h

theorem resetRoom_scoreLaw (r : RoomId) (h : s.ScoreLaw) : (resetRoom r s).ScoreLaw := by
  have hreset := reset_scored (s.room r) s.mode s.chip.clearReports
  refine h.of_room (fun k e => resetRoom_room_ne r k s e) ?_
  rcases resetRoom_room r s with e | ⟨_, _, _, e⟩ <;> rw [e]
  · exact hreset
  · exact hreset.congr rfl

/-! ### The sample period and the Score Unit -/

theorem audioCell_scoreLaw (r : RoomId) (endFlag : Bool) (samples : List Stereo) (h : s.ScoreLaw) :
    (audioCell r endFlag samples s).ScoreLaw := by
  unfold audioCell
  dsimp only
  split
  · exact updRoom_scoreLaw h rfl
  split
  · exact updRoom_scoreLaw h rfl
  split
  · exact updRoom_scoreLaw h rfl
  · exact updRoom_scoreLaw h rfl
  · exact updRoom_scoreLaw h rfl
  · exact sendIfIdle_scoreLaw (markTest_scoreLaw r (updRoom_scoreLaw h rfl))

theorem backingOutput_scoreLaw (r : RoomId) (h : s.ScoreLaw) : (backingOutput r s).ScoreLaw := by
  unfold backingOutput
  dsimp only
  split
  · split
    · exact takeEnding_scoreLaw r .complete (updRoom_scoreLaw h rfl)
    split
    · exact updRoom_scoreLaw h (by rw [Room.underrun_eq]; rfl)
    · next x rest _ =>
      have hmarked := markTest_scoreLaw r (songTick_scoreLaw r
        (updRoom_scoreLaw (r := r) (f := fun y => y.advanced rest) h rfl))
      split
      · exact takeEnding_scoreLaw r .complete hmarked
      · exact hmarked
  · exact h

/-- R90: a room's share of a period changes assemblers, and lanes only by an ending or an advance. -/
theorem roomShare_scoreLaw (r : RoomId) (inputs : Vector Sample 8) (h : s.ScoreLaw) :
    (roomShare r inputs s).1.ScoreLaw :=
  calibrationStep_scoreLaw r inputs (backingOutput_scoreLaw r (updRoom_scoreLaw h rfl))

theorem roomShares_scoreLaw (inputs : Vector Sample 8) (order : List RoomId) (h : s.ScoreLaw) :
    (roomShares inputs order s).1.ScoreLaw := by
  induction order using List.reverseRecOn with
  | nil => exact h
  | append_singleton l r ih => rw [roomShares_concat]; exact roomShare_scoreLaw r inputs ih

theorem beginAnalysis_scoreLaw (h : s.ScoreLaw) : (beginAnalysis s).ScoreLaw :=
  h.congr fun k => by rw [beginAnalysis_room]

/-- R111: a frame that is dropped is counted in its assembler. -/
theorem offerFrame_scoreLaw (f : FrameRecord) (h : s.ScoreLaw) : (offerFrame f s).ScoreLaw := by
  unfold offerFrame; split
  · exact beginAnalysis_scoreLaw (h.of_rooms rfl)
  · have hroom := scoreLaw_iff.mp h f.room
    exact setScores_scoreLaw h (hroom.updMic f.mic (hroom.mic f.mic))

theorem samplePeriod_scoreLaw (inputs : Vector Sample 8) (roomOrder offerOrder : Nat) (h : s.ScoreLaw) :
    (samplePeriod inputs roomOrder offerOrder s).ScoreLaw := by
  unfold samplePeriod
  split
  · exact h.of_rooms rfl
  · exact sendIfIdle_scoreLaw (foldl_scoreLaw (fun _ f hx => offerFrame_scoreLaw f hx) _
      (roomShares_scoreLaw inputs _ (h.of_rooms rfl)))

theorem songPositionLimit_scoreLaw (r : RoomId) (h : s.ScoreLaw) : (songPositionLimit r s).ScoreLaw := by
  unfold songPositionLimit; split
  · exact sendIfIdle_scoreLaw (backingOutput_scoreLaw r (h.of_rooms rfl))
  · exact h

/-- R112: the result of an analysis is scored in the lane of its microphone. -/
theorem analysisComplete_scoreLaw (h : s.ScoreLaw) : (analysisComplete s).ScoreLaw := by
  unfold analysisComplete
  split
  · exact h
  split
  · next a f rest _ _ =>
    have hroom := (scoreLaw_iff.mp h f.room).scoreFrame (analyse a f)
    have hscored : (s.scored a f).ScoreLaw := setScores_scoreLaw h (hroom.updMic f.mic (hroom.mic f.mic))
    exact beginAnalysis_scoreLaw (hscored.of_rooms rfl)
  · exact h

end

end Sys2Proof.Machine
end

section
/-! PROOFS. The score law through every command; and O16. -/

namespace Sys2Proof.Machine

/-! ### Orders that leave every room -/

section
variable (s : State)

theorem ladderOrder_rooms (first : Nat) (bounds : List Nat) : (ladderOrder first bounds s).state.rooms = s.rooms := by
  unfold ladderOrder
  repeat' split
  all_goals rfl

theorem slotMapOrder_rooms (direction slot target : Nat) :
    (slotMapOrder direction slot target s).state.rooms = s.rooms := by
  unfold slotMapOrder
  repeat' split
  all_goals rfl

theorem pollEntryOrder_rooms (entry enabled address room : Nat) :
    (pollEntryOrder entry enabled address room s).state.rooms = s.rooms := by
  unfold pollEntryOrder
  repeat' split
  all_goals rfl

theorem fontClearOrder_rooms (height space missing : Nat) :
    (fontClearOrder height space missing s).state.rooms = s.rooms := by
  unfold fontClearOrder
  repeat' split
  all_goals rfl

theorem fontAppendOrder_rooms (first count : Option Nat) (records : List Byte) :
    (fontAppendOrder first count records s).state.rooms = s.rooms := by
  unfold fontAppendOrder
  dsimp only
  repeat' split
  all_goals rfl

theorem fontClearingComplete_rooms : (fontClearingComplete s).rooms = s.rooms := by
  unfold fontClearingComplete; split <;> rfl

theorem chipParamOrder_rooms (id : ChipParamId) (v : Nat) : (chipParamOrder id v s).state.rooms = s.rooms := by
  unfold chipParamOrder; split <;> rfl

theorem readBankOrder_rooms (r : RoomId) (bank : Nat) : (readBankOrder r bank s).state.rooms = s.rooms := by
  unfold readBankOrder; split <;> rfl

theorem discardCell_rooms (bytes : List Byte) : (discardCell bytes s).rooms = s.rooms := by
  unfold discardCell
  dsimp only
  repeat' split
  all_goals rfl

end

section
variable {s : State}

/-! ### Requests -/

theorem updEntry_scoreLaw (r : RoomId) (ticket : Nat) (f : Entry → Entry) (h : s.ScoreLaw) :
    (s.updEntry r ticket f).ScoreLaw := updRoom_scoreLaw h rfl

theorem pushResult_scoreLaw (e : PanelId) (k : ResultKind) (h : s.ScoreLaw) : (pushResult e k s).ScoreLaw :=
  h.of_rooms rfl

theorem removeWithResult_scoreLaw (r : RoomId) (e : Entry) (k : ResultKind) (h : s.ScoreLaw) :
    (removeWithResult r e k s).ScoreLaw := pushResult_scoreLaw _ k (updRoom_scoreLaw h rfl)

theorem takeRequest_scoreLaw (r : RoomId) (e : PanelId) (song : Nat) (keyShift : Int) (tag : Nat) (h : s.ScoreLaw) :
    (takeRequest r e song keyShift tag s).ScoreLaw := by
  unfold takeRequest
  dsimp only
  split
  · exact pushResult_scoreLaw _ _ (updRoom_scoreLaw h rfl)
  split
  · exact pushResult_scoreLaw _ _ (updRoom_scoreLaw h rfl)
  · have hlisted := updRoom_scoreLaw (r := r) (f := fun rm => { rm with
        requests := rm.requests ++ [s.newEntry e song keyShift tag (s.room r).nextTicket]
        ticketCounter := (s.room r).nextTicket
        requestCounters := { rm.requestCounters with ticketsIssued := bump rm.requestCounters.ticketsIssued 1 } })
      h rfl
    exact pushResult_scoreLaw _ _ (hlisted.of_rooms rfl)

theorem beginCancel_scoreLaw (r : RoomId) (ticket : Nat) (h : s.ScoreLaw) : (beginCancel r ticket s).ScoreLaw :=
  (updEntry_scoreLaw r ticket (fun x => { x with state := .cancelling, sentTime := none }) h).of_rooms rfl

theorem takeCancel_scoreLaw (r : RoomId) (e : PanelId) (ticket : Nat) (h : s.ScoreLaw) :
    (takeCancel r e ticket s).ScoreLaw := by
  unfold takeCancel
  split
  · exact pushResult_scoreLaw _ _ h
  split
  · exact pushResult_scoreLaw _ _ h
  split
  · exact removeWithResult_scoreLaw _ _ _ h
  · exact beginCancel_scoreLaw r ticket h
  · exact beginCancel_scoreLaw r ticket h
  · exact h
  · exact pushResult_scoreLaw _ _ h
  · exact pushResult_scoreLaw _ _ h

theorem withEntry_scoreLaw (r : RoomId) (ticket : Nat) {act : Entry → State → Verdict} (h : s.ScoreLaw)
    (ha : ∀ e, (act e s).state.ScoreLaw) : (withEntry r ticket act s).state.ScoreLaw := by
  unfold withEntry; split
  · exact h
  · exact ha _

theorem acceptEntry_scoreLaw (r : RoomId) (ticket position : Nat) (e : Entry) (h : s.ScoreLaw) :
    (acceptEntry r ticket position e s).state.ScoreLaw := by
  unfold acceptEntry
  split
  · exact pushResult_scoreLaw _ _ (updEntry_scoreLaw r ticket _ h)
  · exact updEntry_scoreLaw r ticket _ h
  all_goals exact h

theorem positionEntry_scoreLaw (r : RoomId) (ticket position : Nat) (e : Entry) (h : s.ScoreLaw) :
    (positionEntry r ticket position e s).state.ScoreLaw := by
  have hmoved := updEntry_scoreLaw r ticket (fun x => { x with position := some position }) h
  unfold positionEntry
  dsimp only
  split
  · exact pushResult_scoreLaw _ _ hmoved
  · exact pushResult_scoreLaw _ _ hmoved
  · exact hmoved
  all_goals exact h

theorem confirmCancel_scoreLaw (r : RoomId) (e : Entry) (h : s.ScoreLaw) : (confirmCancel r e s).ScoreLaw :=
  removeWithResult_scoreLaw _ _ _ (h.of_rooms rfl)

theorem refuseOrder_scoreLaw (r : RoomId) (ticket reason : Nat) (h : s.ScoreLaw) :
    (refuseOrder r ticket reason s).state.ScoreLaw := by
  unfold refuseOrder
  split
  · exact h
  · refine withEntry_scoreLaw r ticket h fun e => ?_
    unfold refuseEntry
    split
    · exact removeWithResult_scoreLaw _ _ _ h
    · exact removeWithResult_scoreLaw _ _ _ h
    · exact confirmCancel_scoreLaw _ _ h
    all_goals exact h

theorem dropOrder_scoreLaw (r : RoomId) (e : Entry) (h : s.ScoreLaw) : (dropOrder r e s).state.ScoreLaw := by
  unfold dropOrder
  split
  · exact removeWithResult_scoreLaw _ _ _ h
  · exact removeWithResult_scoreLaw _ _ _ h
  · exact removeWithResult_scoreLaw _ _ _ (updRoom_scoreLaw h (Room.withdrawCue_lanes _))
  · exact confirmCancel_scoreLaw _ _ h
  all_goals exact h

theorem timeOutEntry_scoreLaw (r : RoomId) (e : Entry) (h : s.ScoreLaw) : (timeOutEntry r e s).ScoreLaw :=
  removeWithResult_scoreLaw _ _ _ (updRoom_scoreLaw h rfl)

theorem venueTimeTick_scoreLaw (h : s.ScoreLaw) : (venueTimeTick s).ScoreLaw :=
  foldl_scoreLaw (f := timeOutRoom)
    (fun _ r hx => foldl_scoreLaw (fun _ e hy => timeOutEntry_scoreLaw r e hy) _ hx) allRooms (h.of_rooms rfl)

theorem replyTimeout_scoreLaw (r : RoomId) (ticket : Nat) (h : s.ScoreLaw) : (replyTimeout r ticket s).ScoreLaw := by
  unfold replyTimeout
  split
  · exact h
  split
  · exact timeOutEntry_scoreLaw _ _ h
  · exact h

/-! ### Panels -/

theorem nextPoll_scoreLaw (h : s.ScoreLaw) : (nextPoll s).ScoreLaw := by
  unfold nextPoll; split
  · exact h.of_rooms rfl
  · exact h.of_rooms rfl

theorem endPoll_scoreLaw {act : PanelId → State → State} (h : s.ScoreLaw)
    (ha : ∀ e x, x.ScoreLaw → (act e x).ScoreLaw) : (endPoll act s).ScoreLaw := by
  unfold endPoll; split
  · exact h
  · exact sendIfIdle_scoreLaw (nextPoll_scoreLaw (ha _ _ h))

theorem markGood_scoreLaw (e : PanelId) (h : s.ScoreLaw) : (markGood e s).ScoreLaw := by
  unfold markGood
  dsimp only
  split
  · exact h.of_rooms rfl
  · exact raise_scoreLaw _ (h.of_rooms rfl)

theorem markMiss_scoreLaw (e : PanelId) (count : PollEntry → PollEntry) (h : s.ScoreLaw) :
    (markMiss e count s).ScoreLaw := by
  unfold markMiss
  dsimp only
  split
  · exact raise_scoreLaw _ (h.of_rooms rfl)
  · exact h.of_rooms rfl

theorem goodAnswer_scoreLaw {handle : PanelId → RoomId → State → State} (h : s.ScoreLaw)
    (ha : ∀ e r x, x.ScoreLaw → (handle e r x).ScoreLaw) : (goodAnswer handle s).ScoreLaw :=
  endPoll_scoreLaw h fun e _ hx => ha e _ _ (markGood_scoreLaw e hx)

theorem roomMessage_scoreLaw {handle : PanelId → RoomId → State → State}
    (ha : ∀ e r x, x.ScoreLaw → (handle e r x).ScoreLaw) (e : PanelId) (r : RoomId) (h : s.ScoreLaw) :
    (roomMessage handle e r s).ScoreLaw := by
  unfold roomMessage; split
  · exact pushResult_scoreLaw _ _ h
  · exact ha _ _ _ h

theorem requestMessage_scoreLaw (payload : List Byte) (e : PanelId) (r : RoomId) (h : s.ScoreLaw) :
    (requestMessage payload e r s).ScoreLaw := by
  unfold requestMessage
  split
  · exact pushResult_scoreLaw _ _ h
  dsimp only
  split
  · exact pushResult_scoreLaw _ _ h
  · exact takeRequest_scoreLaw _ _ _ _ _ h

theorem cancelMessage_scoreLaw (payload : List Byte) (e : PanelId) (r : RoomId) (h : s.ScoreLaw) :
    (cancelMessage payload e r s).ScoreLaw := by
  unfold cancelMessage; split
  · exact pushResult_scoreLaw _ _ h
  · exact takeCancel_scoreLaw _ _ _ h

theorem stopMessage_scoreLaw (e : PanelId) (r : RoomId) (h : s.ScoreLaw) : (stopMessage e r s).ScoreLaw := by
  unfold stopMessage
  split
  · exact pushResult_scoreLaw _ _ h
  split
  · exact takeEnding_scoreLaw _ _ h
  · exact pushResult_scoreLaw _ _ h

/-! ### Room orders -/

theorem cueOrder_scoreLaw (r : RoomId) (bank ticket : Nat) (h : s.ScoreLaw) :
    (cueOrder r bank ticket s).state.ScoreLaw := by
  have hcued (b : BankId) : (s.updRoom r fun x => x.cue b ticket).ScoreLaw := updRoom_scoreLaw h (Room.cue_lanes _ _ _)
  unfold cueOrder accept
  dsimp only
  split
  · exact h
  split
  · exact h
  split
  · exact h
  split
  · exact h
  split
  · exact h
  split
  · exact h
  split
  · exact markTest_scoreLaw r (hcued _)
  · exact hcued _

/-- R9, R122: START clears both lanes. -/
theorem startOrder_scoreLaw (r : RoomId) (h : s.ScoreLaw) : (startOrder r s).state.ScoreLaw := by
  unfold startOrder; split
  · exact (setScores_scoreLaw h (start_scored _)).of_rooms rfl
  all_goals exact h

theorem moveOrder_scoreLaw (r : RoomId) (source target : RoomState) (h : s.ScoreLaw) :
    (moveOrder r source target s).state.ScoreLaw := by
  unfold moveOrder accept
  split
  · exact updRoom_scoreLaw h rfl
  · exact h

theorem stopOrder_scoreLaw (r : RoomId) (h : s.ScoreLaw) : (stopOrder r s).state.ScoreLaw := by
  unfold stopOrder
  split
  · exact takeEnding_scoreLaw r _ h
  · exact takeEnding_scoreLaw r _ h
  · exact endCalibration_scoreLaw r _ _ _ h
  · exact updRoom_scoreLaw h (Room.releaseCue_lanes _)
  · exact h

theorem haltOrder_scoreLaw (r : RoomId) (h : s.ScoreLaw) : (haltOrder r s).state.ScoreLaw := by
  unfold haltOrder accept
  dsimp only
  split
  · split
    · exact takeEnding_scoreLaw r _ h
    · exact updRoom_scoreLaw h rfl
  · exact h

theorem calibrateOrder_scoreLaw (r : RoomId) (h : s.ScoreLaw) : (calibrateOrder r s).state.ScoreLaw := by
  unfold calibrateOrder accept
  dsimp only
  split
  · split
    · exact h
    · exact updRoom_scoreLaw h rfl
  · exact h

theorem roomParamOrder_scoreLaw (r : RoomId) (setting : RoomSetting) (h : s.ScoreLaw) :
    (roomParamOrder r setting s).state.ScoreLaw := by
  unfold roomParamOrder accept
  split
  · exact h
  split
  · exact h
  · next p _ =>
    have hset : (s.updRoom r fun rm => { rm with params := p }).ScoreLaw := updRoom_scoreLaw h rfl
    dsimp only
    split
    · exact markTest_scoreLaw r hset
    · exact hset

/-! ### Banks -/

theorem updBank_scoreLaw (r : RoomId) (b : BankId) (f : Bank → Bank) (h : s.ScoreLaw) :
    (s.updRoom r fun rm => rm.updBank b f).ScoreLaw := updRoom_scoreLaw h (Room.updBank_lanes _ _ _)

theorem bankOpenOrder_scoreLaw (r : RoomId) (bank songId lines syllables notes : Nat) (h : s.ScoreLaw) :
    (bankOpenOrder r bank songId lines syllables notes s).state.ScoreLaw := by
  unfold bankOpenOrder
  split
  · exact h
  split
  · exact h
  · exact h
  · exact h
  · split
    · exact updBank_scoreLaw r _ _ h
    · exact h

theorem bankCloseOrder_scoreLaw (r : RoomId) (bank : Nat) (h : s.ScoreLaw) :
    (bankCloseOrder r bank s).state.ScoreLaw := by
  unfold bankCloseOrder
  split
  · exact h
  dsimp only
  split
  · split
    · exact updBank_scoreLaw r _ _ h
    · exact h
  · exact h

theorem bankClearOrder_scoreLaw (r : RoomId) (bank : Nat) (h : s.ScoreLaw) :
    (bankClearOrder r bank s).state.ScoreLaw := by
  unfold bankClearOrder accept
  split
  · exact h
  dsimp only
  split
  · exact h
  split
  · refine updRoom_scoreLaw h ((Room.clearBank_lanes _ _).trans ?_)
    split
    · exact Room.releaseCue_lanes _
    · rfl
  · exact h

theorem bankClearingComplete_scoreLaw (r : RoomId) (b : BankId) (h : s.ScoreLaw) :
    (bankClearingComplete r b s).ScoreLaw := by
  unfold bankClearingComplete; split
  · exact sendIfIdle_scoreLaw (raise_scoreLaw _ (updBank_scoreLaw r b _ h))
  · exact h

theorem appendOrder_scoreLaw {α : Type} {take : Bank → α → Option Bank} {frontier declared : Bank → Nat}
    {after : BankId → State → State} (ha : ∀ b x, x.ScoreLaw → (after b x).ScoreLaw) (r : RoomId)
    (bank first : Nat) (xs : List α) (h : s.ScoreLaw) :
    (appendOrder take frontier declared after r bank first xs s).state.ScoreLaw := by
  unfold appendOrder
  split
  · exact h
  split
  · exact h
  · exact ha _ _ (updBank_scoreLaw r _ _ h)

theorem linesOrder_scoreLaw (r : RoomId) (bank first : Nat) (recs : List LineRec) (h : s.ScoreLaw) :
    (linesOrder r bank first recs s).state.ScoreLaw := by
  refine appendOrder_scoreLaw (fun b x hx => ?_) r bank first recs h
  unfold lineAppendEvent
  dsimp only
  split
  · exact lineTest_scoreLaw r _ hx
  · exact hx

/-! ### The chip mode and the trunk -/

theorem setModeOrder_scoreLaw (mode : Nat) (h : s.ScoreLaw) : (setModeOrder mode s).state.ScoreLaw := by
  have hrun : (enterRun s).ScoreLaw := h.congr fun k => by rw [enterRun_room]; exact Room.enabled_lanes _
  have hconfig : (leaveRun s).ScoreLaw :=
    foldl_scoreLaw (fun _ r hx => resetRoom_scoreLaw r hx) allRooms (h.of_rooms rfl)
  have hstop : (enterStop s).ScoreLaw := h.congr fun k => by unfold enterStop; rw [mapRooms_room]; rfl
  unfold setModeOrder accept
  split
  · exact h
  split
  · exact h
  · exact h
  · exact h
  · split
    · exact hrun
    · exact h
  · split
    · exact h
    · exact hconfig
  · exact h
  · exact hstop
  · exact h.of_rooms rfl
  · exact h

theorem videoCell_scoreLaw (r : RoomId) (line : Nat) (frameStart : Bool) (pixels : List Rgb) (h : s.ScoreLaw) :
    (videoCell r line frameStart pixels s).ScoreLaw := by
  refine updRoom_scoreLaw h ?_
  split
  · rfl
  · obtain ⟨_, _, _, e⟩ := videoLine_frame (s.room r) s.mode s.font line frameStart pixels
    rw [e]; rfl

theorem takeMedia_scoreLaw {act : State → State} (h : s.ScoreLaw) (ha : ∀ x, x.ScoreLaw → (act x).ScoreLaw) :
    (takeMedia act s).ScoreLaw := by
  rcases takeMedia_cases act s with e | e <;> rw [e]
  · exact h.of_rooms rfl
  · exact ha _ (h.of_rooms rfl)

theorem pinReset_scoreLaw (s : State) : (pinReset s).ScoreLaw := reset_scoreLaw.of_rooms rfl

/-- An order keeps the law where its decision does. -/
theorem takeOrder_scoreLaw (inStandby : Bool) (room tag kind : Nat) {d : State → Verdict} (h : s.ScoreLaw)
    (hd : ∀ x, x.ScoreLaw → (d x).state.ScoreLaw) : (takeOrder inStandby room tag kind d s).ScoreLaw := by
  rcases takeOrder_cases inStandby room tag kind d s with e | e | e <;> rw [e]
  · exact h.of_rooms rfl
  · exact h.of_rooms rfl
  · exact sendIfIdle_scoreLaw ((hd s.countIn (h.of_rooms rfl)).of_rooms rfl)

theorem answerMalformed_scoreLaw (bytes : List Byte) (h : s.ScoreLaw) : (answerMalformed bytes s).ScoreLaw := by
  unfold answerMalformed
  dsimp only
  split
  · exact h.of_rooms rfl
  split
  · exact h.of_rooms rfl
  · exact sendIfIdle_scoreLaw (h.of_rooms rfl)

end

/-! ### Every command -/

/-- Every command answers a state whose accumulators are lawful. -/
theorem exec_scoreLaw (c : Instr) {s t : State} (h : s.ScoreLaw) (e : exec c s = .next t) : t.ScoreLaw := by
  have order {b : Bool} {room tag kind : Nat} {d : State → Verdict} (hd : ∀ x, x.ScoreLaw → (d x).state.ScoreLaw)
      (e : (.next (takeOrder b room tag kind d s) : Host.Outcome State Fault Refusal) = .next t) : t.ScoreLaw := by
    cases e; exact takeOrder_scoreLaw b room tag kind h hd
  have ends {x : State} (hx : x.ScoreLaw) (e : (.next x : Host.Outcome State Fault Refusal) = .next t) :
      t.ScoreLaw := by
    cases e; exact hx
  cases c with
  | pinReset => exact ends (pinReset_scoreLaw s) e
  | cellDiscarded bytes => exact ends (h.of_rooms (discardCell_rooms s bytes)) e
  | unknownOrder bytes =>
    refine ends ?_ e
    split
    · exact answerMalformed_scoreLaw bytes h
    · exact h
  | video r line frameStart pixels =>
    exact ends (takeMedia_scoreLaw h fun _ => videoCell_scoreLaw r line frameStart pixels) e
  | audio r endFlag samples => exact ends (takeMedia_scoreLaw h fun _ => audioCell_scoreLaw r endFlag samples) e
  | appendLines r tag bank first recs => exact order (fun _ => linesOrder_scoreLaw r bank first recs) e
  | appendSyllables r tag bank first recs =>
    exact order (fun _ => appendOrder_scoreLaw (fun _ _ hx => hx) r bank first recs) e
  | appendGuide r tag bank first recs =>
    exact order (fun _ => appendOrder_scoreLaw (fun _ _ hx => hx) r bank first recs) e
  | appendFont tag first count records =>
    exact order (fun x hx => hx.of_rooms (fontAppendOrder_rooms x first count records)) e
  | appendLadder tag first bounds => exact order (fun x hx => hx.of_rooms (ladderOrder_rooms x first bounds)) e
  | setMode tag mode => exact order (fun _ => setModeOrder_scoreLaw mode) e
  | chipParam tag param value => exact order (fun x hx => hx.of_rooms (chipParamOrder_rooms x param value)) e
  | slotMap tag direction slot target =>
    exact order (fun x hx => hx.of_rooms (slotMapOrder_rooms x direction slot target)) e
  | pollEntry tag entry enabled address room =>
    exact order (fun x hx => hx.of_rooms (pollEntryOrder_rooms x entry enabled address room)) e
  | fontClear tag height space missing =>
    exact order (fun x hx => hx.of_rooms (fontClearOrder_rooms x height space missing)) e
  | readChip tag => exact order (fun _ hx => hx) e
  | readRoom r tag => exact order (fun _ hx => hx) e
  | readBank r tag bank => exact order (fun x hx => hx.of_rooms (readBankOrder_rooms x r bank)) e
  | readRequestList r tag => exact order (fun _ hx => hx) e
  | readScores r tag => exact order (fun _ hx => hx) e
  | readCounters room tag =>
    cases room with
    | none => exact order (fun _ hx => hx) e
    | some r => exact order (fun _ hx => hx) e
  | cue r tag bank ticket => exact order (fun _ => cueOrder_scoreLaw r bank ticket) e
  | start r tag => exact order (fun _ => startOrder_scoreLaw r) e
  | pause r tag => exact order (fun _ => moveOrder_scoreLaw r .playing .held) e
  | resume r tag => exact order (fun _ => moveOrder_scoreLaw r .held .playing) e
  | stop r tag => exact order (fun _ => stopOrder_scoreLaw r) e
  | haltAtLine r tag => exact order (fun _ => haltOrder_scoreLaw r) e
  | roomReset r tag => exact order (fun _ => resetRoom_scoreLaw r) e
  | calibrate r tag => exact order (fun _ => calibrateOrder_scoreLaw r) e
  | roomParam r tag setting => exact order (fun _ => roomParamOrder_scoreLaw r setting) e
  | bankOpen r tag bank songId lines syllables notes =>
    exact order (fun _ => bankOpenOrder_scoreLaw r bank songId lines syllables notes) e
  | bankClose r tag bank => exact order (fun _ => bankCloseOrder_scoreLaw r bank) e
  | bankClear r tag bank => exact order (fun _ => bankClearOrder_scoreLaw r bank) e
  | reqAccept r tag ticket position =>
    exact order (fun _ hx => withEntry_scoreLaw r ticket hx fun en => acceptEntry_scoreLaw r ticket position en hx) e
  | reqPosition r tag ticket position =>
    exact order (fun _ hx => withEntry_scoreLaw r ticket hx fun en => positionEntry_scoreLaw r ticket position en hx) e
  | reqRefuse r tag ticket reason => exact order (fun _ => refuseOrder_scoreLaw r ticket reason) e
  | reqDrop r tag ticket =>
    exact order (fun _ hx => withEntry_scoreLaw r ticket hx fun en => dropOrder_scoreLaw r en hx) e
  | samplePeriod inputs roomOrder offerOrder => exact ends (samplePeriod_scoreLaw inputs roomOrder offerOrder h) e
  | songPositionLimit r => exact ends (songPositionLimit_scoreLaw r h) e
  | songTick r =>
    refine ends ?_ e
    split
    · exact sendIfIdle_scoreLaw (songTick_scoreLaw r h)
    · exact h
  | analysisComplete => exact ends (analysisComplete_scoreLaw h) e
  | calTimeout r => exact ends (calTimeout_scoreLaw r h) e
  | bankClearingComplete r b => exact ends (bankClearingComplete_scoreLaw r b h) e
  | fontClearingComplete => exact ends (h.of_rooms (fontClearingComplete_rooms s)) e
  | panelNone payload => exact ends (goodAnswer_scoreLaw h fun _ _ _ hx => hx) e
  | panelRequest payload =>
    exact ends (goodAnswer_scoreLaw h fun en r _ =>
      roomMessage_scoreLaw (fun en r _ => requestMessage_scoreLaw payload en r) en r) e
  | panelCancel payload =>
    exact ends (goodAnswer_scoreLaw h fun en r _ =>
      roomMessage_scoreLaw (fun en r _ => cancelMessage_scoreLaw payload en r) en r) e
  | panelStopMessage payload =>
    exact ends (goodAnswer_scoreLaw h fun en r _ =>
      roomMessage_scoreLaw (fun en r _ => stopMessage_scoreLaw en r) en r) e
  | panelUnknownKind kind payload => exact ends (goodAnswer_scoreLaw h fun _ _ _ => pushResult_scoreLaw _ _) e
  | wrongEcho address =>
    refine ends ?_ e
    split
    · exact h
    · exact endPoll_scoreLaw h fun en _ => markMiss_scoreLaw en _
  | garbled => exact ends (endPoll_scoreLaw h fun en _ => markMiss_scoreLaw en _) e
  | noAnswer => exact ends (endPoll_scoreLaw h fun en _ => markMiss_scoreLaw en _) e
  | venueTimeTick => exact ends (venueTimeTick_scoreLaw h) e
  | replyTimeout r ticket => exact ends (replyTimeout_scoreLaw r ticket h) e
  | cellSent => exact ends (schedule_scoreLaw h) e

/-- Settles O16: a lane changes by counting an outcome, by a line-score event that clears its line accumulators, or by
START and the resets that clear it; all else that a command does leaves the lanes. -/
theorem stepKeepsTheScoreLaw : Obligations.StepKeepsTheScoreLaw := by
  intro s t h e
  unfold step at e
  split at e
  · cases e; exact h
  · refine exec_scoreLaw _ ?_ e
    exact h.of_rooms rfl

end Sys2Proof.Machine
end

section
/-! PROOFS. The poll table and the outboxes: POLL_ENTRY (O38), and a result that is added to an outbox (O51). -/

namespace Sys2Proof.Machine

/-! ### An outbox (R149) -/

theorem push_disabled {p : PollEntry} (k : ResultKind) (h : p.enabled = false) : p.push k = p := by
  unfold PollEntry.push
  rw [if_neg (Bool.eq_false_iff.mp h)]

theorem push_fits {p : PollEntry} (k : ResultKind) (h : p.enabled = true) (hfree : p.outbox.length < 4) :
    p.push k = { p with outbox := p.outbox ++ [⟨k, false⟩] } := by
  unfold PollEntry.push
  rw [if_pos h, if_pos hfree]

/-- R149: the result that displaces the oldest of a full outbox. -/
theorem push_displaces {p : PollEntry} (k : ResultKind) (h : p.enabled = true) (hfull : 4 ≤ p.outbox.length) :
    p.push k = { p with outbox := p.outbox.tail ++ [⟨k, true⟩], resultsLost := p.resultsLost + 1 } := by
  unfold PollEntry.push
  rw [if_pos h, if_neg (Nat.not_lt.mpr hfull)]
  rfl

/-- Settles O51, case by case of R149. -/
theorem resultsEnterTheOutbox : Obligations.ResultsEnterTheOutbox := by
  refine fun p k => ⟨push_fits k, fun oldest rest h e hlen => ?_, push_disabled k⟩
  have hfull : 4 ≤ p.outbox.length := by rw [e]; exact Nat.succ_le_succ hlen
  rw [push_displaces k h hfull, e]
  rfl

/-! ### POLL_ENTRY (R141) -/

@[simp] theorem panelOf_val (e : PanelId) : panelOf e.val = some e := by
  unfold panelOf; rw [dif_pos e.isLt]

theorem panelOf_none {n : Nat} (h : 7 < n) : panelOf n = none := by
  unfold panelOf; rw [dif_neg (Nat.not_lt.mpr h)]

@[simp] theorem roomOf_val (r : RoomId) : roomOf r.val = some r := by
  unfold roomOf; rw [dif_pos r.isLt]

theorem roomOf_none {n : Nat} (h : 3 < n) : roomOf n = none := by
  unfold roomOf; rw [dif_neg (Nat.not_lt.mpr h)]

theorem twoWay_some {v : Nat} (h : v ≤ 1) : twoWay v = some (decide (v = 1)) := by
  match v with
  | 0 | 1 => rfl
  | _ + 2 => omega

/-- R141, check 3: another enabled entry holds the address. -/
theorem addressTaken_iff (s : State) (e : PanelId) (address : Nat) :
    s.addressTaken e address = true ↔ ∃ k, k ≠ e ∧ (s.panel k).enabled = true ∧ (s.panel k).address = address := by
  simp [State.addressTaken, mem_allPanels, and_assoc]

section
variable {s : State}

/-- R141, check 2: an operand that is out of range. -/
theorem pollEntryOrder_range {entry enabled address room : Nat} (hm : s.mode = .config)
    (h : 7 < entry ∨ 1 < enabled ∨ address < 1 ∨ 31 < address ∨ 3 < room) :
    pollEntryOrder entry enabled address room s = refuse s .range := by
  unfold pollEntryOrder
  rw [if_neg (not_not_intro hm)]
  split
  · next he hon hr =>
    have haddress : address < 1 ∨ 31 < address := by
      rcases h with h | h | h | h | h
      · cases he.symm.trans (panelOf_none h)
      · cases hon.symm.trans (twoWay_none (Nat.not_le.mpr h))
      · exact .inl h
      · exact .inr h
      · cases hr.symm.trans (roomOf_none h)
    rw [if_pos haddress]
  · rfl

/-- R141: operands in range are taken but where the address is another enabled entry's. -/
theorem pollEntryOrder_inRange (e : PanelId) (r : RoomId) {enabled address : Nat} (hm : s.mode = .config)
    (hon : enabled ≤ 1) (hlow : 1 ≤ address) (hhigh : address ≤ 31) :
    pollEntryOrder e.val enabled address r.val s =
      if enabled = 1 ∧ s.addressTaken e address = true then refuse s .range
      else accept (s.updPanel e fun _ => setEntry (decide (enabled = 1)) address r) := by
  have haddress : ¬(address < 1 ∨ 31 < address) := by omega
  unfold pollEntryOrder
  rw [if_neg (not_not_intro hm), panelOf_val, twoWay_some hon, roomOf_val]
  simp only [if_neg haddress, decide_eq_true_eq]

theorem exec_pollEntry_replied {t : State} (h : s.takes) {tag entry enabled address room : Nat} {code : ReplyCode}
    (e : pollEntryOrder entry enabled address room s.countIn = ⟨t.countIn, code, []⟩) :
    exec (.pollEntry tag entry enabled address room) s = .next (t.replied 15 tag 4 code) :=
  congrArg Host.Outcome.next (chipOrder_replied h e)

end

/-- Settles O38, check by check of R141. -/
theorem pollEntrySetsOneEntry : Obligations.PollEntrySetsOneEntry := by
  intro tag entry enabled address room s h
  refine ⟨fun hm => exec_pollEntry_replied h (if_pos hm), fun hm =>
    ⟨fun hbad => exec_pollEntry_replied h (pollEntryOrder_range (s := s.countIn) hm hbad), ?_⟩⟩
  rintro e r rfl rfl hon hlow hhigh
  have hdecided := pollEntryOrder_inRange (s := s.countIn) e r hm hon hlow hhigh
  refine ⟨fun h1 htaken => exec_pollEntry_replied h (hdecided.trans ?_),
    fun hfree => exec_pollEntry_replied h (hdecided.trans ?_)⟩
  · exact if_pos ⟨h1, (addressTaken_iff s e address).mpr htaken⟩
  · refine if_neg fun ⟨h1, htaken⟩ => ?_
    obtain ⟨k, hk, hke, hka⟩ := (addressTaken_iff s e address).mp htaken
    exact hfree h1 k hk hke hka

end Sys2Proof.Machine
end

section
/-! PROOFS. The end of a poll transaction: presence and the polling cycle (O53), and the messages of good answers
(O52). -/

namespace Sys2Proof.Machine

section
variable {s : State}

/-! ### The next poll (R142, R143) -/

theorem nextPoll_some {k : PanelId} (h : s.enabledAfter s.nextEntry = some k) : nextPoll s = beginPoll k s := by
  unfold nextPoll; rw [h]

theorem nextPoll_none (h : s.enabledAfter s.nextEntry = none) : nextPoll s = { s with polling := none } := by
  unfold nextPoll; rw [h]

/-- R142: the nearest enabled entry above `e`. -/
theorem enabledAfter_above {e k : PanelId} (hk : (s.panel k).enabled = true) (hek : e < k)
    (hbetween : ∀ j, e < j → j < k → (s.panel j).enabled = false) : s.enabledAfter e = some k := by
  have hfound : allPanels.find? (fun j => e < j && (s.panel j).enabled) = some k := by
    refine allPanels_find? (by simp [hek, hk]) fun j hjk => ?_
    simpa using fun hej => hbetween j hej hjk
  unfold State.enabledAfter
  rw [hfound]

/-- R142: with no enabled entry above `e` the cycle returns to the lowest. -/
theorem enabledAfter_wraps {e : PanelId} (habove : ∀ j, e < j → (s.panel j).enabled = false) :
    s.enabledAfter e = s.lowestEnabled := by
  have hnone : allPanels.find? (fun j => e < j && (s.panel j).enabled) = none :=
    List.find?_eq_none.mpr fun j _ => by simpa using habove j
  unfold State.enabledAfter
  rw [hnone]

theorem lowestEnabled_some {k : PanelId} (hk : (s.panel k).enabled = true)
    (hbelow : ∀ j, j < k → (s.panel j).enabled = false) : s.lowestEnabled = some k :=
  allPanels_find? hk hbelow

theorem lowestEnabled_none (h : ∀ k, (s.panel k).enabled = false) : s.lowestEnabled = none :=
  List.find?_eq_none.mpr fun k _ => Bool.eq_false_iff.mp (h k)

/-! ### Presence (R145) -/

/-- R145: a good answer of entry `k`. -/
theorem markGood_eq (k : PanelId) (s : State) :
    markGood k s =
      let heard := s.updPanel k fun x => { x with good := x.good + 1, missCount := 0, present := true }
      if (s.panel k).present = true then heard
      else raise (.panelState k (s.panel k).address (s.panel k).room true) heard := by
  unfold markGood State.panelStateOf
  simp only [panel_updPanel_same]
  rfl

@[simp] theorem markGood_room (e : PanelId) (s : State) (r : RoomId) : (markGood e s).room r = s.room r := by
  rw [markGood_eq]
  dsimp only
  split
  · rfl
  · exact raise_room_ne _ _ r nofun

/-- R144: counting a miss leaves the address, the room and the presence of an entry. -/
def KeepsPresence (count : PollEntry → PollEntry) : Prop :=
  ∀ p, (count p).address = p.address ∧ (count p).room = p.room ∧ (count p).present = p.present

/-- R145: a miss of entry `e`; the third in a row of a PRESENT one raises a PANEL_STATE. -/
theorem markMiss_eq (e : PanelId) {count : PollEntry → PollEntry} (hcount : KeepsPresence count) (s : State) :
    markMiss e count s =
      if (s.panel e).present = true ∧ 2 ≤ (s.panel e).missCount then
        raise (.panelState e (s.panel e).address (s.panel e).room false) (s.updPanel e fun x => count x.missed)
      else s.updPanel e fun x => count x.missed := by
  obtain ⟨haddress, hroom, hpresent⟩ := hcount (s.panel e).missed
  unfold markMiss
  by_cases h : (s.panel e).present = true ∧ 2 ≤ (s.panel e).missCount
  · have habsent : (s.panel e).missed.present = false := by simp [PollEntry.missed]; omega
    have hreport : (s.updPanel e fun x => count x.missed).panelStateOf e =
        .panelState e (s.panel e).address (s.panel e).room false := by
      rw [State.panelStateOf, panel_updPanel_same, haddress, hroom, hpresent, habsent]
      rfl
    rw [if_pos h, if_pos ⟨h.1, Nat.succ_le_succ h.2⟩, hreport]
  · rw [if_neg h, if_neg fun h' => h ⟨h'.1, Nat.le_of_succ_le_succ h'.2⟩]

/-! ### The end of a transaction (R143) -/

theorem endPoll_idle {act : PanelId → State → State} (h : s.polling = none) : endPoll act s = s := by
  unfold endPoll; rw [h]

theorem endPoll_inFlight {act : PanelId → State → State} (h : s.polling ≠ none) :
    endPoll act s = (nextPoll (act s.nextEntry s)).sendIfIdle := by
  obtain ⟨t, ht⟩ := Option.ne_none_iff_exists'.mp h
  unfold endPoll; rw [ht]

/-- R144: a transaction in flight that ends with a miss. -/
theorem endPoll_miss {count : PollEntry → PollEntry} (hcount : KeepsPresence count) (h : s.polling ≠ none) :
    endPoll (fun e x => markMiss e count x) s =
      (nextPoll (if (s.panel s.nextEntry).present = true ∧ 2 ≤ (s.panel s.nextEntry).missCount then
          raise (.panelState s.nextEntry (s.panel s.nextEntry).address (s.panel s.nextEntry).room false)
            (s.updPanel s.nextEntry fun x => count x.missed)
        else s.updPanel s.nextEntry fun x => count x.missed)).sendIfIdle := by
  rw [endPoll_inFlight h, markMiss_eq _ hcount]

theorem goodAnswer_inFlight {handle : PanelId → RoomId → State → State} (h : s.polling ≠ none) :
    goodAnswer handle s =
      (nextPoll (handle s.nextEntry (s.panel s.nextEntry).room (markGood s.nextEntry s))).sendIfIdle :=
  endPoll_inFlight h

/-! ### Messages (R146, R148) -/

theorem roomMessage_off {handle : PanelId → RoomId → State → State} {r : RoomId} (e : PanelId)
    (h : (s.room r).ctx.state = .off) : roomMessage handle e r s = pushResult e .notPermitted s := if_pos h

theorem roomMessage_on {handle : PanelId → RoomId → State → State} {r : RoomId} (e : PanelId)
    (h : (s.room r).ctx.state ≠ .off) : roomMessage handle e r s = handle e r s := if_neg h

/-- R148: a STOP message of a room that is not OFF, by its permission and its state. -/
theorem stopMessage_eq (e : PanelId) (r : RoomId) (s : State) :
    stopMessage e r s =
      if (s.room r).params.panelStopPermit = false then pushResult e .notPermitted s
      else if (s.room r).ctx.state = .playing ∨ (s.room r).ctx.state = .held then takeEnding r .panelStop s
      else pushResult e (.tooLate 0) s := by
  unfold stopMessage
  simp only [RoomContext.singing_iff]

end

/-- Settles O53: presence, the misses of each kind, and the choice of the next entry. -/
theorem presenceAndPolling : Obligations.PresenceAndPolling := by
  intro s
  refine ⟨fun k => markGood_eq k s, fun hp => ⟨?_, ?_⟩, fun t address ht => ⟨fun hne => ?_, fun he => ?_⟩,
    fun hp => ⟨?_, ?_, fun address => ?_⟩, fun k hk hnext => ?_, fun hnone => ?_⟩
  · exact congrArg Host.Outcome.next (endPoll_miss (fun _ => ⟨rfl, rfl, rfl⟩) hp)
  · exact congrArg Host.Outcome.next (endPoll_miss (fun _ => ⟨rfl, rfl, rfl⟩) hp)
  · have hother : s.polling.map PollTransaction.address ≠ some address := by
      rw [ht]
      exact fun h => hne (Option.some.inj h).symm
    have hp : s.polling ≠ none := by rw [ht]; exact nofun
    exact congrArg Host.Outcome.next ((if_neg hother).trans (endPoll_miss (fun _ => ⟨rfl, rfl, rfl⟩) hp))
  · exact congrArg Host.Outcome.next (if_pos (by rw [ht, he]; rfl))
  · exact congrArg Host.Outcome.next (endPoll_idle hp)
  · exact congrArg Host.Outcome.next (endPoll_idle hp)
  · exact congrArg Host.Outcome.next ((if_neg (by rw [hp]; exact nofun)).trans (endPoll_idle hp))
  · refine nextPoll_some ?_
    rcases hnext with ⟨hek, hbetween⟩ | ⟨_, habove, hbelow⟩
    · exact enabledAfter_above hk hek hbetween
    · exact (enabledAfter_wraps habove).trans (lowestEnabled_some hk hbelow)
  · exact nextPoll_none ((enabledAfter_wraps fun j _ => hnone j).trans (lowestEnabled_none hnone))

/-- Settles O52: `goodAnswer` for each kind of message, in a room that is OFF and in one that is not. -/
theorem panelAnswersAreHandled : Obligations.PanelAnswersAreHandled := by
  intro payload kind s
  refine ⟨fun hp => ?_, fun hp => ?_⟩
  · have ignored (handle : PanelId → RoomId → State → State) :
        (.next (goodAnswer handle s) : Host.Outcome State Fault Refusal) = .next s :=
      congrArg Host.Outcome.next (endPoll_idle hp)
    exact ⟨ignored _, ignored _, ignored _, ignored _, ignored _⟩
  · dsimp only
    have answered {handle : PanelId → RoomId → State → State} {t : State}
        (e : handle s.nextEntry (s.panel s.nextEntry).room (markGood s.nextEntry s) = t) :
        (.next (goodAnswer handle s) : Host.Outcome State Fault Refusal) = .next (nextPoll t).sendIfIdle := by
      rw [goodAnswer_inFlight hp, e]
    refine ⟨answered rfl, answered rfl, fun hoff => ?_, fun hon => ?_⟩
    · rw [← markGood_room s.nextEntry s] at hoff
      exact ⟨answered (roomMessage_off _ hoff), answered (roomMessage_off _ hoff), answered (roomMessage_off _ hoff)⟩
    · rw [← markGood_room s.nextEntry s] at hon
      refine ⟨answered (roomMessage_on _ hon), answered (roomMessage_on _ hon), answered ?_⟩
      rw [roomMessage_on _ hon, stopMessage_eq, markGood_room]
      rfl

end Sys2Proof.Machine
end

section
/-! PROOFS. What a REQUEST and a CANCEL message of a panel do in the Request Manager (O49). -/

namespace Sys2Proof.Machine

/-! ### The ticket that is issued (R155) -/

theorem entry?_isNone {rm : Room} {ticket : Nat} :
    (rm.entry? ticket).isNone = true ↔ ∀ x ∈ rm.requests, x.ticket ≠ ticket := by
  simp [Room.entry?]

theorem ticketsAfter_nodup (counter : Nat) : (ticketsAfter counter).Nodup := by
  refine List.Nodup.map_on (fun i hi j hj h => ?_) List.nodup_range
  rw [List.mem_range] at hi hj
  omega

/-- R155: a list of fewer than 255 entries leaves a ticket free. -/
theorem exists_free_ticket {rm : Room} (h : rm.requests.length < 255) :
    ∃ t ∈ ticketsAfter rm.ticketCounter, (rm.entry? t).isNone = true := by
  by_contra hall
  have hheld : ticketsAfter rm.ticketCounter ⊆ rm.requests.map Entry.ticket := by
    intro t ht
    by_contra hfree
    exact hall ⟨t, ht, entry?_isNone.mpr fun x hx e => hfree (List.mem_map.mpr ⟨x, hx, e⟩)⟩
  have hcount := ((ticketsAfter_nodup rm.ticketCounter).subperm hheld).length_le
  simp only [ticketsAfter, List.length_map, List.length_range] at hcount
  omega

/-- R155, step 3: the ticket issued stands `d` places after the counter's next, and every ticket before it is held. -/
theorem nextTicket_spec {rm : Room} (h : rm.requests.length < 255) :
    ∃ d, rm.nextTicket = (rm.ticketCounter + d) % 255 + 1
      ∧ (∀ j, j < d → ∃ x ∈ rm.requests, x.ticket = (rm.ticketCounter + j) % 255 + 1)
      ∧ ∀ x ∈ rm.requests, x.ticket ≠ rm.nextTicket := by
  obtain ⟨t, ht⟩ := Option.isSome_iff_exists.mp (List.find?_isSome.mpr (exists_free_ticket h))
  have hissued : rm.nextTicket = t := by unfold Room.nextTicket; rw [ht]; rfl
  obtain ⟨hfree, d, hd, hat, hbefore⟩ := List.find?_eq_some_iff_getElem.mp ht
  refine ⟨d, by rw [hissued, ← hat]; simp [ticketsAfter], fun j hj => ?_, hissued ▸ entry?_isNone.mp hfree⟩
  by_contra hn
  have hnone : (rm.entry? ((rm.ticketCounter + j) % 255 + 1)).isNone = true :=
    entry?_isNone.mpr fun x hx e => hn ⟨x, hx, e⟩
  have := hbefore j hj
  simp [ticketsAfter, hnone] at this

/-! ### A request (R147, R155) -/

section
variable {payload : List Byte} {e : PanelId} {r : RoomId} {s : State}

/-- R147: a REQUEST message that fails a check. -/
theorem requestMessage_format (h : payload.length < 5 ∨ fieldAt payload 0 3 = 0 ∨ 999999 < fieldAt payload 0 3) :
    requestMessage payload e r s = pushResult e .format s := by
  unfold requestMessage
  by_cases hlen : payload.length < 5
  · exact if_pos hlen
  · exact (if_neg hlen).trans (if_pos (h.resolve_left hlen))

/-- R147: a REQUEST message that passes is handed on, its key shift and singer tag clamped. -/
theorem requestMessage_passes (hlen : 5 ≤ payload.length) (hlow : 1 ≤ fieldAt payload 0 3)
    (hhigh : fieldAt payload 0 3 ≤ 999999) :
    requestMessage payload e r s =
      takeRequest r e (fieldAt payload 0 3) (clampKey (payload.getD 3 0).toInt) (clampTag (payload.getD 4 0).toNat) s := by
  have hsong : ¬(fieldAt payload 0 3 = 0 ∨ 999999 < fieldAt payload 0 3) := by omega
  unfold requestMessage
  rw [if_neg (Nat.not_lt.mpr hlen)]
  exact if_neg hsong

variable {song tag : Nat} {keyShift : Int}

theorem takeRequest_full (h : 12 ≤ (s.room r).requests.length) :
    takeRequest r e song keyShift tag s =
      pushResult e .full (s.updRoom r fun x => x.countRequest fun c => { c with refusedFull := bump c.refusedFull 1 }) :=
  if_pos h

/-- R155, check 2: the song is in the list already. -/
theorem anySong_iff (rm : Room) (song : Nat) :
    (rm.requests.any fun x => x.song == song) = true ↔ ∃ x ∈ rm.requests, x.song = song := by
  simp

theorem takeRequest_duplicate (h : (s.room r).requests.length < 12)
    (hd : (s.room r).params.duplicatesRefuse = true ∧ ∃ x ∈ (s.room r).requests, x.song = song) :
    takeRequest r e song keyShift tag s =
      pushResult e .duplicate
        (s.updRoom r fun x => x.countRequest fun c => { c with refusedDuplicate := bump c.refusedDuplicate 1 }) := by
  rw [← anySong_iff] at hd
  exact (if_neg (Nat.not_le.mpr h)).trans (if_pos hd)

theorem takeRequest_issues (h : (s.room r).requests.length < 12)
    (hd : ¬((s.room r).params.duplicatesRefuse = true ∧ ∃ x ∈ (s.room r).requests, x.song = song)) :
    takeRequest r e song keyShift tag s = issueTicket r e song keyShift tag s := by
  rw [← anySong_iff] at hd
  exact (if_neg (Nat.not_le.mpr h)).trans (if_neg hd)

/-! ### A cancellation (R162) -/

theorem takeCancel_unheld {ticket : Nat} (h : (s.room r).entry? ticket = none) :
    takeCancel r e ticket s = pushResult e (.refused ticket reasonUnknown) s := by
  unfold takeCancel; rw [h]

theorem takeCancel_foreign {ticket : Nat} {x : Entry} (h : (s.room r).entry? ticket = some x) (hx : x.source ≠ e) :
    takeCancel r e ticket s = pushResult e .notPermitted s := by
  unfold takeCancel; rw [h]
  exact if_pos hx

/-- R162: a CANCEL of the panel that made the request, by the entry's state. -/
theorem takeCancel_own {ticket : Nat} {x : Entry} (h : (s.room r).entry? ticket = some x) (hx : x.source = e) :
    takeCancel r e ticket s = match x.state with
      | .waiting => removeWithResult r x (.cancelled ticket) s
      | .sent | .accepted => beginCancel r ticket s
      | .cancelling => s
      | .cued | .playing => pushResult e (.tooLate ticket) s := by
  unfold takeCancel
  cases hs : x.state <;> simp [h, hx, hs]

end

/-- Settles O49: the REQUEST message by the checks of R147 and R155, the CANCEL message by its entry (R162). -/
theorem requestsAndCancelsAreTaken : Obligations.RequestsAndCancelsAreTaken := by
  intro payload e r s
  refine ⟨requestMessage_format, fun hlen hlow hhigh => ?_, fun hempty => ?_, ?_⟩
  · rw [requestMessage_passes hlen hlow hhigh]
    refine ⟨takeRequest_full, takeRequest_duplicate, fun hfree hd => ?_⟩
    obtain ⟨d, hticket, hbefore, hunheld⟩ := nextTicket_spec (hfree.trans (by decide))
    rw [hticket] at hunheld
    refine ⟨d, hbefore, hunheld, (takeRequest_issues hfree hd).trans ?_⟩
    unfold issueTicket
    rw [hticket]
    rfl
  · rw [hempty]; rfl
  · rintro b bytes rfl
    refine ⟨takeCancel_unheld, fun x hx => ⟨takeCancel_foreign hx, fun hown => ?_⟩⟩
    have hstate := takeCancel_own hx hown
    have hticket : x.ticket = b.toNat := entry?_ticket hx
    refine ⟨fun hs => ?_, fun hs => ?_, fun hs => ?_, fun hs => ?_⟩
    · rw [hs] at hstate
      refine hstate.trans ?_
      rw [removeWithResult_eq, hown, hticket]
    · refine hstate.trans ?_
      rcases hs with hs | hs <;> rw [hs] <;> rfl
    · exact hstate.trans (by rw [hs])
    · refine hstate.trans ?_
      rcases hs with hs | hs <;> rw [hs] <;> rfl

end Sys2Proof.Machine
end

section
/-! PROOFS. Venue time: the millisecond, and the entries that time out in it (O50). -/

namespace Sys2Proof.Machine

/-! ### The entries of one room (R163) -/

/-- R163: an entry that times out leaves its list, is counted, and its source panel gets a result. -/
theorem timeOutEntry_eq (r : RoomId) (e : Entry) (s : State) :
    timeOutEntry r e s =
      (s.setRoom r { s.room r with
        requests := (s.room r).requests.filter fun x => x.ticket ≠ e.ticket
        requestCounters := { (s.room r).requestCounters with timeouts := (s.room r).requestCounters.timeouts + 1 } }
      ).updPanel e.source fun p => p.push e.timeoutResult := by
  unfold timeOutEntry
  rw [removeWithResult_eq, room_updRoom_same]
  unfold State.updRoom
  rw [setRoom_setRoom]
  rfl

/-- The entries `es` time out in room `r`, one after another. -/
def timeOutEntries (r : RoomId) (es : List Entry) (s : State) : State := es.foldl (fun y e => timeOutEntry r e y) s

/-- The room without the tickets of the entries `es`, which have timed out. -/
def Room.timedOut (rm : Room) (es : List Entry) : Room :=
  { rm with
    requests := rm.requests.filter fun x => ∀ e ∈ es, x.ticket ≠ e.ticket
    requestCounters := { rm.requestCounters with
      timeouts := rm.requestCounters.timeouts + BitVec.ofNat 32 es.length } }

theorem Room.timedOut_nil (rm : Room) : rm.timedOut [] = rm := by simp [Room.timedOut]

theorem Room.timedOut_cons (rm : Room) (e : Entry) (es : List Entry) :
    Room.timedOut { rm with
      requests := rm.requests.filter fun x => x.ticket ≠ e.ticket
      requestCounters := { rm.requestCounters with timeouts := rm.requestCounters.timeouts + 1 } } es
      = rm.timedOut (e :: es) := by
  have hcount : rm.requestCounters.timeouts + 1 + BitVec.ofNat 32 es.length
      = rm.requestCounters.timeouts + BitVec.ofNat 32 (es.length + 1) := by
    rw [Nat.add_comm, BitVec.ofNat_add, BitVec.add_assoc]
    rfl
  unfold Room.timedOut
  simp only [hcount, List.filter_filter, List.length_cons, List.mem_cons, forall_eq_or_imp, Bool.decide_and, Bool.and_comm]

theorem timeOutEntries_room (r : RoomId) (es : List Entry) (s : State) (k : RoomId) :
    (timeOutEntries r es s).room k = if k = r then (s.room r).timedOut es else s.room k := by
  unfold timeOutEntries
  induction es generalizing s with
  | nil =>
    split
    · next h => rw [h, Room.timedOut_nil]; rfl
    · rfl
  | cons e es ih =>
    rw [List.foldl_cons, ih, timeOutEntry_eq, room_updPanel, room_updPanel, room_setRoom_same, Room.timedOut_cons]
    split
    · rfl
    · next h => exact room_setRoom_ne _ _ _ _ h

/-- What the timeouts leave of a state: all but the rooms and the panels, which hold their pin-reset values here. -/
def State.besideLists (s : State) : State := { s with rooms := State.reset.rooms, panels := State.reset.panels }

theorem timeOutEntries_beside (r : RoomId) (es : List Entry) (s : State) :
    (timeOutEntries r es s).besideLists = s.besideLists :=
  foldl_keeps (fun y e => timeOutEntry r e y) State.besideLists (fun _ _ => rfl) es s

/-! ### The millisecond -/

/-- R163: the millisecond is counted, and REPLY_TIMEOUT applies as it stands. -/
def State.ticked (s : State) : State := { s with venueTime := s.venueTime + 1, timeoutInForce := s.chip.replyTimeout }

/-- R163: an entry is due in the next millisecond. -/
def State.dueNext (s : State) (e : Entry) : Bool := e.due (s.venueTime + 1) s.chip.replyTimeout

/-- The entries of room `r` that are due in the next millisecond. -/
def State.dueIn (s : State) (r : RoomId) : List Entry := (s.room r).requests.filter s.dueNext

/-- A room whose turn comes is as it was before the millisecond. -/
theorem timeOutRoom_eq {s x : State} {r : RoomId} (hr : x.room r = s.room r)
    (hb : x.besideLists = s.ticked.besideLists) : timeOutRoom x r = timeOutEntries r (s.dueIn r) x := by
  have htime : x.venueTime = s.venueTime + 1 := congrArg State.venueTime hb
  have hforce : x.timeoutInForce = s.chip.replyTimeout := congrArg State.timeoutInForce hb
  unfold timeOutRoom
  rw [hr, htime, hforce]
  rfl

theorem venueTimeTick_eq (s : State) :
    venueTimeTick s = timeOutEntries 3 (s.dueIn 3) (timeOutEntries 2 (s.dueIn 2)
      (timeOutEntries 1 (s.dueIn 1) (timeOutEntries 0 (s.dueIn 0) s.ticked))) := by
  have hfold : venueTimeTick s = timeOutRoom (timeOutRoom (timeOutRoom (timeOutRoom s.ticked 0) 1) 2) 3 := by
    unfold venueTimeTick allRooms
    simp only [List.foldl_cons, List.foldl_nil]
    rfl
  have hroom (k : RoomId) : s.ticked.room k = s.room k := rfl
  rw [hfold, timeOutRoom_eq (s := s) (x := s.ticked) (hroom 0) rfl]
  rw [timeOutRoom_eq (s := s) (r := 1), timeOutRoom_eq (s := s) (r := 2), timeOutRoom_eq (s := s) (r := 3)]
  all_goals simp [timeOutEntries_room, timeOutEntries_beside, hroom]

/-- What a millisecond keeps beside the lists and the panels, but for the venue time and the timeout in force. -/
theorem venueTimeTick_keeps {α : Type} (f : State → α) (hf : ∀ x, f x.besideLists = f x) (s : State) :
    f (venueTimeTick s) = f s.ticked := by
  have hbeside : (venueTimeTick s).besideLists = s.ticked.besideLists := by
    rw [venueTimeTick_eq]
    simp only [timeOutEntries_beside]
  rw [← hf, hbeside, hf]

/-- R163: every room loses its due entries, and counts them. -/
theorem venueTimeTick_room (s : State) (r : RoomId) :
    (venueTimeTick s).room r = (s.room r).timedOut (s.dueIn r) := by
  rw [venueTimeTick_eq]
  simp only [timeOutEntries_room]
  match r with
  | 0 => rfl
  | 1 => rfl
  | 2 => rfl
  | 3 => rfl

/-- With no entry due the millisecond is counted and nothing else happens. -/
theorem venueTimeTick_idle {s : State} (h : ∀ r, ∀ e ∈ (s.room r).requests, s.dueNext e = false) :
    venueTimeTick s = s.ticked := by
  have hnone (r : RoomId) : s.dueIn r = [] := List.filter_eq_nil_iff.mpr fun e he => by simp [h r e he]
  rw [venueTimeTick_eq, hnone, hnone, hnone, hnone]
  rfl

/-! ### What a room's list keeps and loses -/

theorem mem_timedOut {rm : Room} {es : List Entry} {x : Entry} :
    x ∈ (rm.timedOut es).requests ↔ x ∈ rm.requests ∧ ∀ e ∈ es, x.ticket ≠ e.ticket := by
  simp [Room.timedOut]

theorem mem_dueIn {s : State} {r : RoomId} {e : Entry} :
    e ∈ s.dueIn r ↔ e ∈ (s.room r).requests ∧ s.dueNext e = true := List.mem_filter

/-! ### REPLY_TIMEOUT alone (log 5) -/

theorem replyTimeout_due {r : RoomId} {ticket : Nat} {e : Entry} {s : State} (h : (s.room r).entry? ticket = some e)
    (hd : e.due s.venueTime s.timeoutInForce = true) : replyTimeout r ticket s = timeOutEntry r e s := by
  unfold replyTimeout
  rw [h]
  exact if_pos hd

theorem replyTimeout_not_due {r : RoomId} {ticket : Nat} {s : State}
    (h : ∀ e, (s.room r).entry? ticket = some e → e.due s.venueTime s.timeoutInForce = false) :
    replyTimeout r ticket s = s := by
  unfold replyTimeout
  split
  · rfl
  · next e he => exact if_neg (by simp [h e he])

/-- Settles O50: the millisecond room by room, and REPLY_TIMEOUT by the entry that holds its ticket. -/
theorem venueTimeAndTimeouts : Obligations.VenueTimeAndTimeouts := by
  intro s due dueNext result removed ticked inRoom
  have hremoved (r : RoomId) (e : Entry) (x : State) : timeOutEntry r e x = removed r e x := timeOutEntry_eq r e x
  have hrooms (r : RoomId) (x : State) : timeOutEntries r (s.dueIn r) x = inRoom r x := by
    unfold timeOutEntries
    simp only [hremoved]
    rfl
  have htick : exec .venueTimeTick s = .next (venueTimeTick s) := rfl
  have hticked : s.ticked = ticked := rfl
  have hdue : s.dueNext = dueNext := rfl
  rw [htick]
  refine ⟨?tick, ?idle, ?frame, fun r ticket => ⟨?due, ?later⟩⟩
  case tick => rw [venueTimeTick_eq, hrooms, hrooms, hrooms, hrooms, hticked]
  case idle => exact fun h => congrArg _ (venueTimeTick_idle h)
  case frame =>
    refine ⟨venueTimeTick s, rfl, venueTimeTick_keeps State.venueTime (fun _ => rfl) s,
      venueTimeTick_keeps State.cancelQueue (fun _ => rfl) s, venueTimeTick_keeps State.mode (fun _ => rfl) s,
      venueTimeTick_keeps State.reports (fun _ => rfl) s, venueTimeTick_keeps State.replies (fun _ => rfl) s,
      venueTimeTick_keeps State.upstream (fun _ => rfl) s, fun r => ?_⟩
    rw [venueTimeTick_room, ← hdue]
    refine ⟨?_, fun e he => ⟨fun hd x hx => ?_, fun hkept => ?_⟩⟩
    · rw [List.countP_eq_length_filter]; rfl
    · exact (mem_timedOut.mp hx).2 e (mem_dueIn.mpr ⟨he, hd⟩)
    · refine mem_timedOut.mpr ⟨he, fun x hx hticket => ?_⟩
      obtain ⟨hlisted, hnow⟩ := mem_dueIn.mp hx
      exact Bool.noConfusion ((hkept x hlisted hticket.symm).symm.trans hnow)
  case due =>
    intro e he hd
    exact congrArg Host.Outcome.next ((replyTimeout_due he hd).trans (hremoved r e s))
  case later =>
    intro h
    exact congrArg Host.Outcome.next (replyTimeout_not_due h)

end Sys2Proof.Machine
end

section
/-! PROOFS. No cell beside an idle link: what the scheduler leaves, and the commands after which it does not look (O19). -/

namespace Sys2Proof.Machine

/-! ### What the Request Manager offers (R157) -/

theorem waiting_eq_nil {s : State} : s.waiting = [] ↔ ∀ r, ∀ e ∈ (s.room r).requests, e.state ≠ .waiting := by
  simp [State.waiting, List.filterMap_eq_nil_iff, List.find?_eq_none, mem_allRooms]

theorem nextAdd_eq_none {s : State} : s.nextAdd = none ↔ s.waiting = [] := by
  unfold State.nextAdd
  cases s.waiting with
  | nil => simp
  | cons w ws => cases s.chip.requestOrder <;> simp

/-- R157: the Request Manager offers no cell when no CANCEL item and no WAITING entry waits. -/
theorem sendRequest_eq_none {s : State} :
    sendRequest s = none ↔ s.cancelQueue = [] ∧ ∀ r, ∀ e ∈ (s.room r).requests, e.state ≠ .waiting := by
  rw [← waiting_eq_nil, ← nextAdd_eq_none]
  rcases sendRequest_cases s with ⟨i, rest, hq, e⟩ | ⟨w, hq, hw, e⟩ | ⟨hq, hw, e⟩ <;> rw [e, hq]
  · simp
  · simp [hw]
  · simp [hw]

/-! ### What the scheduler leaves (R180) -/

/-- A busy link asks nothing of the queues. -/
theorem linkLaw_of_busy {s : State} {c : UpCell} (h : s.upstream = some c) : s.LinkLaw := fun hidle => by
  rw [h] at hidle; cases hidle

/-- R180: the scheduler leaves a link idle only beside empty queues. -/
theorem schedule_linkLaw (s : State) : (schedule s).LinkLaw := by
  rcases schedule_cases s with ⟨rep, rest, _, e⟩ | ⟨hr, hnone, e⟩ | ⟨sent, _, _, hq, e⟩ | ⟨rep, rest, _, _, _, _, e⟩ <;>
    rw [e]
  · exact linkLaw_of_busy (c := .reply rep) rfl
  · refine fun _ => ⟨hr, fun hm => ?_⟩
    obtain ⟨hoffer, hreports⟩ := hnone.resolve_left hm
    obtain ⟨hcancel, hwaiting⟩ := sendRequest_eq_none.mp hoffer
    exact ⟨hcancel, hwaiting, hreports⟩
  · rcases sendRequest_cases s with ⟨i, c, _, hs⟩ | ⟨w, _, _, hs⟩ | ⟨_, _, hs⟩ <;> rw [hs] at hq
    · cases hq; exact linkLaw_of_busy (c := .cancel i.room i.ticket) rfl
    · cases hq; exact linkLaw_of_busy rfl
    · cases hq
  · refine linkLaw_of_busy (c := .report rep) ?_
    unfold sendReport
    rw [drain_keeps State.upstream (fun _ _ _ _ _ => rfl) fun r x => leaveEnding_upstream r x]

/-- R180: an event at whose end the scheduler looks leaves no cell beside an idle link. -/
theorem sendIfIdle_linkLaw (s : State) : s.sendIfIdle.LinkLaw := by
  rcases sendIfIdle_cases s with ⟨⟨c, hc⟩, e⟩ | ⟨_, e⟩ <;> rw [e]
  · exact linkLaw_of_busy hc
  · exact schedule_linkLaw s

/-! ### Events after which the scheduler does not look -/

section
variable {s t : State}

/-- What the link law reads beside the request lists. -/
def State.linkPart (s : State) : Option UpCell × Mode × List Reply × List CancelItem × List Report :=
  (s.upstream, s.mode, s.replies, s.cancelQueue, s.reports)

/-- An event that brings no reply, no CANCEL item, no entry and no report, and leaves the link and the chip mode. -/
theorem State.LinkLaw.mono (h : s.LinkLaw) (hp : t.linkPart = s.linkPart)
    (hr : ∀ k, (t.room k).requests ⊆ (s.room k).requests) : t.LinkLaw := by
  simp only [State.linkPart, Prod.mk.injEq] at hp
  obtain ⟨hup, hmode, hreplies, hcancel, hreports⟩ := hp
  unfold State.LinkLaw at h ⊢
  rw [hup, hmode, hreplies, hcancel, hreports]
  intro hidle
  obtain ⟨hreply, hrest⟩ := h hidle
  refine ⟨hreply, fun hm => ?_⟩
  obtain ⟨hc, hw, hq⟩ := hrest hm
  exact ⟨hc, fun k e he => hw k e (hr k he), hq⟩

theorem State.LinkLaw.of_rooms (h : s.LinkLaw) (hp : t.linkPart = s.linkPart) (hr : t.rooms = s.rooms) : t.LinkLaw :=
  h.mono hp fun k => by unfold State.room; rw [hr]; exact List.Subset.refl _

theorem updRoom_linkLaw {r : RoomId} {f : Room → Room} (h : s.LinkLaw)
    (hf : (f (s.room r)).requests = (s.room r).requests) : (s.updRoom r f).LinkLaw :=
  h.mono rfl fun k => by
    rw [room_updRoom]
    split
    · next e => rw [e, hf]; exact List.Subset.refl _
    · exact List.Subset.refl _

/-- A command of which the end of an event follows every effect, or that has none. -/
theorem takeOrder_linkLaw (inStandby : Bool) (room tag kind : Nat) (d : State → Verdict) (h : s.LinkLaw) :
    (takeOrder inStandby room tag kind d s).LinkLaw := by
  rcases takeOrder_cases inStandby room tag kind d s with e | e | e <;> rw [e]
  · exact h.of_rooms rfl rfl
  · exact h.of_rooms rfl rfl
  · exact sendIfIdle_linkLaw _

theorem takeMedia_linkLaw {act : State → State} (h : s.LinkLaw) (ha : ∀ x, x.LinkLaw → (act x).LinkLaw) :
    (takeMedia act s).LinkLaw := by
  rcases takeMedia_cases act s with e | e <;> rw [e]
  · exact h.of_rooms rfl rfl
  · exact ha _ (h.of_rooms rfl rfl)

theorem videoCell_linkLaw (r : RoomId) (line : Nat) (frameStart : Bool) (pixels : List Rgb) (h : s.LinkLaw) :
    (videoCell r line frameStart pixels s).LinkLaw := by
  refine updRoom_linkLaw h ?_
  split
  · rfl
  · obtain ⟨_, _, _, e⟩ := videoLine_frame (s.room r) s.mode s.font line frameStart pixels
    rw [e]

/-- R95: samples that are discarded make no cell available. -/
theorem audioCell_linkLaw (r : RoomId) (endFlag : Bool) (samples : List Stereo) (h : s.LinkLaw) :
    (audioCell r endFlag samples s).LinkLaw := by
  unfold audioCell
  dsimp only
  split
  · exact updRoom_linkLaw h rfl
  split
  · exact updRoom_linkLaw h rfl
  split
  · exact updRoom_linkLaw h rfl
  · exact updRoom_linkLaw h rfl
  · exact updRoom_linkLaw h rfl
  · exact sendIfIdle_linkLaw _

theorem discardCell_linkLaw (bytes : List Byte) (h : s.LinkLaw) : (discardCell bytes s).LinkLaw := by
  refine h.of_rooms ?_ (discardCell_rooms s bytes)
  unfold discardCell
  dsimp only
  repeat' split
  all_goals rfl

theorem answerMalformed_linkLaw (bytes : List Byte) (h : s.LinkLaw) : (answerMalformed bytes s).LinkLaw := by
  unfold answerMalformed
  dsimp only
  split
  · exact h.of_rooms rfl rfl
  split
  · exact h.of_rooms rfl rfl
  · exact sendIfIdle_linkLaw _

theorem samplePeriod_linkLaw (inputs : Vector Sample 8) (roomOrder offerOrder : Nat) (h : s.LinkLaw) :
    (samplePeriod inputs roomOrder offerOrder s).LinkLaw := by
  unfold samplePeriod
  split
  · exact h.of_rooms rfl rfl
  · exact sendIfIdle_linkLaw _

theorem songPositionLimit_linkLaw (r : RoomId) (h : s.LinkLaw) : (songPositionLimit r s).LinkLaw := by
  unfold songPositionLimit
  split
  · exact sendIfIdle_linkLaw _
  · exact h

theorem calTimeout_linkLaw (r : RoomId) (h : s.LinkLaw) : (calTimeout r s).LinkLaw := by
  unfold calTimeout
  split
  · exact sendIfIdle_linkLaw _
  · exact h

theorem bankClearingComplete_linkLaw (r : RoomId) (b : BankId) (h : s.LinkLaw) :
    (bankClearingComplete r b s).LinkLaw := by
  unfold bankClearingComplete
  split
  · exact sendIfIdle_linkLaw _
  · exact h

theorem fontClearingComplete_linkLaw (h : s.LinkLaw) : (fontClearingComplete s).LinkLaw := by
  refine h.of_rooms ?_ (fontClearingComplete_rooms s)
  unfold fontClearingComplete
  split <;> rfl

theorem scoreFrame_requests (rm : Room) (f : ResultRecord) : (rm.scoreFrame f).requests = rm.requests := by
  unfold Room.scoreFrame
  split
  · rfl
  · exact Room.updMic_requests _ _ _

theorem beginAnalysis_linkLaw (h : s.LinkLaw) : (beginAnalysis s).LinkLaw := by
  unfold beginAnalysis
  split
  · exact h.of_rooms rfl rfl
  · exact h

/-- R112, R120: the result of an analysis goes to a lane and to its microphone. -/
theorem analysisComplete_linkLaw (h : s.LinkLaw) : (analysisComplete s).LinkLaw := by
  unfold analysisComplete
  split
  · exact h
  split
  · next a f rest _ _ =>
    have hscored : (s.scored a f).LinkLaw :=
      updRoom_linkLaw h ((Room.updMic_requests _ _ _).trans (scoreFrame_requests _ _))
    exact beginAnalysis_linkLaw (hscored.of_rooms rfl rfl)
  · exact h

/-- R142: with no poll in flight an answer describes no event. -/
theorem endPoll_linkLaw (act : PanelId → State → State) (h : s.LinkLaw) : (endPoll act s).LinkLaw := by
  unfold endPoll
  split
  · exact h
  · exact sendIfIdle_linkLaw _

/-- R163: entries that time out only leave their lists. -/
theorem timeOutEntry_linkLaw (r : RoomId) (e : Entry) (h : s.LinkLaw) : (timeOutEntry r e s).LinkLaw := by
  rw [timeOutEntry_eq]
  refine h.mono rfl fun k => ?_
  rw [room_updPanel, room_setRoom]
  split
  · next hk => rw [hk]; exact List.filter_subset_self _
  · exact List.Subset.refl _

theorem venueTimeTick_linkLaw (h : s.LinkLaw) : (venueTimeTick s).LinkLaw := by
  refine h.mono (venueTimeTick_keeps State.linkPart (fun _ => rfl) s) fun k e he => ?_
  rw [venueTimeTick_room] at he
  exact (mem_timedOut.mp he).1

theorem replyTimeout_linkLaw (r : RoomId) (ticket : Nat) (h : s.LinkLaw) : (replyTimeout r ticket s).LinkLaw := by
  unfold replyTimeout
  split
  · exact h
  split
  · exact timeOutEntry_linkLaw _ _ h
  · exact h

end

theorem pinReset_linkLaw (s : State) : (pinReset s).LinkLaw := reset_linkLaw.of_rooms rfl rfl

/-! ### Every command -/

/-- Every command answers a state with no cell beside an idle link. -/
theorem exec_linkLaw (c : Instr) {s t : State} (h : s.LinkLaw) (e : exec c s = .next t) : t.LinkLaw := by
  have order {b : Bool} {room tag kind : Nat} {d : State → Verdict}
      (e : (.next (takeOrder b room tag kind d s) : Host.Outcome State Fault Refusal) = .next t) : t.LinkLaw := by
    cases e; exact takeOrder_linkLaw b room tag kind d h
  have ends {x : State} (hx : x.LinkLaw) (e : (.next x : Host.Outcome State Fault Refusal) = .next t) : t.LinkLaw := by
    cases e; exact hx
  cases c with
  | pinReset => exact ends (pinReset_linkLaw s) e
  | cellDiscarded bytes => exact ends (discardCell_linkLaw bytes h) e
  | unknownOrder bytes =>
    refine ends ?_ e
    split
    · exact answerMalformed_linkLaw bytes h
    · exact h
  | video r line frameStart pixels =>
    exact ends (takeMedia_linkLaw h fun _ => videoCell_linkLaw r line frameStart pixels) e
  | audio r endFlag samples => exact ends (takeMedia_linkLaw h fun _ => audioCell_linkLaw r endFlag samples) e
  | samplePeriod inputs roomOrder offerOrder => exact ends (samplePeriod_linkLaw inputs roomOrder offerOrder h) e
  | songPositionLimit r => exact ends (songPositionLimit_linkLaw r h) e
  | songTick r =>
    refine ends ?_ e
    split
    · exact sendIfIdle_linkLaw _
    · exact h
  | analysisComplete => exact ends (analysisComplete_linkLaw h) e
  | calTimeout r => exact ends (calTimeout_linkLaw r h) e
  | bankClearingComplete r b => exact ends (bankClearingComplete_linkLaw r b h) e
  | fontClearingComplete => exact ends (fontClearingComplete_linkLaw h) e
  | wrongEcho address =>
    refine ends ?_ e
    split
    · exact h
    · exact endPoll_linkLaw _ h
  | panelNone | panelRequest | panelCancel | panelStopMessage | panelUnknownKind | garbled | noAnswer =>
    exact ends (endPoll_linkLaw _ h) e
  | venueTimeTick => exact ends (venueTimeTick_linkLaw h) e
  | replyTimeout r ticket => exact ends (replyTimeout_linkLaw r ticket h) e
  | cellSent => exact ends (schedule_linkLaw s) e
  | readCounters room tag => cases room <;> exact order e
  | _ => exact order e

/-- Settles O19: the scheduler looks at the end of every event that brings a cell, and leaves the link idle only beside
empty queues. -/
theorem stepLeavesNoCellBesideAnIdleLink : Obligations.StepLeavesNoCellBesideAnIdleLink := by
  intro s t h e
  unfold step at e
  split at e
  · cases e; exact h
  · refine exec_linkLaw _ ?_ e
    exact h.of_rooms rfl rfl

end Sys2Proof.Machine
end

section
/-! PROOFS. CELL_SENT: the class of the cell that a free link takes (O12). -/

namespace Sys2Proof.Machine

/-! ### The oldest WAITING entries (R157) -/

/-- The oldest WAITING entry of a room's list, which is in order of issue. -/
def Room.firstWaiting (rm : Room) : Option Entry := rm.requests.find? fun e => e.state == .waiting

theorem mem_waiting {s : State} {w : RoomId × Entry} : w ∈ s.waiting ↔ (s.room w.1).firstWaiting = some w.2 := by
  obtain ⟨k, x⟩ := w
  simp [State.waiting, Room.firstWaiting, mem_allRooms]

/-- The rooms in ascending order: those before room `r`, the room, and those after it. -/
theorem allRooms_split (r : RoomId) :
    ∃ before after, allRooms = before ++ r :: after ∧ ∀ k ∈ before, k < r :=
  ⟨allRooms.take r.val, allRooms.drop (r.val + 1), by revert r; decide, by revert r; decide⟩

/-- The first entry offered is that of the lowest-numbered room that holds a WAITING one. -/
theorem waiting_head {s : State} {r : RoomId} {e : Entry} (h : (s.room r).firstWaiting = some e)
    (hlower : ∀ k, k < r → (s.room k).firstWaiting = none) : s.waiting.head? = some (r, e) := by
  obtain ⟨before, after, hsplit, hbefore⟩ := allRooms_split r
  unfold State.waiting
  rw [List.head?_filterMap, List.findSome?_eq_some_iff]
  refine ⟨before, r, after, hsplit, ?_, fun k hk => ?_⟩
  · exact congrArg (Option.map fun e => (r, e)) h
  · exact congrArg (Option.map fun e => (k, e)) (hlower k (hbefore k hk))

theorem older_iff {a b : IssueNumber} : older a b = true ↔ a ≠ b ∧ (b - a).toNat < 2147483648 := by
  simp only [older, Bool.and_eq_true, bne_iff_ne, decide_eq_true_eq]

theorem older_asymm {a b : IssueNumber} (h : older a b = true) : older b a = false := by
  obtain ⟨hne, hlt⟩ := older_iff.mp h
  refine Bool.eq_false_iff.mpr fun hback => ?_
  obtain ⟨_, hlt'⟩ := older_iff.mp hback
  bv_omega

/-- R157: an entry that is older than every other of a list is the one that the comparison leaves. -/
theorem foldl_older {t : RoomId × Entry} (ws : List (RoomId × Entry)) (best : RoomId × Entry)
    (hmem : t ∈ best :: ws) (hold : ∀ w ∈ best :: ws, w = t ∨ older t.2.issue w.2.issue = true) :
    ws.foldl (fun best x => if older x.2.issue best.2.issue then x else best) best = t := by
  induction ws generalizing best with
  | nil => exact (List.mem_singleton.mp hmem).symm
  | cons w ws ih =>
    rw [List.foldl_cons]
    have hrest : ∀ x ∈ ws, x = t ∨ older t.2.issue x.2.issue = true := fun x hx =>
      hold x (List.mem_cons_of_mem _ (List.mem_cons_of_mem _ hx))
    have hbest := hold best List.mem_cons_self
    have hw := hold w (List.mem_cons_of_mem _ List.mem_cons_self)
    refine ih _ ?_ fun x hx => ?_
    · rcases List.mem_cons.mp hmem with rfl | hmem
      · rcases hw with rfl | hw
        · simp
        · simp [older_asymm hw]
      · rcases List.mem_cons.mp hmem with rfl | hmem
        · rcases hbest with rfl | hbest
          · simp
          · simp [hbest]
        · exact List.mem_cons_of_mem _ hmem
    · rcases List.mem_cons.mp hx with rfl | hx
      · split
        · exact hw
        · exact hbest
      · exact hrest x hx

/-! ### The entry that is offered (R157) -/

theorem nextAdd_roomRank {s : State} (h : s.chip.requestOrder = .roomRank) : s.nextAdd = s.waiting.head? := by
  unfold State.nextAdd
  rw [h]
  cases s.waiting <;> rfl

theorem nextAdd_lowest {s : State} {r : RoomId} {e : Entry} (horder : s.chip.requestOrder = .roomRank)
    (h : (s.room r).firstWaiting = some e) (hlower : ∀ k, k < r → ∀ x ∈ (s.room k).requests, x.state ≠ .waiting) :
    s.nextAdd = some (r, e) := by
  rw [nextAdd_roomRank horder]
  refine waiting_head h fun k hk => List.find?_eq_none.mpr fun x hx => ?_
  simpa using hlower k hk x hx

theorem nextAdd_oldest {s : State} {r : RoomId} {e : Entry} (horder : s.chip.requestOrder = .arrival)
    (h : (s.room r).firstWaiting = some e)
    (hold : ∀ k x, k ≠ r → (s.room k).firstWaiting = some x → older e.issue x.issue = true) :
    s.nextAdd = some (r, e) := by
  have hmem : (r, e) ∈ s.waiting := mem_waiting.mpr h
  have hall : ∀ w ∈ s.waiting, w = (r, e) ∨ older e.issue w.2.issue = true := fun w hw => by
    have hfirst := mem_waiting.mp hw
    by_cases hk : w.1 = r
    · rw [hk, h] at hfirst
      exact .inl (Prod.ext hk (Option.some.inj hfirst).symm)
    · exact .inr (hold w.1 w.2 hk hfirst)
  unfold State.nextAdd
  rw [horder]
  cases hw : s.waiting with
  | nil => rw [hw] at hmem; cases hmem
  | cons w ws =>
    rw [hw] at hmem hall
    exact congrArg some (foldl_older ws w hmem hall)

/-! ### The scheduler, class by class (R180) -/

section
variable {s : State}

theorem schedule_reply {rep : Reply} {rest : List Reply} (h : s.replies = rep :: rest) :
    schedule s = sendReply rep rest s := by
  unfold schedule
  rw [h]

theorem schedule_standby (h : s.replies = []) (hm : s.mode = .stop) : schedule s = { s with upstream := none } := by
  unfold schedule
  rw [h]
  exact if_pos hm

/-- R180: with nothing to take the link is idle. -/
theorem schedule_idle (h : s.replies = []) (hoffer : sendRequest s = none) (hreports : s.reports = []) :
    schedule s = { s with upstream := none } := by
  unfold schedule
  rw [h, hoffer, hreports]
  exact ite_self _

/-- R157: outside chip mode STOP what the Request Manager offers goes before the reports. -/
theorem schedule_request {sent : State} (h : s.replies = []) (hm : s.mode ≠ .stop)
    (hoffer : sendRequest s = some sent) : schedule s = sent := by
  unfold schedule
  rw [h, hoffer]
  exact if_neg hm

theorem sendRequest_cancel {i : CancelItem} {rest : List CancelItem} (h : s.cancelQueue = i :: rest) :
    sendRequest s = some (sendCancel i rest (s.count fun l => { l with requestCellsSent := bump l.requestCellsSent 1 })) := by
  unfold sendRequest
  rw [h]

theorem sendRequest_add {r : RoomId} {e : Entry} (h : s.cancelQueue = []) (hadd : s.nextAdd = some (r, e)) :
    sendRequest s = some (sendAdd r e (s.count fun l => { l with requestCellsSent := bump l.requestCellsSent 1 })) := by
  unfold sendRequest
  rw [h, hadd]
  rfl

end

/-- Settles O12, class by class. -/
theorem cellsAreSentByTheirClass : Obligations.CellsAreSentByTheirClass := by
  have hsent (s : State) : exec .cellSent s = .next (schedule s) := rfl
  refine ⟨fun s => ⟨?_, fun hbusy => ?_⟩, fun s => ⟨?_, ?_, ?_⟩, fun s hreplies hm => ⟨?_, ?_⟩⟩
  · intro hidle
    rw [hsent, sendIfIdle_idle hidle]
  · obtain ⟨c, hc⟩ := Option.ne_none_iff_exists'.mp hbusy
    exact sendIfIdle_busy hc
  · intro rep rest h
    rw [hsent, schedule_reply h]
    rfl
  · intro h hstop
    rw [hsent, schedule_standby h hstop]
  · intro h hcancel hwaiting hreports
    rw [hsent, schedule_idle h (sendRequest_eq_none.mpr ⟨hcancel, hwaiting⟩) hreports]
  · intro i rest h
    rw [hsent, schedule_request hreplies hm (sendRequest_cancel h)]
    rfl
  · intro hcancel r e hfirst horder
    have hnext : s.nextAdd = some (r, e) := by
      rcases horder with ⟨hrank, hlower⟩ | ⟨harrival, hold⟩
      · exact nextAdd_lowest hrank hfirst hlower
      · exact nextAdd_oldest harrival hfirst fun k x hk hx => older_iff.mpr (hold k x hk hx)
    rw [hsent, schedule_request hreplies hm (sendRequest_add hcancel hnext)]
    rfl

end Sys2Proof.Machine
end

section
/-! PROOFS. The request law of one room: what it reads, and what each change of the list, the cue and the song does to it
(R153, R156, R164). -/

namespace Sys2Proof.Machine

/-! ### What the law reads of a room -/

/-- What the request law reads of a room: the tickets of its cue and of its song, whether a song is in progress, the
request list and the ticket counter. -/
structure RequestView where
  cued : Option Nat
  current : Option Nat
  singing : Bool
  entries : List Entry
  counter : Nat

def Room.requestView (rm : Room) : RequestView :=
  ⟨rm.ctx.cuedTicket, rm.ctx.currentTicket, rm.ctx.singing, rm.requests, rm.ticketCounter⟩

/-- The tickets of the cue and of the song are those of the CUED and of the PLAYING entry. -/
structure Room.Linked (rm : Room) : Prop where
  cued : ∀ e ∈ rm.requests, e.state = .cued ↔ rm.ctx.cuedTicket = some e.ticket
  playing : ∀ e ∈ rm.requests,
    e.state = .playing ↔ (rm.ctx.currentTicket = some e.ticket ∧ rm.ctx.singing = true)
  cuedHeld : ∀ t, rm.ctx.cuedTicket = some t → ∃ e ∈ rm.requests, e.ticket = t
  playingHeld : ∀ t, rm.ctx.currentTicket = some t → rm.ctx.singing = true ∧ ∃ e ∈ rm.requests, e.ticket = t

/-- A list without new tickets is lawful once its links are. -/
theorem Room.RequestsLawful.relink {rm x : Room} (h : rm.RequestsLawful) (hcount : x.ticketCounter = rm.ticketCounter)
    (hsub : (x.requests.map Entry.ticket).Sublist (rm.requests.map Entry.ticket)) (hl : x.Linked) :
    x.RequestsLawful where
  counter := hcount ▸ h.counter
  length := by
    have := hsub.length_le
    simp only [List.length_map] at this
    exact this.trans h.length
  range e he := by
    obtain ⟨e0, he0, ht⟩ := List.mem_map.mp (hsub.subset (List.mem_map_of_mem he))
    exact ht ▸ h.range e0 he0
  distinct := h.distinct.sublist hsub
  cued := hl.cued
  playing := hl.playing
  cuedHeld := hl.cuedHeld
  playingHeld := hl.playingHeld

theorem Room.RequestsLawful.congr {rm x : Room} (h : rm.RequestsLawful) (e : x.requestView = rm.requestView) :
    x.RequestsLawful := by
  simp only [Room.requestView, RequestView.mk.injEq] at e
  obtain ⟨hcued, hcurrent, hsinging, hentries, hcounter⟩ := e
  refine h.relink hcounter (by rw [hentries]) ?_
  constructor <;> simp only [hcued, hcurrent, hsinging, hentries]
  exacts [h.cued, h.playing, h.cuedHeld, h.playingHeld]

/-- R156: an entry that waits for its CANCEL cell holds the ticket. -/
def Room.Awaits (rm : Room) (ticket : Nat) : Prop :=
  ∃ e ∈ rm.requests, e.ticket = ticket ∧ e.state = .cancelling ∧ e.sentTime = none

/-- A room's work leaves a lawful list, and every ticket that waits for its CANCEL cell waiting. -/
structure Room.KeepsList (rm x : Room) : Prop where
  lawful : x.RequestsLawful
  awaits : ∀ ticket, rm.Awaits ticket → x.Awaits ticket

/-- The entries that wait for a CANCEL cell stay as they are. -/
theorem Room.RequestsLawful.keeps {rm x : Room} (h : x.RequestsLawful)
    (hk : ∀ e ∈ rm.requests, e.state = .cancelling → e.sentTime = none → e ∈ x.requests) : rm.KeepsList x :=
  ⟨h, fun _ ⟨e, he, ht, hs, hn⟩ => ⟨e, hk e he hs hn, ht, hs, hn⟩⟩

theorem Room.KeepsList.congr {rm x y : Room} (h : rm.KeepsList x) (e : y.requestView = x.requestView) :
    rm.KeepsList y := by
  refine ⟨h.lawful.congr e, fun ticket ht => ?_⟩
  have hentries : y.requests = x.requests := congrArg RequestView.entries e
  unfold Room.Awaits
  rw [hentries]
  exact h.awaits ticket ht

theorem Room.RequestsLawful.keepsView {rm x : Room} (h : rm.RequestsLawful) (e : x.requestView = rm.requestView) :
    rm.KeepsList x := Room.KeepsList.congr ⟨h, fun _ ht => ht⟩ e

/-! ### Entries and tickets -/

section
variable {rm : Room}

theorem Room.RequestsLawful.unique (h : rm.RequestsLawful) {e x : Entry} (he : e ∈ rm.requests) (hx : x ∈ rm.requests)
    (ht : x.ticket = e.ticket) : x = e := List.inj_on_of_nodup_map h.distinct hx he ht

theorem entry?_mem {ticket : Nat} {e : Entry} (h : rm.entry? ticket = some e) : e ∈ rm.requests :=
  List.mem_of_find?_eq_some h

/-- The entry of the cue is CUED, and that of the song PLAYING. -/
theorem Room.RequestsLawful.cuedEntry (h : rm.RequestsLawful) {t : Nat} (hc : rm.ctx.cuedTicket = some t) :
    ∃ e ∈ rm.requests, e.ticket = t ∧ e.state = .cued := by
  obtain ⟨e, he, rfl⟩ := h.cuedHeld t hc
  exact ⟨e, he, rfl, (h.cued e he).mpr hc⟩

theorem Room.RequestsLawful.playingEntry (h : rm.RequestsLawful) {t : Nat} (hc : rm.ctx.currentTicket = some t) :
    rm.ctx.singing = true ∧ ∃ e ∈ rm.requests, e.ticket = t ∧ e.state = .playing := by
  obtain ⟨hs, e, he, rfl⟩ := h.playingHeld t hc
  exact ⟨hs, e, he, rfl, (h.playing e he).mpr ⟨hc, hs⟩⟩

theorem Room.RequestsLawful.not_playing (h : rm.RequestsLawful) (hs : rm.ctx.singing = false) {e : Entry}
    (he : e ∈ rm.requests) : e.state ≠ .playing := fun hp => by
  have := ((h.playing e he).mp hp).2
  rw [hs] at this
  cases this

/-! ### Entries that change and entries that leave -/

/-- An entry keeps its ticket and its part in the cue and in the song. -/
structure Entry.SameRole (e x : Entry) : Prop where
  ticket : x.ticket = e.ticket
  cued : x.state = .cued ↔ e.state = .cued
  playing : x.state = .playing ↔ e.state = .playing

theorem Entry.SameRole.refl (e : Entry) : e.SameRole e := ⟨rfl, Iff.rfl, Iff.rfl⟩

/-- An entry with no part in the cue or in the song moves to a state without one. -/
theorem Entry.SameRole.of_free {e x : Entry} (ht : x.ticket = e.ticket) (he : e.state ≠ .cued ∧ e.state ≠ .playing)
    (hx : x.state ≠ .cued ∧ x.state ≠ .playing) : e.SameRole x :=
  ⟨ht, iff_of_false hx.1 he.1, iff_of_false hx.2 he.2⟩

theorem map_ticket {es : List Entry} {g : Entry → Entry} (hg : ∀ e ∈ es, (g e).ticket = e.ticket) :
    ((es.map g).map Entry.ticket).Sublist (es.map Entry.ticket) := by
  have e : es.map (Entry.ticket ∘ g) = es.map Entry.ticket := List.map_congr_left hg
  rw [List.map_map, e]

theorem Room.RequestsLawful.map (h : rm.RequestsLawful) {g : Entry → Entry} (hg : ∀ e ∈ rm.requests, e.SameRole (g e)) :
    ({ rm with requests := rm.requests.map g } : Room).RequestsLawful := by
  refine h.relink rfl (map_ticket fun e he => (hg e he).ticket) ⟨?cued, ?playing, ?cuedHeld, ?playingHeld⟩
  case cued =>
    refine List.forall_mem_map.mpr fun e he => ?_
    rw [(hg e he).cued, (hg e he).ticket]
    exact h.cued e he
  case playing =>
    refine List.forall_mem_map.mpr fun e he => ?_
    rw [(hg e he).playing, (hg e he).ticket]
    exact h.playing e he
  case cuedHeld =>
    intro t ht
    obtain ⟨e, he, rfl⟩ := h.cuedHeld t ht
    exact ⟨g e, List.mem_map_of_mem he, (hg e he).ticket⟩
  case playingHeld =>
    intro t ht
    obtain ⟨hs, e, he, rfl⟩ := h.playingHeld t ht
    exact ⟨hs, g e, List.mem_map_of_mem he, (hg e he).ticket⟩

/-- Entries leave the list, none of them that of the cue or of the song. -/
theorem Room.RequestsLawful.filter (h : rm.RequestsLawful) {p : Entry → Bool}
    (hp : ∀ e ∈ rm.requests, e.state = .cued ∨ e.state = .playing → p e = true) :
    ({ rm with requests := rm.requests.filter p } : Room).RequestsLawful := by
  refine h.relink rfl (List.filter_sublist.map _) ⟨fun e he => ?cued, fun e he => ?playing, fun t ht => ?cuedHeld,
    fun t ht => ?playingHeld⟩
  case cued => exact h.cued e (List.mem_of_mem_filter he)
  case playing => exact h.playing e (List.mem_of_mem_filter he)
  case cuedHeld =>
    obtain ⟨e, he, rfl, hs⟩ := h.cuedEntry ht
    exact ⟨e, List.mem_filter.mpr ⟨he, hp e he (.inl hs)⟩, rfl⟩
  case playingHeld =>
    obtain ⟨hs, e, he, rfl, hst⟩ := h.playingEntry ht
    exact ⟨hs, e, List.mem_filter.mpr ⟨he, hp e he (.inr hst)⟩, rfl⟩

/-- The other entries stay when the one that holds a ticket changes or leaves. -/
theorem Room.RequestsLawful.dropTicket (h : rm.RequestsLawful) {e : Entry} (he : e ∈ rm.requests)
    (hs : e.state ≠ .cued ∧ e.state ≠ .playing) :
    ({ rm with requests := rm.requests.filter fun x => x.ticket ≠ e.ticket } : Room).RequestsLawful := by
  refine h.filter fun x hx hrole => decide_eq_true fun ht => ?_
  rw [h.unique he hx ht] at hrole
  exact hrole.elim hs.1 hs.2

theorem mem_filter_ticket {e x : Entry} (hx : x ∈ rm.requests) (hne : x.ticket ≠ e.ticket) :
    x ∈ rm.requests.filter fun y => y.ticket ≠ e.ticket := List.mem_filter.mpr ⟨hx, decide_eq_true hne⟩

/-- R163: the entries that time out have been sent, and have no part in the cue or in the song. -/
theorem Room.RequestsLawful.timedOut (h : rm.RequestsLawful) {es : List Entry} {now : VenueTime} {timeout : Nat}
    (hes : ∀ e ∈ es, e ∈ rm.requests ∧ e.due now timeout = true) : rm.KeepsList (rm.timedOut es) := by
  have hstays {x : Entry} (hx : x ∈ rm.requests) (hnot : x.due now timeout = false) : ∀ e ∈ es, x.ticket ≠ e.ticket := by
    intro e he ht
    obtain ⟨hmem, hdue⟩ := hes e he
    rw [h.unique hmem hx ht, hdue] at hnot
    cases hnot
  have hlawful : (rm.timedOut es).RequestsLawful := by
    refine (h.filter (p := fun x => ∀ e ∈ es, x.ticket ≠ e.ticket) fun x hx hrole => ?_).congr rfl
    refine decide_eq_true (hstays hx ?_)
    rcases hrole with hs | hs <;> simp [Entry.due, hs]
  refine hlawful.keeps fun x hx _ hn => mem_timedOut.mpr ⟨hx, hstays hx ?_⟩
  simp [Entry.due, hn]

/-- R155: a ticket is issued to a WAITING entry. -/
theorem Room.RequestsLawful.issue (h : rm.RequestsLawful) (hfree : rm.requests.length < 12) {e : Entry}
    (ht : e.ticket = rm.nextTicket) (hs : e.state = .waiting) :
    ({ rm with requests := rm.requests ++ [e], ticketCounter := rm.nextTicket } : Room).RequestsLawful := by
  obtain ⟨d, hticket, -, hunheld⟩ := nextTicket_spec (hfree.trans (by decide))
  have hrange : 1 ≤ rm.nextTicket ∧ rm.nextTicket ≤ 255 := by omega
  have hnone {t : Nat} (hheld : ∃ x ∈ rm.requests, x.ticket = t) : e.ticket ≠ t := fun he => by
    obtain ⟨x, hx, hxt⟩ := hheld
    exact hunheld x hx (by rw [hxt, ← he, ht])
  refine ⟨hrange.2, ?length, ?range, ?distinct, ?cued, ?playing, ?cuedHeld, ?playingHeld⟩
  case length => simpa using hfree
  case range => exact List.forall_mem_append.mpr ⟨h.range, List.forall_mem_singleton.mpr (ht ▸ hrange)⟩
  case distinct =>
    rw [List.map_append, List.nodup_append]
    refine ⟨h.distinct, List.nodup_singleton _, fun a ha b hb => ?_⟩
    obtain ⟨x, hx, rfl⟩ := List.mem_map.mp ha
    rw [List.map_singleton, List.mem_singleton] at hb
    rw [hb, ht]
    exact hunheld x hx
  case cued =>
    refine List.forall_mem_append.mpr ⟨h.cued, List.forall_mem_singleton.mpr ?_⟩
    exact iff_of_false (by simp [hs]) fun hc => hnone (h.cuedHeld _ hc) rfl
  case playing =>
    refine List.forall_mem_append.mpr ⟨h.playing, List.forall_mem_singleton.mpr ?_⟩
    exact iff_of_false (by simp [hs]) fun hc => hnone (h.playingHeld _ hc.1).2 rfl
  case cuedHeld =>
    intro t hc
    obtain ⟨x, hx, hxt⟩ := h.cuedHeld t hc
    exact ⟨x, List.mem_append_left _ hx, hxt⟩
  case playingHeld =>
    intro t hc
    obtain ⟨hsing, x, hx, hxt⟩ := h.playingHeld t hc
    exact ⟨hsing, x, List.mem_append_left _ hx, hxt⟩

/-! ### The cue and the song -/

theorem EntryState.cancelling_free {st : EntryState} (h : st = .cancelling) : st ≠ .cued ∧ st ≠ .playing := by
  subst h; decide

/-- A list whose entries change their states alone is lawful once the states agree with the cue and the song. -/
theorem Room.RequestsLawful.restate {x : Room} (h : rm.RequestsLawful) {st : Entry → EntryState}
    (hcount : x.ticketCounter = rm.ticketCounter)
    (hentries : x.requests = rm.requests.map fun e => { e with state := st e })
    (hcued : ∀ e ∈ rm.requests, st e = .cued ↔ x.ctx.cuedTicket = some e.ticket)
    (hplaying : ∀ e ∈ rm.requests, st e = .playing ↔ (x.ctx.currentTicket = some e.ticket ∧ x.ctx.singing = true))
    (hcuedHeld : ∀ t, x.ctx.cuedTicket = some t → ∃ e ∈ rm.requests, e.ticket = t)
    (hplayingHeld : ∀ t, x.ctx.currentTicket = some t → x.ctx.singing = true ∧ ∃ e ∈ rm.requests, e.ticket = t)
    (hcancelling : ∀ e ∈ rm.requests, e.state = .cancelling → st e = .cancelling) : rm.KeepsList x := by
  have hmem {e : Entry} (he : e ∈ rm.requests) : { e with state := st e } ∈ x.requests := by
    rw [hentries]
    exact List.mem_map.mpr ⟨e, he, rfl⟩
  have hlinked : x.Linked := by
    refine ⟨?_, ?_, fun t ht => ?_, fun t ht => ?_⟩
    · rw [hentries]; exact List.forall_mem_map.mpr hcued
    · rw [hentries]; exact List.forall_mem_map.mpr hplaying
    · obtain ⟨e, he, hte⟩ := hcuedHeld t ht
      exact ⟨_, hmem he, hte⟩
    · obtain ⟨hs, e, he, hte⟩ := hplayingHeld t ht
      exact ⟨hs, _, hmem he, hte⟩
  refine ⟨h.relink hcount ?_ hlinked, fun ticket ht => ?_⟩
  · rw [hentries]; exact map_ticket fun _ _ => rfl
  · obtain ⟨e, he, hte, hs, hn⟩ := ht
    exact ⟨_, hmem he, hte, hcancelling e he hs, hn⟩

/-- A cue that begins in IDLE, or is withdrawn, begins and ends no song. -/
theorem singing_unless {c : RoomContext} {source target : RoomState} (hs : source ≠ .playing ∧ source ≠ .held)
    (ht : target ≠ .playing ∧ target ≠ .held) :
    RoomContext.singing { c with state := if c.state = source then target else c.state } = c.singing := by
  by_cases h : c.state = source
  · rw [RoomContext.not_singing (c := c) (h ▸ hs.1) (h ▸ hs.2), if_pos h]
    exact RoomContext.not_singing ht.1 ht.2
  · rw [if_neg h]

/-- R5: the ticket that a CUE names is that of an ACCEPTED entry, or of the cue itself. -/
theorem cueTicketCode_none {ticket : Nat} (h0 : ticket ≠ 0) (h : rm.cueTicketCode ticket = none) :
    ∃ e, rm.entry? ticket = some e ∧ (e.state = .accepted ∨ e.state = .cued) := by
  cases he : rm.entry? ticket with
  | none => rw [cueTicketCode_unheld h0 he] at h; cases h
  | some e =>
    rw [cueTicketCode_held h0 he] at h
    refine ⟨e, rfl, ?_⟩
    cases hs : e.state <;> simp_all

/-- R6: the state of an entry after a CUE of `ticket` in a room with the cue `cued`. -/
def Entry.recued (cued : Option Nat) (ticket : Nat) (e : Entry) : EntryState :=
  if ticket ≠ 0 ∧ e.ticket = ticket then .cued else if cued = some e.ticket then .accepted else e.state

theorem cue_restates (rm : Room) (b : BankId) (ticket : Nat) :
    (rm.cue b ticket).requests = rm.requests.map fun e => { e with state := e.recued rm.ctx.cuedTicket ticket } := by
  rw [cue_requests]
  refine List.map_congr_left fun e _ => ?_
  unfold Entry.recued
  split
  · rfl
  · split <;> rfl

/-- R6: the old cued entry goes back to ACCEPTED, and the named one is CUED. -/
theorem Room.RequestsLawful.cue (h : rm.RequestsLawful) (b : BankId) {ticket : Nat}
    (hcode : rm.cueTicketCode ticket = none) : rm.KeepsList (rm.cue b ticket) := by
  have hnamed {e : Entry} (he : e ∈ rm.requests) (hn : ticket ≠ 0 ∧ e.ticket = ticket) :
      e.state = .accepted ∨ e.state = .cued := by
    obtain ⟨x, hx, hs⟩ := cueTicketCode_none hn.1 hcode
    rwa [h.unique (entry?_mem hx) he (hn.2.trans (entry?_ticket hx).symm)]
  have hother {e : Entry} (he : e ∈ rm.requests) {st : EntryState} (hst : e.state = st)
      (hne : st ≠ .accepted ∧ st ≠ .cued) : e.recued rm.ctx.cuedTicket ticket = st := by
    unfold Entry.recued
    rw [if_neg fun hn => ?_, if_neg fun hc => hne.2 (hst ▸ (h.cued e he).mpr hc), hst]
    rcases hnamed he hn with hs | hs
    · exact hne.1 (hst ▸ hs)
    · exact hne.2 (hst ▸ hs)
  have hsing : (rm.cue b ticket).ctx.singing = rm.ctx.singing := by
    rw [Room.cue_eq]
    exact singing_unless (c := rm.ctx) (source := .idle) ⟨by decide, by decide⟩ ⟨by decide, by decide⟩
  have hcue : (rm.cue b ticket).ctx.cuedTicket = ticketOf ticket := by rw [Room.cue_eq]
  have hsong : (rm.cue b ticket).ctx.currentTicket = rm.ctx.currentTicket := by rw [Room.cue_eq]
  refine h.restate (by rw [Room.cue_eq]) (cue_restates rm b ticket) (fun e he => ?_) (fun e he => ?_) (fun t ht => ?_) ?_
    fun e he hs => hother he hs ⟨by decide, by decide⟩
  · rw [hcue, ticketOf_eq_some]
    unfold Entry.recued
    split
    · next hn => simp [hn]
    · next hn =>
      refine iff_of_false ?_ hn
      split
      · decide
      · next hc => exact fun hs => hc ((h.cued e he).mp hs)
  · rw [hsong, hsing, ← h.playing e he]
    refine ⟨fun hs => ?_, fun hs => hother he hs ⟨by decide, by decide⟩⟩
    unfold Entry.recued at hs
    split at hs
    · cases hs
    · split at hs
      · cases hs
      · exact hs
  · rw [hcue, ticketOf_eq_some] at ht
    obtain ⟨x, hx, -⟩ := cueTicketCode_none ht.1 hcode
    exact ⟨x, entry?_mem hx, (entry?_ticket hx).trans ht.2.symm⟩
  · rw [hsong, hsing]
    exact h.playingHeld

/-- R9: the entry of the cue plays. -/
theorem Room.RequestsLawful.start (h : rm.RequestsLawful) (hc : rm.ctx.state = .cued) : rm.KeepsList rm.start := by
  have hsilent : rm.ctx.singing = false := RoomContext.not_singing (by rw [hc]; decide) (by rw [hc]; decide)
  rw [Room.start_eq]
  refine h.restate (st := fun e => if rm.ctx.cuedTicket = some e.ticket then .playing else e.state) rfl ?_
    (fun e he => ?_) (fun e he => ?_) nofun (fun t ht => ⟨rfl, h.cuedHeld t ht⟩) fun e he hs => ?_
  · refine List.map_congr_left fun e _ => ?_
    split <;> rfl
  · refine iff_of_false ?_ nofun
    split
    · decide
    · next hn => exact fun hs => hn ((h.cued e he).mp hs)
  · split
    · next hn => exact iff_of_true rfl ⟨hn, rfl⟩
    · next hn => exact iff_of_false (h.not_playing hsilent he) fun hp => hn hp.1
  · rw [if_neg fun hn => (EntryState.cancelling_free hs).1 ((h.cued e he).mpr hn), hs]

/-- R7, R15: the cue is withdrawn, and its entry goes back to ACCEPTED. -/
theorem Room.RequestsLawful.releaseCue (h : rm.RequestsLawful) : rm.KeepsList rm.releaseCue := by
  rw [releaseCue_eq]
  have hsing := singing_unless (c := { rm.ctx with cuedBank := none, cuedTicket := none }) (source := .cued)
    (target := .idle) ⟨by decide, by decide⟩ ⟨by decide, by decide⟩
  refine h.restate (st := fun e => if rm.ctx.cuedTicket = some e.ticket then .accepted else e.state) rfl ?_
    (fun e he => ?_) (fun e he => ?_) nofun (fun t ht => ?_) fun e he hs => ?_
  · refine List.map_congr_left fun e _ => ?_
    split <;> rfl
  · refine iff_of_false ?_ nofun
    split
    · decide
    · next hn => exact fun hs => hn ((h.cued e he).mp hs)
  · dsimp only at hsing ⊢
    rw [hsing]
    refine Iff.trans ?_ (h.playing e he)
    split
    · next hn => simp [(h.cued e he).mpr hn]
    · exact Iff.rfl
  · dsimp only at hsing ⊢
    rw [hsing]
    exact h.playingHeld t ht
  · rw [if_neg fun hn => (EntryState.cancelling_free hs).1 ((h.cued e he).mpr hn), hs]

/-- R161: the cue is withdrawn, and its entry leaves the list. -/
theorem Room.RequestsLawful.dropCue (h : rm.RequestsLawful) {e : Entry} (he : e ∈ rm.requests) (hs : e.state = .cued) :
    rm.KeepsList { rm.withdrawCue with
      requests := rm.withdrawCue.requests.filter fun x => x.ticket ≠ e.ticket } := by
  have hcue := (h.cued e he).mp hs
  have hsing := singing_unless (c := { rm.ctx with cuedBank := none, cuedTicket := none }) (source := .cued)
    (target := .idle) ⟨by decide, by decide⟩ ⟨by decide, by decide⟩
  have hother {x : Entry} (hx : x ∈ rm.requests) {st : EntryState} (hxs : x.state = st) (hne : st ≠ .cued) :
      x ∈ rm.requests.filter fun y => y.ticket ≠ e.ticket :=
    mem_filter_ticket hx fun ht => hne (by rw [← hxs, h.unique he hx ht, hs])
  rw [Room.withdrawCue_eq]
  refine Room.RequestsLawful.keeps (h.relink rfl (List.filter_sublist.map _) ⟨fun x hx => ?_, fun x hx => ?_, nofun,
    fun t ht => ?_⟩) fun x hx hxs _ => hother hx hxs (by decide)
  · obtain ⟨hmem, hne⟩ := List.mem_filter.mp hx
    refine iff_of_false (fun hxs => ?_) nofun
    have := hcue.symm.trans ((h.cued x hmem).mp hxs)
    exact of_decide_eq_true hne (Option.some.inj this).symm
  · dsimp only at hsing ⊢
    rw [hsing]
    exact h.playing x (List.mem_of_mem_filter hx)
  · dsimp only at hsing ⊢
    rw [hsing]
    obtain ⟨hsong, x, hx, hxt, hxs⟩ := h.playingEntry ht
    exact ⟨hsong, x, hother hx hxs (by decide), hxt⟩

/-- R17: the song's entry leaves the list. -/
theorem Room.RequestsLawful.closed (h : rm.RequestsLawful) (reason : EndReason) : rm.KeepsList (rm.closed reason) := by
  have hother {x : Entry} (hx : x ∈ rm.requests) {st : EntryState} (hxs : x.state = st) (hne : st ≠ .playing) :
      x ∈ withoutTicket rm.ctx.currentTicket rm.requests := by
    refine List.mem_filter.mpr ⟨hx, decide_eq_true fun ht => hne ?_⟩
    rw [← hxs]
    exact (h.playing x hx).mpr ⟨ht.symm, (h.playingHeld _ ht.symm).1⟩
  rw [Room.closed_eq]
  refine Room.RequestsLawful.keeps (h.relink rfl (List.filter_sublist.map _) ⟨fun x hx => ?_, fun x hx => ?_,
    fun t ht => ?_, nofun⟩) fun x hx hxs _ => hother hx hxs (by decide)
  · exact h.cued x (List.mem_of_mem_filter hx)
  · obtain ⟨hmem, hne⟩ := List.mem_filter.mp hx
    refine iff_of_false (fun hxs => ?_) fun hp => by cases hp.1
    exact of_decide_eq_true hne ((h.playing x hmem).mp hxs).1.symm
  · obtain ⟨x, hx, hxt, hxs⟩ := h.cuedEntry ht
    exact ⟨x, hother hx hxs (by decide), hxt⟩

/-- R18: a room that leaves ENDING keeps its list and its cue. -/
theorem Room.left_requestView (hs : rm.ctx.state = .ending) : rm.left.requestView = rm.requestView := by
  have hsilent : rm.ctx.singing = false := RoomContext.not_singing (by rw [hs]; decide) (by rw [hs]; decide)
  rw [Room.left_eq]
  unfold Room.requestView
  rw [hsilent]
  refine congrArg (fun b => RequestView.mk _ _ b _ _) (RoomContext.not_singing ?_ ?_)
  · dsimp only; split <;> decide
  · dsimp only; split <;> decide

/-- R20: a reset room holds no entry. -/
theorem reset_requestsLawful (rm : Room) (m : Mode) (clearReports : Bool) :
    (rm.reset m clearReports).RequestsLawful := by
  rw [Room.reset_eq]
  exact pinResetRoom_requestsLawful.relink rfl (List.Sublist.refl _) ⟨nofun, nofun, nofun, nofun⟩

end

end Sys2Proof.Machine
end

section
/-! PROOFS. The request law of a state: changes of one room, the upstream scheduler, and the work of the rooms (O17). -/

namespace Sys2Proof.Machine

section
variable {s t : State} {r : RoomId}

/-! ### Changes of one room -/

/-- Every room keeps its list, and the cancel queue stays. -/
theorem State.RequestLaw.keeps (h : s.RequestLaw) (hr : ∀ k, (s.room k).KeepsList (t.room k))
    (hq : t.cancelQueue = s.cancelQueue) : t.RequestLaw where
  lists k := (hr k).lawful
  items i hi := (hr i.room).awaits i.ticket (h.items i (hq ▸ hi))
  once := hq ▸ h.once

/-- One room alone has changed, no item has joined the cancel queue, and the room's items that are left still wait. -/
theorem State.RequestLaw.of_room (h : s.RequestLaw) (hk : ∀ k, k ≠ r → t.room k = s.room k)
    (hr : (t.room r).RequestsLawful) (hq : t.cancelQueue.Sublist s.cancelQueue)
    (ha : ∀ u, ⟨r, u⟩ ∈ t.cancelQueue → (s.room r).Awaits u → (t.room r).Awaits u) : t.RequestLaw where
  lists k := by
    by_cases e : k = r
    · rw [e]; exact hr
    · rw [hk k e]; exact h.lists k
  items := by
    rintro ⟨k, u⟩ hi
    have hwaits : (s.room k).Awaits u := h.items _ (hq.subset hi)
    by_cases e : k = r
    · subst e; exact ha u hi hwaits
    · dsimp only; rw [hk k e]; exact hwaits
  once := h.once.sublist hq

/-- One room alone has changed, and keeps its list. -/
theorem State.RequestLaw.keepsRoom (h : s.RequestLaw) (hk : ∀ k, k ≠ r → t.room k = s.room k)
    (hr : (s.room r).KeepsList (t.room r)) (hq : t.cancelQueue = s.cancelQueue) : t.RequestLaw :=
  h.of_room hk hr.lawful (by rw [hq]) fun u _ => hr.awaits u

/-- The law reads the same of two states. -/
theorem State.RequestLaw.congr (h : s.RequestLaw) (hr : ∀ k, (t.room k).requestView = (s.room k).requestView)
    (hq : t.cancelQueue = s.cancelQueue) : t.RequestLaw := h.keeps (fun k => (h.lists k).keepsView (hr k)) hq

theorem State.RequestLaw.of_rooms (h : s.RequestLaw) (e : t.rooms = s.rooms) (hq : t.cancelQueue = s.cancelQueue) :
    t.RequestLaw := h.congr (fun k => congrArg (fun v => (Vector.get v k).requestView) e) hq

theorem setList_requestLaw {f : Room → Room} (h : s.RequestLaw) (hf : (s.room r).KeepsList (f (s.room r))) :
    (s.updRoom r f).RequestLaw :=
  h.keepsRoom (fun _ e => room_updRoom_ne _ _ _ _ e) (by rwa [room_updRoom_same]) rfl

/-- Most operations on a room change nothing that the law reads. -/
theorem updRoom_requestLaw {f : Room → Room} (h : s.RequestLaw)
    (e : (f (s.room r)).requestView = (s.room r).requestView) : (s.updRoom r f).RequestLaw :=
  setList_requestLaw h ((h.lists r).keepsView e)

/-- A fold keeps the law where each of its steps does. -/
theorem foldl_requestLaw {α : Type} {f : State → α → State} (hf : ∀ x a, x.RequestLaw → (f x a).RequestLaw)
    (l : List α) (h : s.RequestLaw) : (l.foldl f s).RequestLaw := by
  induction l generalizing s with
  | nil => exact h
  | cons a l ih => exact ih (hf s a h)

/-- The work of a room leaves the cancel queue. -/
theorem cancelQueue_of_beyond (h : t.beyondRooms = s.beyondRooms) : t.cancelQueue = s.cancelQueue := by
  have hqueue := congrArg State.cancelQueue h
  exact hqueue

/-! ### One entry -/

/-- The entry `e` changes in its list without a part in the cue or the song gained or lost. -/
theorem Room.RequestsLawful.updEntry {rm : Room} (h : rm.RequestsLawful) {e : Entry} (he : e ∈ rm.requests)
    {f : Entry → Entry} (hf : e.SameRole (f e)) : (rm.updEntry e.ticket f).RequestsLawful := by
  refine h.map fun x hx => ?_
  split
  · next ht => rw [h.unique he hx ht]; exact hf
  · exact Entry.SameRole.refl x

theorem Room.Awaits.updEntry {rm : Room} {u ticket : Nat} {f : Entry → Entry} (h : rm.Awaits u) (hu : u ≠ ticket) :
    (rm.updEntry ticket f).Awaits u := by
  obtain ⟨x, hx, rfl, hs, hn⟩ := h
  exact ⟨x, List.mem_map.mpr ⟨x, hx, if_neg hu⟩, rfl, hs, hn⟩

/-- No item names an entry that does not wait for its CANCEL cell. -/
theorem State.RequestLaw.not_named (h : s.RequestLaw) {e : Entry} (he : e ∈ (s.room r).requests)
    (hs : ¬(e.state = .cancelling ∧ e.sentTime = none)) : (⟨r, e.ticket⟩ : CancelItem) ∉ s.cancelQueue := fun hi => by
  obtain ⟨x, hx, ht, hxs⟩ := h.items _ hi
  rw [(h.lists r).unique he hx ht] at hxs
  exact hs hxs

/-- An entry changes that no item of the cancel queue names, or that goes on waiting for its CANCEL cell. -/
theorem updEntry_requestLaw (h : s.RequestLaw) {e : Entry} (he : e ∈ (s.room r).requests) {f : Entry → Entry}
    (hf : e.SameRole (f e))
    (hwaits : e.state = .cancelling ∧ e.sentTime = none → (f e).state = .cancelling ∧ (f e).sentTime = none) :
    (s.updEntry r e.ticket f).RequestLaw := by
  refine setList_requestLaw h ⟨(h.lists r).updEntry he hf, fun u hu => ?_⟩
  by_cases ht : u = e.ticket
  · obtain ⟨x, hx, hxt, hxs⟩ := hu
    rw [(h.lists r).unique he hx (hxt.trans ht)] at hxs
    exact ⟨f e, List.mem_map.mpr ⟨e, he, if_pos rfl⟩, hf.ticket.trans ht.symm, hwaits hxs⟩
  · exact hu.updEntry ht

/-! ### Reports and the upstream scheduler -/

theorem raise_requestLaw (b : ReportBody) (h : s.RequestLaw) : (raise b s).RequestLaw :=
  h.congr (fun k => by simp [Room.requestView]) (raise_cancelQueue b s)

theorem markTest_requestLaw (r : RoomId) (h : s.RequestLaw) : (markTest r s).RequestLaw := by
  rcases markTest_cases r s with e | ⟨m, _, e⟩ <;> rw [e]
  · exact h
  · exact raise_requestLaw _ (updRoom_requestLaw h rfl)

theorem leaveEnding_requestLaw (hs : (s.room r).ctx.state = .ending) (h : s.RequestLaw) :
    (leaveEnding r s).RequestLaw := by
  obtain ⟨_, _, _, e⟩ := leaveEnding_room r s
  refine h.keepsRoom (fun k hk => leaveEnding_room_ne _ _ _ hk) ((h.lists r).keepsView ?_) (leaveEnding_cancelQueue r s)
  rw [e]
  exact Room.left_requestView hs

/-- R179: a stack gives up a report, and its room may leave ENDING. -/
theorem drain_requestLaw (h : s.RequestLaw) : (drain s).RequestLaw := by
  rcases drain_cases s with ⟨_, e⟩ | ⟨r, _, e⟩ | ⟨_, e⟩ <;> rw [e]
  · exact h
  · unfold drainRoom
    split
    · exact h
    · next rep k _ =>
      have hgiven : (s.updRoom r fun rm => { rm with stack := k }).RequestLaw := updRoom_requestLaw h rfl
      unfold songEndQueued
      split
      · split
        · next hs => exact leaveEnding_requestLaw hs (hgiven.of_rooms rfl rfl)
        · exact hgiven.of_rooms rfl rfl
      · exact hgiven.of_rooms rfl rfl
  · unfold drainChip
    split
    · exact h
    · exact h.of_rooms rfl rfl

/-- R157: the oldest item leaves the cancel queue, and its entry is sent. -/
theorem sendCancel_requestLaw {i : CancelItem} {rest : List CancelItem} (hq : s.cancelQueue = i :: rest)
    (h : s.RequestLaw) : (sendCancel i rest s).RequestLaw := by
  obtain ⟨hi, -⟩ := List.nodup_cons.mp (hq ▸ h.once)
  obtain ⟨e, he, ht, _, _⟩ := h.items i (by rw [hq]; exact List.mem_cons_self)
  have hrooms (k : RoomId) : (sendCancel i rest s).room k
      = (s.updEntry i.room i.ticket fun e => { e with sentTime := some s.venueTime }).room k := rfl
  have hroom := (hrooms i.room).trans (room_updRoom_same ..)
  refine h.of_room (fun k hk => (hrooms k).trans (room_updRoom_ne _ _ _ _ hk)) ?_ ?_ fun u hu hwaits => ?_
  · rw [hroom, ← ht]
    exact (h.lists i.room).updEntry he ⟨rfl, Iff.rfl, Iff.rfl⟩
  · rw [hq]; exact List.sublist_cons_self i rest
  · rw [hroom]
    exact hwaits.updEntry fun e => hi (by rw [e] at hu; exact hu)

/-- R157: a WAITING entry is sent. -/
theorem sendAdd_requestLaw {e : Entry} (he : e ∈ (s.room r).requests) (hs : e.state = .waiting) (h : s.RequestLaw) :
    (sendAdd r e s).RequestLaw := by
  have hsent : (s.updEntry r e.ticket fun x => { x with state := .sent, sentTime := some s.venueTime }).RequestLaw := by
    refine updEntry_requestLaw h he (Entry.SameRole.of_free rfl ?_ ⟨nofun, nofun⟩) fun hc => ?_
    · rw [hs]; decide
    · rw [hs] at hc; cases hc.1
  exact hsent.of_rooms rfl rfl

/-- The comparison of issue numbers leaves one of the entries that it compares. -/
theorem foldl_older_mem (ws : List (RoomId × Entry)) (best : RoomId × Entry) :
    ws.foldl (fun best x => if older x.2.issue best.2.issue then x else best) best ∈ best :: ws := by
  induction ws generalizing best with
  | nil => exact List.mem_singleton_self _
  | cons w ws ih =>
    rw [List.foldl_cons]
    refine (List.mem_cons.mp (ih _)).elim (fun hm => ?_) fun hm => List.mem_cons_of_mem _ (List.mem_cons_of_mem _ hm)
    rw [hm]
    split
    · exact List.mem_cons_of_mem _ List.mem_cons_self
    · exact List.mem_cons_self

theorem nextAdd_mem {w : RoomId × Entry} (h : s.nextAdd = some w) : w ∈ s.waiting := by
  unfold State.nextAdd at h
  cases hw : s.waiting with
  | nil => rw [hw] at h; cases h
  | cons x xs =>
    rw [hw] at h
    cases ho : s.chip.requestOrder with
    | roomRank => rw [ho] at h; cases h; exact List.mem_cons_self
    | arrival => rw [ho] at h; cases h; exact foldl_older_mem xs x

theorem schedule_requestLaw (h : s.RequestLaw) : (schedule s).RequestLaw := by
  have hcounted (f : LinkCounters → LinkCounters) : (s.count f).RequestLaw := h.of_rooms rfl rfl
  rcases schedule_cases s with ⟨_, _, _, e⟩ | ⟨_, _, e⟩ | ⟨sent, _, _, hsent, e⟩ | ⟨rep, rest, _, _, _, _, e⟩ <;> rw [e]
  · exact h.of_rooms rfl rfl
  · exact h.of_rooms rfl rfl
  · rcases sendRequest_cases s with ⟨i, rest, hq, e⟩ | ⟨w, _, hw, e⟩ | ⟨_, _, e⟩ <;> rw [e] at hsent <;> cases hsent
    · exact sendCancel_requestLaw hq (hcounted _)
    · have hfirst := mem_waiting.mp (nextAdd_mem hw)
      have hstate := List.find?_some hfirst
      exact sendAdd_requestLaw (r := w.1) (List.mem_of_find?_eq_some hfirst) (eq_of_beq hstate) (hcounted _)
  · exact drain_requestLaw (h.of_rooms rfl rfl)

theorem sendIfIdle_requestLaw (h : s.RequestLaw) : s.sendIfIdle.RequestLaw := by
  rcases sendIfIdle_cases s with ⟨_, e⟩ | ⟨_, e⟩ <;> rw [e]
  · exact h
  · exact schedule_requestLaw h

/-! ### The end of a song and the line test -/

/-- R17, R18: the song's entry leaves the list, whether or not the room leaves ENDING. -/
theorem takeEnding_requestLaw (r : RoomId) (reason : EndReason) (h : s.RequestLaw) :
    (takeEnding r reason s).RequestLaw := by
  cases hs : (s.room r).ctx.singing with
  | false => rwa [takeEnding_not_singing _ _ _ hs]
  | true =>
    have hclosed : (s.room r).KeepsList ((s.room r).closed reason) := (h.lists r).closed reason
    refine h.keepsRoom (fun k e => takeEnding_room_ne _ _ _ _ e) ?_ (takeEnding_cancelQueue r reason s)
    rcases takeEnding_room r reason s hs with ⟨k, mark, _, e⟩ | ⟨k, _, e⟩ <;> rw [e]
    · have hending : ((s.room r).closed reason).ctx.state = .ending := by rw [Room.closed_eq]
      exact hclosed.congr (Room.left_requestView hending)
    · exact hclosed.congr rfl

theorem advanceTo_requestLaw (r : RoomId) (k t : Nat) (h : s.RequestLaw) : (advanceTo r k t s).RequestLaw := by
  obtain ⟨_, _, e⟩ := advanceTo_room r k t s
  refine h.keepsRoom (fun j hj => advanceTo_room_ne _ _ _ _ _ hj) ((h.lists r).keepsView ?_)
    (cancelQueue_of_beyond (advanceTo_beyond r k t s))
  rw [e]
  rfl

theorem holdStep_requestLaw (r : RoomId) (t : Nat) (h : s.RequestLaw) : (holdStep r t s).RequestLaw := by
  rcases holdStep_cases r t s with e | ⟨f, hf, e⟩ | ⟨_, e⟩ <;> rw [e]
  · exact h
  · refine updRoom_requestLaw h ?_
    rcases hf with rfl | rfl | rfl
    · rfl
    · rfl
    · unfold Room.updCtx RoomContext.starve
      split <;> rfl
  · exact takeEnding_requestLaw r .halted (updRoom_requestLaw h rfl)

theorem lineTest_requestLaw (r : RoomId) (t : Nat) (h : s.RequestLaw) : (lineTest r t s).RequestLaw := by
  rcases lineTest_cases r t s with e | e | ⟨k, e⟩ <;> rw [e]
  · exact takeEnding_requestLaw r .halted h
  · exact holdStep_requestLaw r t h
  · exact holdStep_requestLaw r t (advanceTo_requestLaw r k t h)

theorem songTick_requestLaw (r : RoomId) (h : s.RequestLaw) : (songTick r s).RequestLaw := by
  rcases songTick_cases r s with e | ⟨_, e⟩ <;> rw [e]
  · exact h
  · exact lineTest_requestLaw r _ h

/-! ### Calibrations and resets -/

/-- A room moves between two states in neither of which a song is in progress. -/
theorem Room.setState_requestView {rm : Room} {st : RoomState}
    (hs : rm.ctx.state ≠ .playing ∧ rm.ctx.state ≠ .held) (ht : st ≠ .playing ∧ st ≠ .held) :
    (rm.setState st).requestView = rm.requestView := by
  have hsing : (rm.setState st).ctx.singing = rm.ctx.singing := by
    rw [RoomContext.not_singing hs.1 hs.2]
    exact RoomContext.not_singing ht.1 ht.2
  exact congrArg (fun b => RequestView.mk rm.ctx.cuedTicket rm.ctx.currentTicket b rm.requests rm.ticketCounter) hsing

theorem endCalibration_requestLaw (hs : (s.room r).ctx.state = .calibrating) (outcome : CalOutcome) (j : Nat)
    (f : Port → Port) (h : s.RequestLaw) : (endCalibration r outcome j f s).RequestLaw := by
  unfold endCalibration
  split
  · exact h
  · refine raise_requestLaw _ (updRoom_requestLaw h ?_)
    exact Room.setState_requestView (st := .idle) (by rw [hs]; decide) (by decide)

theorem calibrationStep_requestLaw (r : RoomId) (inputs : Vector Sample 8) (h : s.RequestLaw) :
    (calibrationStep r inputs s).RequestLaw := by
  unfold calibrationStep
  split
  · next hs _ =>
    unfold captureStep
    split
    · exact endCalibration_requestLaw hs _ _ _ h
    split
    · exact endCalibration_requestLaw hs _ _ _ h
    · exact updRoom_requestLaw h rfl
  · exact h

theorem calTimeout_requestLaw (r : RoomId) (h : s.RequestLaw) : (calTimeout r s).RequestLaw := by
  unfold calTimeout
  split
  · next hw =>
    have hs : (s.room r).ctx.state = .calibrating := by
      by_contra hne
      rw [windowEnding_elsewhere hne] at hw
      cases hw
    exact sendIfIdle_requestLaw (endCalibration_requestLaw hs _ _ _ h)
  · exact h

/-- R20: a reset room's entries and items are gone. -/
theorem resetRoom_requestLaw (r : RoomId) (h : s.RequestLaw) : (resetRoom r s).RequestLaw := by
  have hqueue := resetRoom_cancelQueue r s
  refine h.of_room (fun k e => resetRoom_room_ne r k s e) ?_ (by rw [hqueue]; exact List.filter_sublist) fun u hu => ?_
  · obtain ⟨k, e⟩ := resetRoom_room_but_stack r s
    rw [e]
    exact (reset_requestsLawful (s.room r) s.mode s.chip.clearReports).congr rfl
  · rw [hqueue] at hu
    simp at hu

/-! ### The sample period and the Score Unit -/

theorem audioCell_requestLaw (r : RoomId) (endFlag : Bool) (samples : List Stereo) (h : s.RequestLaw) :
    (audioCell r endFlag samples s).RequestLaw := by
  unfold audioCell
  dsimp only
  split
  · exact updRoom_requestLaw h rfl
  split
  · exact updRoom_requestLaw h rfl
  split
  · exact updRoom_requestLaw h rfl
  · exact updRoom_requestLaw h rfl
  · exact updRoom_requestLaw h rfl
  · exact sendIfIdle_requestLaw (markTest_requestLaw r (updRoom_requestLaw h rfl))

theorem videoCell_requestLaw (r : RoomId) (line : Nat) (frameStart : Bool) (pixels : List Rgb) (h : s.RequestLaw) :
    (videoCell r line frameStart pixels s).RequestLaw := by
  refine updRoom_requestLaw h ?_
  split
  · rfl
  · obtain ⟨_, _, _, e⟩ := videoLine_frame (s.room r) s.mode s.font line frameStart pixels
    rw [e]; rfl

theorem backingOutput_requestLaw (r : RoomId) (h : s.RequestLaw) : (backingOutput r s).RequestLaw := by
  unfold backingOutput
  dsimp only
  split
  · split
    · exact takeEnding_requestLaw r .complete (updRoom_requestLaw h rfl)
    split
    · exact updRoom_requestLaw h (by rw [Room.underrun_eq]; rfl)
    · next x rest _ =>
      have hmarked := markTest_requestLaw r (songTick_requestLaw r
        (updRoom_requestLaw (r := r) (f := fun y => y.advanced rest) h rfl))
      split
      · exact takeEnding_requestLaw r .complete hmarked
      · exact hmarked
  · exact h

theorem roomShare_requestLaw (r : RoomId) (inputs : Vector Sample 8) (h : s.RequestLaw) :
    (roomShare r inputs s).1.RequestLaw :=
  calibrationStep_requestLaw r inputs (backingOutput_requestLaw r (updRoom_requestLaw h rfl))

theorem roomShares_requestLaw (inputs : Vector Sample 8) (order : List RoomId) (h : s.RequestLaw) :
    (roomShares inputs order s).1.RequestLaw := by
  induction order using List.reverseRecOn with
  | nil => exact h
  | append_singleton l r ih => rw [roomShares_concat]; exact roomShare_requestLaw r inputs ih

theorem beginAnalysis_requestLaw (h : s.RequestLaw) : (beginAnalysis s).RequestLaw := by
  unfold beginAnalysis
  split
  · exact h.of_rooms rfl rfl
  · exact h

/-- The work on a microphone changes nothing that the law reads. -/
theorem updMic_requestView (rm : Room) (m : MicId) (f : Mic → Mic) : (rm.updMic m f).requestView = rm.requestView := by
  simp [Room.requestView]

theorem scoreFrame_requestView (rm : Room) (f : ResultRecord) : (rm.scoreFrame f).requestView = rm.requestView := by
  unfold Room.scoreFrame
  split
  · rfl
  · exact updMic_requestView _ _ _

theorem offerFrame_requestLaw (f : FrameRecord) (h : s.RequestLaw) : (offerFrame f s).RequestLaw := by
  unfold offerFrame
  split
  · exact beginAnalysis_requestLaw (h.of_rooms rfl rfl)
  · exact updRoom_requestLaw h (updMic_requestView _ _ _)

theorem samplePeriod_requestLaw (inputs : Vector Sample 8) (roomOrder offerOrder : Nat) (h : s.RequestLaw) :
    (samplePeriod inputs roomOrder offerOrder s).RequestLaw := by
  unfold samplePeriod
  split
  · exact h.of_rooms rfl rfl
  · exact sendIfIdle_requestLaw (foldl_requestLaw (fun _ f hx => offerFrame_requestLaw f hx) _
      (roomShares_requestLaw inputs _ (h.of_rooms rfl rfl)))

theorem songPositionLimit_requestLaw (r : RoomId) (h : s.RequestLaw) : (songPositionLimit r s).RequestLaw := by
  unfold songPositionLimit
  split
  · exact sendIfIdle_requestLaw (backingOutput_requestLaw r (h.of_rooms rfl rfl))
  · exact h

theorem analysisComplete_requestLaw (h : s.RequestLaw) : (analysisComplete s).RequestLaw := by
  unfold analysisComplete
  split
  · exact h
  split
  · next a f rest _ _ =>
    have hscored : (s.scored a f).RequestLaw :=
      updRoom_requestLaw h ((updMic_requestView _ _ _).trans (scoreFrame_requestView _ _))
    exact beginAnalysis_requestLaw (hscored.of_rooms rfl rfl)
  · exact h

end

end Sys2Proof.Machine
end

section
/-! PROOFS. The request law through the Request Manager and every other command; and O17. -/

namespace Sys2Proof.Machine

/-! ### Orders that leave the cancel queue -/

section
variable (s : State)

theorem ladderOrder_cancelQueue (first : Nat) (bounds : List Nat) :
    (ladderOrder first bounds s).state.cancelQueue = s.cancelQueue := by
  unfold ladderOrder
  repeat' split
  all_goals rfl

theorem slotMapOrder_cancelQueue (direction slot target : Nat) :
    (slotMapOrder direction slot target s).state.cancelQueue = s.cancelQueue := by
  unfold slotMapOrder
  repeat' split
  all_goals rfl

theorem pollEntryOrder_cancelQueue (entry enabled address room : Nat) :
    (pollEntryOrder entry enabled address room s).state.cancelQueue = s.cancelQueue := by
  unfold pollEntryOrder
  repeat' split
  all_goals rfl

theorem fontClearOrder_cancelQueue (height space missing : Nat) :
    (fontClearOrder height space missing s).state.cancelQueue = s.cancelQueue := by
  unfold fontClearOrder
  repeat' split
  all_goals rfl

theorem fontAppendOrder_cancelQueue (first count : Option Nat) (records : List Byte) :
    (fontAppendOrder first count records s).state.cancelQueue = s.cancelQueue := by
  unfold fontAppendOrder
  dsimp only
  repeat' split
  all_goals rfl

theorem fontClearingComplete_cancelQueue : (fontClearingComplete s).cancelQueue = s.cancelQueue := by
  unfold fontClearingComplete; split <;> rfl

theorem chipParamOrder_cancelQueue (id : ChipParamId) (v : Nat) :
    (chipParamOrder id v s).state.cancelQueue = s.cancelQueue := by
  unfold chipParamOrder; split <;> rfl

theorem readBankOrder_cancelQueue (r : RoomId) (bank : Nat) :
    (readBankOrder r bank s).state.cancelQueue = s.cancelQueue := by
  unfold readBankOrder; split <;> rfl

theorem discardCell_cancelQueue (bytes : List Byte) : (discardCell bytes s).cancelQueue = s.cancelQueue := by
  unfold discardCell
  dsimp only
  repeat' split
  all_goals rfl

end

section
variable {s : State} {r : RoomId}

/-! ### The Request Manager -/

theorem pushResult_requestLaw (e : PanelId) (k : ResultKind) (h : s.RequestLaw) : (pushResult e k s).RequestLaw :=
  h.of_rooms rfl rfl

/-- An entry without a part in the cue or in the song, which no item names, leaves its list. -/
theorem removeWithResult_requestLaw (h : s.RequestLaw) {e : Entry} (he : e ∈ (s.room r).requests)
    (hs : e.state ≠ .cued ∧ e.state ≠ .playing) (hnot : (⟨r, e.ticket⟩ : CancelItem) ∉ s.cancelQueue) (k : ResultKind) :
    (removeWithResult r e k s).RequestLaw := by
  rw [removeWithResult_eq]
  refine State.RequestLaw.of_rooms ?_ rfl rfl
  refine h.of_room (fun j hj => room_setRoom_ne _ _ _ _ hj) ?_ (List.Sublist.refl _) fun u hu hwaits => ?_
  · rw [room_updPanel, room_setRoom_same]
    exact (h.lists r).dropTicket he hs
  · obtain ⟨x, hx, rfl, hxs⟩ := hwaits
    rw [room_updPanel, room_setRoom_same]
    exact ⟨x, mem_filter_ticket hx fun ht => hnot (ht ▸ hu), rfl, hxs⟩

/-- R160, R161: an entry that waits for its confirmation leaves its list and the cancel queue. -/
theorem confirmCancel_requestLaw {e : Entry} (he : e ∈ (s.room r).requests) (hs : e.state = .cancelling)
    (h : s.RequestLaw) : (confirmCancel r e s).RequestLaw := by
  have hwithdrawn : (withdrawCancel r e.ticket s).RequestLaw := by
    rw [withdrawCancel_eq]
    exact h.of_room (r := r) (fun _ _ => rfl) (h.lists r) List.filter_sublist fun _ _ hwaits => hwaits
  refine removeWithResult_requestLaw hwithdrawn he (EntryState.cancelling_free hs) ?_ _
  rw [withdrawCancel_eq]
  simp

/-- An entry that the venue system has been sent, or has accepted, has no part in the cue, the song or a cancellation. -/
theorem EntryState.listed_free {st : EntryState} (h : st = .sent ∨ st = .accepted) :
    (st ≠ .cued ∧ st ≠ .playing) ∧ st ≠ .cancelling := by
  rcases h with rfl | rfl <;> decide

/-- R162: an entry that the venue system holds begins to be cancelled. -/
theorem beginCancel_requestLaw {e : Entry} (he : e ∈ (s.room r).requests) (hs : e.state = .sent ∨ e.state = .accepted)
    (h : s.RequestLaw) : (beginCancel r e.ticket s).RequestLaw := by
  obtain ⟨hfree, hlive⟩ := EntryState.listed_free hs
  have hmoved : (s.updEntry r e.ticket fun x => { x with state := .cancelling, sentTime := none }).RequestLaw :=
    updEntry_requestLaw h he (Entry.SameRole.of_free rfl hfree ⟨nofun, nofun⟩) fun _ => ⟨rfl, rfl⟩
  have hnew : ((beginCancel r e.ticket s).room r).Awaits e.ticket := by
    refine ⟨{ e with state := .cancelling, sentTime := none }, ?_, rfl, rfl, rfl⟩
    have hroom : (beginCancel r e.ticket s).room r
        = (s.room r).updEntry e.ticket fun x => { x with state := .cancelling, sentTime := none } :=
      room_updRoom_same s r fun rm => rm.updEntry e.ticket fun x => { x with state := .cancelling, sentTime := none }
    rw [hroom]
    exact List.mem_map.mpr ⟨e, he, if_pos rfl⟩
  have hqueue : (beginCancel r e.ticket s).cancelQueue = s.cancelQueue ++ [⟨r, e.ticket⟩] := rfl
  refine ⟨hmoved.lists, ?_, ?_⟩
  · rw [hqueue]
    exact List.forall_mem_append.mpr ⟨hmoved.items, List.forall_mem_singleton.mpr hnew⟩
  · rw [hqueue, ← List.concat_eq_append]
    exact h.once.concat (h.not_named he fun hc => hlive hc.1)

/-- R162: a CANCEL of a panel is decided by the state of the entry. -/
theorem takeCancel_requestLaw (r : RoomId) (e : PanelId) (ticket : Nat) (h : s.RequestLaw) :
    (takeCancel r e ticket s).RequestLaw := by
  unfold takeCancel
  split
  · exact pushResult_requestLaw _ _ h
  next x hx =>
  obtain rfl := entry?_ticket hx
  have hmem := entry?_mem hx
  split
  · exact pushResult_requestLaw _ _ h
  split
  · next hs =>
    exact removeWithResult_requestLaw h hmem (by rw [hs]; decide) (h.not_named hmem (by rw [hs]; nofun)) _
  · next hs => exact beginCancel_requestLaw hmem (.inl hs) h
  · next hs => exact beginCancel_requestLaw hmem (.inr hs) h
  · exact h
  · exact pushResult_requestLaw _ _ h
  · exact pushResult_requestLaw _ _ h

/-- R155: a REQUEST of a panel is refused, or issued a ticket. -/
theorem takeRequest_requestLaw (r : RoomId) (e : PanelId) (song : Nat) (keyShift : Int) (tag : Nat) (h : s.RequestLaw) :
    (takeRequest r e song keyShift tag s).RequestLaw := by
  unfold takeRequest
  dsimp only
  split
  · exact pushResult_requestLaw _ _ (updRoom_requestLaw h rfl)
  next hfree =>
  split
  · exact pushResult_requestLaw _ _ (updRoom_requestLaw h rfl)
  · have hissued := (h.lists r).issue (Nat.lt_of_not_le hfree)
      (e := s.newEntry e song keyShift tag (s.room r).nextTicket) rfl rfl
    have hlisted : (s.updRoom r fun rm => { rm with
        requests := rm.requests ++ [s.newEntry e song keyShift tag (s.room r).nextTicket]
        ticketCounter := (s.room r).nextTicket
        requestCounters := { rm.requestCounters with ticketsIssued := bump rm.requestCounters.ticketsIssued 1 } }
        ).RequestLaw :=
      setList_requestLaw h ((hissued.keeps fun x hx _ _ => List.mem_append_left _ hx).congr rfl)
    exact pushResult_requestLaw _ _ (hlisted.of_rooms rfl rfl)

/-- A request order acts on an entry of the room's list that holds its ticket. -/
theorem withEntry_requestLaw {ticket : Nat} {act : Entry → State → Verdict} (h : s.RequestLaw)
    (ha : ∀ e ∈ (s.room r).requests, e.ticket = ticket → (act e s).state.RequestLaw) :
    (withEntry r ticket act s).state.RequestLaw := by
  unfold withEntry
  split
  · exact h
  · next e he => exact ha e (entry?_mem he) (entry?_ticket he)

theorem placeEntry_requestLaw {e : Entry} (he : e ∈ (s.room r).requests) (position : Nat) (h : s.RequestLaw) :
    (s.updEntry r e.ticket fun x => { x with position := some position }).RequestLaw :=
  updEntry_requestLaw h he ⟨rfl, Iff.rfl, Iff.rfl⟩ fun hwaits => hwaits

theorem acceptEntry_requestLaw {e : Entry} (he : e ∈ (s.room r).requests) (position : Nat) (h : s.RequestLaw) :
    (acceptEntry r e.ticket position e s).state.RequestLaw := by
  unfold acceptEntry
  split
  · next hs =>
    have haccepted : (s.updEntry r e.ticket fun x =>
        { x with state := .accepted, position := some position }).RequestLaw :=
      updEntry_requestLaw h he (Entry.SameRole.of_free rfl (by rw [hs]; decide) ⟨nofun, nofun⟩)
        fun hc => by rw [hs] at hc; cases hc.1
    exact pushResult_requestLaw _ _ haccepted
  · exact placeEntry_requestLaw he position h
  all_goals exact h

theorem positionEntry_requestLaw {e : Entry} (he : e ∈ (s.room r).requests) (position : Nat) (h : s.RequestLaw) :
    (positionEntry r e.ticket position e s).state.RequestLaw := by
  have hplaced := placeEntry_requestLaw he position h
  unfold positionEntry
  dsimp only
  split
  · exact pushResult_requestLaw _ _ hplaced
  · exact pushResult_requestLaw _ _ hplaced
  · exact hplaced
  all_goals exact h

/-- R160, R161: an entry that has been sent, or accepted, leaves its list at the venue system's word. -/
theorem dismissEntry_requestLaw {e : Entry} (he : e ∈ (s.room r).requests)
    (hs : e.state = .sent ∨ e.state = .accepted) (k : ResultKind) (h : s.RequestLaw) :
    (removeWithResult r e k s).RequestLaw := by
  obtain ⟨hfree, hlive⟩ := EntryState.listed_free hs
  exact removeWithResult_requestLaw h he hfree (h.not_named he fun hc => hlive hc.1) k

theorem refuseOrder_requestLaw (r : RoomId) (ticket reason : Nat) (h : s.RequestLaw) :
    (refuseOrder r ticket reason s).state.RequestLaw := by
  unfold refuseOrder
  split
  · exact h
  · refine withEntry_requestLaw h fun e he _ => ?_
    unfold refuseEntry
    split
    · next hs => exact dismissEntry_requestLaw he (.inl hs) _ h
    · next hs => exact dismissEntry_requestLaw he (.inr hs) _ h
    · next hs => exact confirmCancel_requestLaw he hs h
    all_goals exact h

theorem dropOrder_requestLaw {e : Entry} (he : e ∈ (s.room r).requests) (h : s.RequestLaw) :
    (dropOrder r e s).state.RequestLaw := by
  unfold dropOrder
  split
  · next hs => exact dismissEntry_requestLaw he (.inl hs) _ h
  · next hs => exact dismissEntry_requestLaw he (.inr hs) _ h
  · next hs =>
    unfold accept
    rw [removeWithResult_withdrawn]
    have hdropped := (h.lists r).dropCue he hs
    exact State.RequestLaw.of_rooms
      (h.keepsRoom (fun j hj => room_setRoom_ne _ _ _ _ hj) (by rwa [room_setRoom_same]) rfl) rfl rfl
  · next hs => exact confirmCancel_requestLaw he hs h
  all_goals exact h

/-! ### Venue time -/

/-- R163: an entry that is due has been sent, as an ADD or as a CANCEL. -/
theorem Entry.due_sent {e : Entry} {now : VenueTime} {timeout : Nat} (h : e.due now timeout = true) :
    (e.state ≠ .cued ∧ e.state ≠ .playing) ∧ e.sentTime ≠ none := by
  unfold Entry.due at h
  refine ⟨⟨fun hs => ?_, fun hs => ?_⟩, fun hs => ?_⟩ <;> simp [hs] at h

theorem replyTimeout_requestLaw (r : RoomId) (ticket : Nat) (h : s.RequestLaw) :
    (replyTimeout r ticket s).RequestLaw := by
  unfold replyTimeout
  split
  · exact h
  next e he =>
  split
  · next hdue =>
    obtain ⟨hfree, hsent⟩ := Entry.due_sent hdue
    have hmem := entry?_mem he
    have hcounted : (s.updRoom r fun rm =>
        rm.countRequest fun c => { c with timeouts := bump c.timeouts 1 }).RequestLaw := updRoom_requestLaw h rfl
    refine removeWithResult_requestLaw hcounted ?_ hfree (h.not_named hmem fun hc => hsent hc.2) _
    rw [room_updRoom_same]
    exact hmem
  · exact h

theorem venueTimeTick_requestLaw (h : s.RequestLaw) : (venueTimeTick s).RequestLaw := by
  refine h.keeps (fun k => ?_) (venueTimeTick_keeps State.cancelQueue (fun _ => rfl) s)
  rw [venueTimeTick_room]
  exact (h.lists k).timedOut fun e he => mem_dueIn.mp he

/-! ### Panels -/

theorem nextPoll_requestLaw (h : s.RequestLaw) : (nextPoll s).RequestLaw := by
  unfold nextPoll; split
  · exact h.of_rooms rfl rfl
  · exact h.of_rooms rfl rfl

theorem endPoll_requestLaw {act : PanelId → State → State} (h : s.RequestLaw)
    (ha : ∀ e x, x.RequestLaw → (act e x).RequestLaw) : (endPoll act s).RequestLaw := by
  unfold endPoll; split
  · exact h
  · exact sendIfIdle_requestLaw (nextPoll_requestLaw (ha _ _ h))

theorem markGood_requestLaw (e : PanelId) (h : s.RequestLaw) : (markGood e s).RequestLaw := by
  unfold markGood
  dsimp only
  split
  · exact h.of_rooms rfl rfl
  · exact raise_requestLaw _ (h.of_rooms rfl rfl)

theorem markMiss_requestLaw (e : PanelId) (count : PollEntry → PollEntry) (h : s.RequestLaw) :
    (markMiss e count s).RequestLaw := by
  unfold markMiss
  dsimp only
  split
  · exact raise_requestLaw _ (h.of_rooms rfl rfl)
  · exact h.of_rooms rfl rfl

theorem goodAnswer_requestLaw {handle : PanelId → RoomId → State → State} (h : s.RequestLaw)
    (ha : ∀ e r x, x.RequestLaw → (handle e r x).RequestLaw) : (goodAnswer handle s).RequestLaw :=
  endPoll_requestLaw h fun e _ hx => ha e _ _ (markGood_requestLaw e hx)

theorem roomMessage_requestLaw {handle : PanelId → RoomId → State → State}
    (ha : ∀ e r x, x.RequestLaw → (handle e r x).RequestLaw) (e : PanelId) (r : RoomId) (h : s.RequestLaw) :
    (roomMessage handle e r s).RequestLaw := by
  unfold roomMessage; split
  · exact pushResult_requestLaw _ _ h
  · exact ha _ _ _ h

theorem requestMessage_requestLaw (payload : List Byte) (e : PanelId) (r : RoomId) (h : s.RequestLaw) :
    (requestMessage payload e r s).RequestLaw := by
  unfold requestMessage
  split
  · exact pushResult_requestLaw _ _ h
  dsimp only
  split
  · exact pushResult_requestLaw _ _ h
  · exact takeRequest_requestLaw _ _ _ _ _ h

theorem cancelMessage_requestLaw (payload : List Byte) (e : PanelId) (r : RoomId) (h : s.RequestLaw) :
    (cancelMessage payload e r s).RequestLaw := by
  unfold cancelMessage; split
  · exact pushResult_requestLaw _ _ h
  · exact takeCancel_requestLaw _ _ _ h

theorem stopMessage_requestLaw (e : PanelId) (r : RoomId) (h : s.RequestLaw) : (stopMessage e r s).RequestLaw := by
  unfold stopMessage
  split
  · exact pushResult_requestLaw _ _ h
  split
  · exact takeEnding_requestLaw _ _ h
  · exact pushResult_requestLaw _ _ h

/-! ### Room orders -/

theorem accept_requestLaw (h : s.RequestLaw) : (accept s).state.RequestLaw := h

/-- R5, R6: a CUE names an entry that its checks have passed. -/
theorem cueOrder_requestLaw (r : RoomId) (bank ticket : Nat) (h : s.RequestLaw) :
    (cueOrder r bank ticket s).state.RequestLaw := by
  unfold cueOrder accept
  dsimp only
  split
  · exact h
  split
  · exact h
  split
  · exact h
  next b _ =>
  split
  · exact h
  split
  · exact h
  split
  · exact h
  next hcode =>
  have hcued : (s.updRoom r fun x => x.cue b ticket).RequestLaw := setList_requestLaw h ((h.lists r).cue b hcode)
  split
  · exact markTest_requestLaw r hcued
  · exact hcued

theorem startOrder_requestLaw (r : RoomId) (h : s.RequestLaw) : (startOrder r s).state.RequestLaw := by
  unfold startOrder
  split
  · next hs => exact (setList_requestLaw h ((h.lists r).start hs)).of_rooms rfl rfl
  all_goals exact h

/-- R14: PAUSE and RESUME move between the two states of a song in progress. -/
theorem moveOrder_requestLaw (r : RoomId) {source target : RoomState} (hs : source = .playing ∨ source = .held)
    (ht : target = .playing ∨ target = .held) (h : s.RequestLaw) : (moveOrder r source target s).state.RequestLaw := by
  unfold moveOrder
  split
  · next hstate =>
    refine accept_requestLaw (updRoom_requestLaw h ?_)
    have hbefore : (s.room r).ctx.singing = true := (RoomContext.singing_iff _).mpr (hstate ▸ hs)
    have hafter : ((s.room r).setState target).ctx.singing = true := (RoomContext.singing_iff _).mpr ht
    unfold Room.requestView
    rw [hbefore, hafter]
    rfl
  · exact h

theorem stopOrder_requestLaw (r : RoomId) (h : s.RequestLaw) : (stopOrder r s).state.RequestLaw := by
  unfold stopOrder
  split
  · exact takeEnding_requestLaw r _ h
  · exact takeEnding_requestLaw r _ h
  · next hs => exact endCalibration_requestLaw hs _ _ _ h
  · exact setList_requestLaw h (h.lists r).releaseCue
  · exact h

theorem haltOrder_requestLaw (r : RoomId) (h : s.RequestLaw) : (haltOrder r s).state.RequestLaw := by
  unfold haltOrder
  dsimp only
  split
  · split
    · exact takeEnding_requestLaw r _ h
    · exact accept_requestLaw (updRoom_requestLaw h rfl)
  · exact h

theorem calibrateOrder_requestLaw (r : RoomId) (h : s.RequestLaw) : (calibrateOrder r s).state.RequestLaw := by
  unfold calibrateOrder
  dsimp only
  split
  · next hs =>
    split
    · exact h
    · refine accept_requestLaw (updRoom_requestLaw h ?_)
      exact Room.setState_requestView (st := .calibrating) (by rw [hs]; decide) (by decide)
  · exact h

theorem roomParamOrder_requestLaw (r : RoomId) (setting : RoomSetting) (h : s.RequestLaw) :
    (roomParamOrder r setting s).state.RequestLaw := by
  unfold roomParamOrder accept
  split
  · exact h
  split
  · exact h
  · next p _ =>
    have hset : (s.updRoom r fun rm => { rm with params := p }).RequestLaw := updRoom_requestLaw h rfl
    dsimp only
    split
    · exact markTest_requestLaw r hset
    · exact hset

/-! ### Banks -/

theorem updBank_requestLaw (r : RoomId) (b : BankId) (f : Bank → Bank) (h : s.RequestLaw) :
    (s.updRoom r fun rm => rm.updBank b f).RequestLaw := updRoom_requestLaw h (by simp [Room.requestView])

theorem bankOpenOrder_requestLaw (r : RoomId) (bank songId lines syllables notes : Nat) (h : s.RequestLaw) :
    (bankOpenOrder r bank songId lines syllables notes s).state.RequestLaw := by
  unfold bankOpenOrder
  split
  · exact h
  split
  · exact h
  · exact h
  · exact h
  · split
    · exact updBank_requestLaw r _ _ h
    · exact h

theorem bankCloseOrder_requestLaw (r : RoomId) (bank : Nat) (h : s.RequestLaw) :
    (bankCloseOrder r bank s).state.RequestLaw := by
  unfold bankCloseOrder
  split
  · exact h
  dsimp only
  split
  · split
    · exact updBank_requestLaw r _ _ h
    · exact h
  · exact h

theorem bankClearOrder_requestLaw (r : RoomId) (bank : Nat) (h : s.RequestLaw) :
    (bankClearOrder r bank s).state.RequestLaw := by
  unfold bankClearOrder
  split
  · exact h
  next b _ =>
  dsimp only
  split
  · exact h
  split
  · refine accept_requestLaw (setList_requestLaw h ?_)
    have hbank (rm : Room) : (rm.clearBank b).requestView = rm.requestView := by rw [Room.clearBank_eq]; rfl
    split
    · exact (h.lists r).releaseCue.congr (hbank _)
    · exact (h.lists r).keepsView (hbank _)
  · exact h

theorem bankClearingComplete_requestLaw (r : RoomId) (b : BankId) (h : s.RequestLaw) :
    (bankClearingComplete r b s).RequestLaw := by
  unfold bankClearingComplete; split
  · exact sendIfIdle_requestLaw (raise_requestLaw _ (updBank_requestLaw r b _ h))
  · exact h

theorem appendOrder_requestLaw {α : Type} {take : Bank → α → Option Bank} {frontier declared : Bank → Nat}
    {after : BankId → State → State} (ha : ∀ b x, x.RequestLaw → (after b x).RequestLaw) (r : RoomId)
    (bank first : Nat) (xs : List α) (h : s.RequestLaw) :
    (appendOrder take frontier declared after r bank first xs s).state.RequestLaw := by
  unfold appendOrder
  split
  · exact h
  split
  · exact h
  · exact ha _ _ (updBank_requestLaw r _ _ h)

theorem linesOrder_requestLaw (r : RoomId) (bank first : Nat) (recs : List LineRec) (h : s.RequestLaw) :
    (linesOrder r bank first recs s).state.RequestLaw := by
  refine appendOrder_requestLaw (fun b x hx => ?_) r bank first recs h
  unfold lineAppendEvent
  dsimp only
  split
  · exact lineTest_requestLaw r _ hx
  · exact hx

/-! ### The chip mode and the trunk -/

/-- R173: outside RUN every room is OFF, and an enabled one goes to IDLE. -/
theorem enterRun_requestLaw (hr : s.RoomLaw) (hm : s.mode = .config) (h : s.RequestLaw) : (enterRun s).RequestLaw := by
  refine h.congr (fun k => ?_) ?_
  · have hoff : (s.room k).ctx.state = .off := (hr k).1.off (by rw [hm]; decide)
    rw [enterRun_room]
    unfold Room.enabled
    split
    · exact Room.setState_requestView (by rw [hoff]; decide) (by decide)
    · rfl
  · rw [enterRun_eq, startPolling_keeps State.cancelQueue fun _ _ _ _ => rfl]
    unfold enabledRooms
    rw [mapRooms_eq]

theorem setModeOrder_requestLaw (mode : Nat) (hr : s.RoomLaw) (h : s.RequestLaw) :
    (setModeOrder mode s).state.RequestLaw := by
  have hconfig : (leaveRun s).RequestLaw :=
    foldl_requestLaw (fun _ r hx => resetRoom_requestLaw r hx) allRooms (h.of_rooms rfl rfl)
  have hstop : (enterStop s).RequestLaw := by
    refine h.congr (fun k => ?_) ?_
    · unfold enterStop; rw [mapRooms_room]; rfl
    · unfold enterStop; rw [mapRooms_eq]
  unfold setModeOrder accept
  split
  · exact h
  split
  · exact h
  · exact h
  · exact h
  · next hm _ =>
    split
    · exact enterRun_requestLaw hr hm h
    · exact h
  · split
    · exact h
    · exact hconfig
  · exact h
  · exact hstop
  · exact h.of_rooms rfl rfl
  · exact h

theorem takeMedia_requestLaw {act : State → State} (h : s.RequestLaw)
    (ha : ∀ x, x.RequestLaw → (act x).RequestLaw) : (takeMedia act s).RequestLaw := by
  rcases takeMedia_cases act s with e | e <;> rw [e]
  · exact h.of_rooms rfl rfl
  · exact ha _ (h.of_rooms rfl rfl)

theorem pinReset_requestLaw (s : State) : (pinReset s).RequestLaw := reset_requestLaw.of_rooms rfl rfl

/-- An order keeps the law where its decision does. -/
theorem takeOrder_requestLaw (inStandby : Bool) (room tag kind : Nat) {d : State → Verdict} (h : s.RequestLaw)
    (hd : s.countIn.RequestLaw → (d s.countIn).state.RequestLaw) : (takeOrder inStandby room tag kind d s).RequestLaw := by
  rcases takeOrder_cases inStandby room tag kind d s with e | e | e <;> rw [e]
  · exact h.of_rooms rfl rfl
  · exact h.of_rooms rfl rfl
  · exact sendIfIdle_requestLaw ((hd (h.of_rooms rfl rfl)).of_rooms rfl rfl)

theorem answerMalformed_requestLaw (bytes : List Byte) (h : s.RequestLaw) : (answerMalformed bytes s).RequestLaw := by
  unfold answerMalformed
  dsimp only
  split
  · exact h.of_rooms rfl rfl
  split
  · exact h.of_rooms rfl rfl
  · exact sendIfIdle_requestLaw (h.of_rooms rfl rfl)

end

/-! ### Every command -/

/-- Every command answers a state whose request lists and cancel queue are lawful. -/
theorem exec_requestLaw (c : Instr) {s t : State} (hr : s.RoomLaw) (h : s.RequestLaw) (e : exec c s = .next t) :
    t.RequestLaw := by
  have order {b : Bool} {room tag kind : Nat} {d : State → Verdict}
      (hd : s.countIn.RequestLaw → (d s.countIn).state.RequestLaw)
      (e : (.next (takeOrder b room tag kind d s) : Host.Outcome State Fault Refusal) = .next t) : t.RequestLaw := by
    cases e; exact takeOrder_requestLaw b room tag kind h hd
  have ends {x : State} (hx : x.RequestLaw) (e : (.next x : Host.Outcome State Fault Refusal) = .next t) :
      t.RequestLaw := by
    cases e; exact hx
  cases c with
  | pinReset => exact ends (pinReset_requestLaw s) e
  | cellDiscarded bytes => exact ends (h.of_rooms (discardCell_rooms s bytes) (discardCell_cancelQueue s bytes)) e
  | unknownOrder bytes =>
    refine ends ?_ e
    split
    · exact answerMalformed_requestLaw bytes h
    · exact h
  | video r line frameStart pixels =>
    exact ends (takeMedia_requestLaw h fun _ => videoCell_requestLaw r line frameStart pixels) e
  | audio r endFlag samples => exact ends (takeMedia_requestLaw h fun _ => audioCell_requestLaw r endFlag samples) e
  | appendLines r tag bank first recs => exact order (linesOrder_requestLaw r bank first recs) e
  | appendSyllables r tag bank first recs =>
    exact order (appendOrder_requestLaw (fun _ _ hx => hx) r bank first recs) e
  | appendGuide r tag bank first recs =>
    exact order (appendOrder_requestLaw (fun _ _ hx => hx) r bank first recs) e
  | appendFont tag first count records =>
    exact order (fun hx => hx.of_rooms (fontAppendOrder_rooms _ first count records)
      (fontAppendOrder_cancelQueue _ first count records)) e
  | appendLadder tag first bounds =>
    exact order (fun hx => hx.of_rooms (ladderOrder_rooms _ first bounds) (ladderOrder_cancelQueue _ first bounds)) e
  | setMode tag mode => exact order (setModeOrder_requestLaw mode (roomLaw_of_rooms hr rfl fun _ => rfl)) e
  | chipParam tag param value =>
    exact order (fun hx => hx.of_rooms (chipParamOrder_rooms _ param value) (chipParamOrder_cancelQueue _ param value)) e
  | slotMap tag direction slot target =>
    exact order (fun hx => hx.of_rooms (slotMapOrder_rooms _ direction slot target)
      (slotMapOrder_cancelQueue _ direction slot target)) e
  | pollEntry tag entry enabled address room =>
    exact order (fun hx => hx.of_rooms (pollEntryOrder_rooms _ entry enabled address room)
      (pollEntryOrder_cancelQueue _ entry enabled address room)) e
  | fontClear tag height space missing =>
    exact order (fun hx => hx.of_rooms (fontClearOrder_rooms _ height space missing)
      (fontClearOrder_cancelQueue _ height space missing)) e
  | readChip tag => exact order (fun hx => hx) e
  | readRoom r tag => exact order (fun hx => hx) e
  | readBank r tag bank =>
    exact order (fun hx => hx.of_rooms (readBankOrder_rooms _ r bank) (readBankOrder_cancelQueue _ r bank)) e
  | readRequestList r tag => exact order (fun hx => hx) e
  | readScores r tag => exact order (fun hx => hx) e
  | readCounters room tag =>
    cases room with
    | none => exact order (fun hx => hx) e
    | some r => exact order (fun hx => hx) e
  | cue r tag bank ticket => exact order (cueOrder_requestLaw r bank ticket) e
  | start r tag => exact order (startOrder_requestLaw r) e
  | pause r tag => exact order (moveOrder_requestLaw r (.inl rfl) (.inr rfl)) e
  | resume r tag => exact order (moveOrder_requestLaw r (.inr rfl) (.inl rfl)) e
  | stop r tag => exact order (stopOrder_requestLaw r) e
  | haltAtLine r tag => exact order (haltOrder_requestLaw r) e
  | roomReset r tag => exact order (resetRoom_requestLaw r) e
  | calibrate r tag => exact order (calibrateOrder_requestLaw r) e
  | roomParam r tag setting => exact order (roomParamOrder_requestLaw r setting) e
  | bankOpen r tag bank songId lines syllables notes =>
    exact order (bankOpenOrder_requestLaw r bank songId lines syllables notes) e
  | bankClose r tag bank => exact order (bankCloseOrder_requestLaw r bank) e
  | bankClear r tag bank => exact order (bankClearOrder_requestLaw r bank) e
  | reqAccept r tag ticket position =>
    exact order (fun hx => withEntry_requestLaw hx fun _ he ht => ht ▸ acceptEntry_requestLaw he position hx) e
  | reqPosition r tag ticket position =>
    exact order (fun hx => withEntry_requestLaw hx fun _ he ht => ht ▸ positionEntry_requestLaw he position hx) e
  | reqRefuse r tag ticket reason => exact order (refuseOrder_requestLaw r ticket reason) e
  | reqDrop r tag ticket => exact order (fun hx => withEntry_requestLaw hx fun _ he _ => dropOrder_requestLaw he hx) e
  | samplePeriod inputs roomOrder offerOrder => exact ends (samplePeriod_requestLaw inputs roomOrder offerOrder h) e
  | songPositionLimit r => exact ends (songPositionLimit_requestLaw r h) e
  | songTick r =>
    refine ends ?_ e
    split
    · exact sendIfIdle_requestLaw (songTick_requestLaw r h)
    · exact h
  | analysisComplete => exact ends (analysisComplete_requestLaw h) e
  | calTimeout r => exact ends (calTimeout_requestLaw r h) e
  | bankClearingComplete r b => exact ends (bankClearingComplete_requestLaw r b h) e
  | fontClearingComplete =>
    exact ends (h.of_rooms (fontClearingComplete_rooms s) (fontClearingComplete_cancelQueue s)) e
  | panelNone payload => exact ends (goodAnswer_requestLaw h fun _ _ _ hx => hx) e
  | panelRequest payload =>
    exact ends (goodAnswer_requestLaw h fun en r _ =>
      roomMessage_requestLaw (fun en r _ => requestMessage_requestLaw payload en r) en r) e
  | panelCancel payload =>
    exact ends (goodAnswer_requestLaw h fun en r _ =>
      roomMessage_requestLaw (fun en r _ => cancelMessage_requestLaw payload en r) en r) e
  | panelStopMessage payload =>
    exact ends (goodAnswer_requestLaw h fun en r _ =>
      roomMessage_requestLaw (fun en r _ => stopMessage_requestLaw en r) en r) e
  | panelUnknownKind kind payload => exact ends (goodAnswer_requestLaw h fun _ _ _ => pushResult_requestLaw _ _) e
  | wrongEcho address =>
    refine ends ?_ e
    split
    · exact h
    · exact endPoll_requestLaw h fun en _ => markMiss_requestLaw en _
  | garbled => exact ends (endPoll_requestLaw h fun en _ => markMiss_requestLaw en _) e
  | noAnswer => exact ends (endPoll_requestLaw h fun en _ => markMiss_requestLaw en _) e
  | venueTimeTick => exact ends (venueTimeTick_requestLaw h) e
  | replyTimeout r ticket => exact ends (replyTimeout_requestLaw r ticket h) e
  | cellSent => exact ends (schedule_requestLaw h) e

/-- Settles O17: a command changes the list, the cue and the song of a room together, and an item is in the cancel queue
only while its entry waits for its CANCEL cell. -/
theorem stepKeepsTheRequestLaw : Obligations.StepKeepsTheRequestLaw := by
  intro s t hr h e
  unfold step at e
  split at e
  · cases e; exact h
  · refine exec_requestLaw _ ?_ ?_ e
    · exact roomLaw_of_rooms hr rfl fun _ => rfl
    · exact h.of_rooms rfl rfl

end Sys2Proof.Machine
end

section
/-! PROOFS. The front of the queue (O1), and what the link does with a downstream cell before its order is decided: the
cells that R169 discards (O5), in standby and with a full reply queue (O8). -/

namespace Sys2Proof.Machine

/-- Settles O1: `step` on a queue with a front command and on the empty one. -/
theorem stepTakesTheFrontCommand : Obligations.StepTakesTheFrontCommand :=
  fun _ _ _ => ⟨rfl, rfl⟩

/-! ### The checks of R169 on the bytes of a cell -/

/-- R169, check 1, failed. -/
theorem cellLengthOk_eq_false_iff (bytes : List Byte) :
    cellLengthOk bytes = false ↔
      bytes.length < 8 ∨ fieldAt bytes 4 2 ≠ bytes.length - 8 ∨ 8192 < fieldAt bytes 4 2 := by
  simp only [cellLengthOk, Bool.and_eq_false_iff, decide_eq_false_iff_not, beq_eq_false_iff_ne, not_le, or_assoc]

/-- R169, check 2, failed. -/
theorem cellCrcOk_eq_false_iff (bytes : List Byte) :
    cellCrcOk bytes = false ↔
      fieldAt bytes (bytes.length - 2) 2 ≠ (crc16 (bytes.take (bytes.length - 2))).toNat := by
  simp only [cellCrcOk, beq_eq_false_iff_ne]

/-- R169, check 3: a cell that is not SET_MODE. -/
theorem RawCell.isSetMode_eq_false_iff (c : RawCell) :
    c.isSetMode = false ↔ ¬(c.kind = 4 ∧ c.payload.head? = some 1) := by
  have hone (b : Byte) : b.toNat = 1 ↔ b = 1 := BitVec.toNat_inj (y := 1)
  simp [RawCell.isSetMode, hone]

/-- R169, check 4, failed. -/
theorem RawCell.kindOk_eq_false_iff (c : RawCell) :
    c.kindOk = false ↔ c.kind ≠ 1 ∧ c.kind ≠ 2 ∧ c.kind ≠ 3 ∧ c.kind ≠ 4 := by
  simp only [RawCell.kindOk, Bool.or_eq_false_iff, beq_eq_false_iff_ne, and_assoc]

/-- R169, check 5, failed: by the kind of the cell. -/
theorem RawCell.mediaOk_eq_false_iff (c : RawCell) :
    c.mediaOk = false ↔
      (c.kind = 1 ∧ (4 ≤ c.room ∨ c.payload.length < 4 ∨ c.payload.length ≠ 4 + 3 * fieldAt c.payload 2 2))
      ∨ (c.kind = 2 ∧ (4 ≤ c.room ∨ c.payload.length < 2 ∨ c.payload.length ≠ 2 + 4 * fieldAt c.payload 0 2)) := by
  unfold RawCell.mediaOk
  by_cases hvideo : c.kind = 1
  · simp [hvideo]; omega
  · by_cases haudio : c.kind = 2
    · simp [haudio]; omega
    · simp [hvideo, haudio]

theorem RawCell.answered_iff (c : RawCell) : c.answered = true ↔ c.kind = 3 ∨ c.kind = 4 := by
  simp [RawCell.answered]

theorem repliesFull_iff (s : State) : s.repliesFull = true ↔ 16 ≤ s.replies.length := by
  simp [State.repliesFull]

/-- Settles O5, check by check of R169. -/
theorem discardedCellsAreCounted : Obligations.DiscardedCellsAreCounted := by
  intro bytes s
  refine congrArg Host.Outcome.next ?_
  unfold discardCell
  exact if_congr (cellLengthOk_eq_false_iff bytes) rfl <|
    if_congr (cellCrcOk_eq_false_iff bytes) rfl <|
    if_congr (and_congr_right fun _ => RawCell.isSetMode_eq_false_iff _) rfl <|
    if_congr (RawCell.kindOk_eq_false_iff _) rfl <|
    if_congr (RawCell.mediaOk_eq_false_iff _) rfl <|
    if_congr (and_congr (RawCell.answered_iff _) (repliesFull_iff s)) rfl rfl

/-! ### Standby, and a full reply queue -/

/-- Every ORDER and APPEND but SET_MODE is taken as one that chip mode STOP discards. -/
theorem exec_takeOrder_awake {c : Instr} {h : Nat × Nat × Nat} (hc : orderHeader c = some h)
    (hm : ∀ tag mode, c ≠ .setMode tag mode) (s : State) :
    ∃ d, exec c s = .next (takeOrder false h.1 h.2.1 h.2.2 d s) := by
  cases c with
  | setMode tag mode => exact absurd rfl (hm tag mode)
  | readCounters room tag => cases room <;> (cases hc; exact ⟨_, rfl⟩)
  | appendLines | appendSyllables | appendGuide | appendFont | appendLadder | chipParam | slotMap | pollEntry
  | fontClear | readChip | readRoom | readBank | readRequestList | readScores | cue | start | pause | resume | stop
  | haltAtLine | roomReset | calibrate | roomParam | bankOpen | bankClose | bankClear | reqAccept | reqPosition
  | reqRefuse | reqDrop => cases hc; exact ⟨_, rfl⟩
  | pinReset | cellDiscarded | unknownOrder | video | audio | samplePeriod | songPositionLimit | songTick
  | analysisComplete | calTimeout | bankClearingComplete | fontClearingComplete | panelNone | panelRequest
  | panelCancel | panelStopMessage | panelUnknownKind | wrongEcho | garbled | noAnswer | venueTimeTick
  | replyTimeout | cellSent => cases hc

theorem takeMedia_standby {s : State} (h : s.mode = .stop) (act : State → State) :
    takeMedia act s = s.countStandby := if_pos h

/-- SET_MODE passes check 3 of R169 in every chip mode, and not check 6. -/
theorem takeOrder_anyMode_lost {s : State} (hf : 16 ≤ s.replies.length) (room tag kind : Nat) (d : State → Verdict) :
    takeOrder true room tag kind d s = s.countOrdersLost := by
  unfold takeOrder
  rw [if_neg (by simp), if_pos ((repliesFull_iff s).mpr hf)]

/-- Settles O8: check 3 by the kind of the cell, then check 6. -/
theorem ordersDiscardedInStandbyOrFull : Obligations.OrdersDiscardedInStandbyOrFull := by
  intro c s
  refine ⟨fun hstop hm hcell => ?_, fun hfull hc hmode => ?_⟩
  · rcases hcell with hc | ⟨r, line, frameStart, pixels, rfl⟩ | ⟨r, endFlag, samples, rfl⟩
    · obtain ⟨h, hc⟩ := Option.isSome_iff_exists.mp hc
      obtain ⟨d, e⟩ := exec_takeOrder_awake hc hm s
      exact e.trans (congrArg Host.Outcome.next (takeOrder_standby hstop _ _ _ d))
    · exact congrArg Host.Outcome.next (takeMedia_standby hstop _)
    · exact congrArg Host.Outcome.next (takeMedia_standby hstop _)
  · by_cases hm : ∃ tag mode, c = .setMode tag mode
    · obtain ⟨tag, mode, rfl⟩ := hm
      exact congrArg Host.Outcome.next (takeOrder_anyMode_lost hfull 15 tag 1 (setModeOrder mode))
    · obtain ⟨h, hc⟩ := Option.isSome_iff_exists.mp hc
      obtain ⟨d, e⟩ := exec_takeOrder_awake hc (fun tag mode e => hm ⟨tag, mode, e⟩) s
      exact e.trans (congrArg Host.Outcome.next (takeOrder_lost (hmode.resolve_right hm) hfull _ _ _ _ d))

end Sys2Proof.Machine
end

section
/-! PROOFS. The answers of SET_MODE (O10). -/

namespace Sys2Proof.Machine

/-- SET_MODE that is taken, decided with the state `t` beside the counted cell. -/
theorem execSetMode_replied {s t : State} {tag mode : Nat} {code : ReplyCode} (h : s.replies.length < 16)
    (e : setModeOrder mode s.countIn = ⟨t.countIn, code, []⟩) :
    exec (.setMode tag mode) s = .next (t.replied 15 tag 1 code) := by
  show Host.Outcome.next (takeOrder true 15 tag 1 (setModeOrder mode) s) = _
  rw [takeOrder_anyMode h, e]
  rfl

/-- 12.2 codes no mode above 2. -/
theorem modeOf_none {mode : Nat} (h : 3 ≤ mode) : modeOf mode = none := by
  obtain ⟨n, rfl⟩ := Nat.exists_eq_add_of_le' h
  rfl

theorem Room.busy_iff (rm : Room) : rm.busy = true ↔ rm.ctx.state ≠ .off ∧ rm.ctx.state ≠ .idle := by
  simp [Room.busy]

section
variable {s : State}

/-- R184: a mode code that 12.2 does not give. -/
theorem setModeOrder_range {mode : Nat} (h : 3 ≤ mode) : setModeOrder mode s = refuse s .range := by
  simp [setModeOrder, modeOf_none h]

/-- R173: the target is the present mode. -/
theorem setModeOrder_same {mode : Nat} (h : modeOf mode = some s.mode) : setModeOrder mode s = accept s := by
  unfold setModeOrder
  rw [h]
  cases s.mode <;> rfl

/-- R173: between RUN and STOP there is no move. -/
theorem setModeOrder_wrongMode {mode : Nat}
    (h : s.mode = .run ∧ modeOf mode = some .stop ∨ s.mode = .stop ∧ modeOf mode = some .run) :
    setModeOrder mode s = refuse s .wrongMode := by
  rcases h with ⟨hm, ht⟩ | ⟨hm, ht⟩ <;> simp [setModeOrder, hm, ht]

/-- R118, R173: no move to RUN before the ladder is loaded. -/
theorem setModeOrder_notReady (hm : s.mode = .config) (hl : s.ladder.loaded = false) :
    setModeOrder 1 s = refuse s .notReady := by
  simp [setModeOrder, modeOf, hm, hl]

/-- R173: no move from RUN while a room is neither OFF nor IDLE. -/
theorem setModeOrder_busy (hm : s.mode = .run) {r : RoomId} (hr : (s.room r).busy = true) :
    setModeOrder 0 s = refuse s .busy := by
  have hany : (allRooms.any fun k => (s.room k).busy) = true := List.any_eq_true.mpr ⟨r, mem_allRooms r, hr⟩
  simp [setModeOrder, modeOf, hm, hany]

/-- R173: the return from STOP to CONFIG. -/
theorem setModeOrder_leaveStop (hm : s.mode = .stop) : setModeOrder 0 s = accept { s with mode := .config } := by
  simp [setModeOrder, modeOf, hm]

end

/-- Settles O10, answer by answer of R173. -/
theorem setModeAnswers : Obligations.SetModeAnswers := by
  intro tag s h
  have same {mode : Nat} (hm : modeOf mode = some s.mode) :=
    execSetMode_replied (tag := tag) h (setModeOrder_same (s := s.countIn) hm)
  refine ⟨fun mode hmode => execSetMode_replied h (setModeOrder_range hmode),
    fun hm => same (by rw [hm]; rfl), fun hm => same (by rw [hm]; rfl), fun hm => same (by rw [hm]; rfl),
    fun hm hl => execSetMode_replied h (setModeOrder_notReady hm hl),
    fun hm ⟨r, hr⟩ => execSetMode_replied h (setModeOrder_busy hm ((Room.busy_iff (s.room r)).mpr hr)),
    fun hm => execSetMode_replied h (setModeOrder_wrongMode (.inl ⟨hm, rfl⟩)),
    fun hm => execSetMode_replied h (setModeOrder_wrongMode (.inr ⟨hm, rfl⟩)),
    fun hm => execSetMode_replied h (setModeOrder_leaveStop hm)⟩

end Sys2Proof.Machine
end

section
/-! PROOFS. The cells that spell no order (O6): what the bytes of a cell that spells one look like, and the MALFORMED
answer to the others. -/

namespace Sys2Proof

/-! ### The fields of a payload -/

theorem fieldAt_drop (bs : List Byte) (n i w : Nat) : fieldAt (bs.drop n) i w = fieldAt bs (n + i) w := by
  unfold fieldAt
  rw [List.drop_drop]

/-- A one-byte field is the byte at its offset. -/
theorem getElem?_of_fieldAt {bs : List Byte} {i n : Nat} (hn : 0 < n) (h : fieldAt bs i 1 = n) :
    bs[i]? = some (BitVec.ofNat 8 n) := by
  unfold fieldAt at h
  rw [← List.head?_drop]
  cases hd : bs.drop i with
  | nil => rw [hd] at h; exact absurd h hn.ne
  | cons b rest =>
    rw [hd] at h
    have hb : b.toNat = n := by simpa [beNat] using h
    simp [← hb]

theorem fieldAt_of_getElem? {bs : List Byte} {i : Nat} {b : Byte} (h : bs[i]? = some b) : fieldAt bs i 1 = b.toNat := by
  unfold fieldAt
  rw [← List.head?_drop] at h
  obtain ⟨rest, hd⟩ := List.head?_eq_some_iff.mp h
  simp [hd, beNat]

/-- The fields of a FONT append, by the length of what stands behind the section byte. -/
theorem fontFields_eq (bs : List Byte) :
    fontFields bs =
      (if 2 ≤ bs.length then some (fieldAt bs 0 2) else none, if 4 ≤ bs.length then some (fieldAt bs 2 2) else none,
        bs.drop (if 4 ≤ bs.length then 4 else if 2 ≤ bs.length then 2 else 0)) := by
  rcases bs with _ | ⟨a, _ | ⟨b, _ | ⟨c, _ | ⟨d, rest⟩⟩⟩⟩
  · rfl
  · rfl
  · rfl
  · rfl
  · simp [fontFields, fieldAt]

/-! ### Orders -/

/-- The length of the fields of an order of kind `k` (12.2); 0 where there is no such kind. -/
def orderLength : Nat → Nat
  | 1 => 1 | 2 => 3 | 3 => 3 | 4 => 4 | 5 => 3 | 6 => 2 | 16 => 2 | 24 => 19 | 25 => 11 | 26 => 1 | 27 => 1
  | 28 => 3 | 29 => 3 | 30 => 2 | 31 => 1 | _ => 0

/-- The width of a record of an APPEND section but FONT (12.3); 0 where there is no such section. -/
def recordWidth : Nat → Nat
  | 1 => 4 | 2 => 22 | 3 => 7 | 5 => 2 | _ => 0

theorem recordWidth_of_mem {k w : Nat} (h : (k, w) ∈ [(1, 4), (2, 22), (3, 7), (5, 2)]) :
    k ≠ 4 ∧ recordWidth k = w := by
  simp only [List.mem_cons, Prod.mk.injEq, List.not_mem_nil, or_false] at h
  rcases h with ⟨rfl, rfl⟩ | ⟨rfl, rfl⟩ | ⟨rfl, rfl⟩ | ⟨rfl, rfl⟩ <;> decide

/-- What R170 asks of an order of kind `k` with fields `f` addressed to the chip. -/
structure SpellsChipOrder (k : Nat) (f : List Byte) : Prop where
  kind : 1 ≤ k ∧ k ≤ 6
  length : f.length = orderLength k
  read : ∀ x y, k = 6 → f = [x, y] → x.toNat = 0 ∨ x.toNat = 5
  param : ∀ p v, k = 2 → f = p :: v → 1 ≤ p.toNat ∧ p.toNat ≤ 4

/-- What R170 asks of an order of kind `k` with fields `f` addressed to a room. -/
structure SpellsRoomOrder (k : Nat) (f : List Byte) : Prop where
  kind : k = 6 ∨ 16 ≤ k ∧ k ≤ 31
  length : f.length = orderLength k
  read : ∀ x y, k = 6 → f = [x, y] → 1 ≤ x.toNat ∧ x.toNat ≤ 5
  param : ∀ p v, k = 24 → f = p :: v → 1 ≤ p.toNat ∧ p.toNat ≤ 24

/-- What R170 asks of an APPEND: a FONT append reaches its section, and every other reaches its record count and is as
long as its records are. -/
inductive SpellsAppend (c : RawCell) : Prop
  | font (room : c.room = 15) (reaches : 2 ≤ c.payload.length) (sect : fieldAt c.payload 1 1 = 4)
  | records
    (sect : c.room = 15 ∧ fieldAt c.payload 1 1 = 5 ∨
      c.room < 4 ∧ 1 ≤ fieldAt c.payload 1 1 ∧ fieldAt c.payload 1 1 ≤ 3)
    (reaches : 6 ≤ c.payload.length)
    (length : c.payload.length = 6 + recordWidth (fieldAt c.payload 1 1) * fieldAt c.payload 4 2)

theorem readChipParam_none {p : Nat} (h : p = 0 ∨ 4 < p) : readChipParam p = none := by
  rcases h with rfl | h
  · rfl
  · obtain ⟨n, rfl⟩ := Nat.exists_eq_add_of_le' h
    rfl

theorem readSetting_none {p : Nat} (h : p = 0 ∨ 24 < p) (v : List Byte) : readSetting p v = none := by
  rcases h with rfl | h
  · rfl
  · obtain ⟨n, rfl⟩ := Nat.exists_eq_add_of_le' h
    rfl

theorem roomOf_some {n : Nat} {r : RoomId} (h : roomOf n = some r) : n < 4 := by
  by_contra hn
  simp [roomOf, hn] at h

/-- Every order that the chip decodes meets R170, kind by kind. -/
theorem decodeChipOrder_some {tag k : Nat} {f : List Byte} {i : Instr} (h : decodeChipOrder tag k f = some i) :
    SpellsChipOrder k f := by
  unfold decodeChipOrder at h
  split at h
  · exact ⟨by decide, rfl, nofun, nofun⟩
  · rename_i p v0 v1
    refine ⟨by decide, rfl, nofun, ?_⟩
    rintro _ _ - ⟨⟩
    by_contra hp
    rw [readChipParam_none (by omega)] at h
    cases h
  · exact ⟨by decide, rfl, nofun, nofun⟩
  · exact ⟨by decide, rfl, nofun, nofun⟩
  · exact ⟨by decide, rfl, nofun, nofun⟩
  · rename_i o b
    refine ⟨by decide, rfl, ?_, nofun⟩
    rintro _ _ - ⟨⟩
    split at h
    · exact .inl (by assumption)
    · exact .inr (by assumption)
    · cases h
  · cases h

/-! The match of a room's order has too many arms to be split at once: its kinds come first, then its lengths. -/

/-- R170: a room has no order of another kind. -/
theorem decodeRoomOrder_kind_none {k : Nat} (h : ¬(k = 6 ∨ 16 ≤ k ∧ k ≤ 31)) (r : RoomId) (tag : Nat) (f : List Byte) :
    decodeRoomOrder r tag k f = none := by
  have hgaps : k < 6 ∨ (7 ≤ k ∧ k ≤ 15) ∨ 32 ≤ k := by omega
  rcases hgaps with hk | ⟨hlow, hhigh⟩ | hk
  · interval_cases k <;> rfl
  · interval_cases k <;> rfl
  · obtain ⟨n, rfl⟩ := Nat.exists_eq_add_of_le' hk
    rfl

section
variable {g : List Byte → Option Instr} {f : List Byte}

theorem none_of_length_ne_zero (hmore : ∀ a l, g (a :: l) = none) (h : f.length ≠ 0) : g f = none := by
  cases f with
  | nil => exact absurd rfl h
  | cons a l => exact hmore a l

theorem none_of_length_ne_one (hnil : g [] = none) (hmore : ∀ a b l, g (a :: b :: l) = none) (h : f.length ≠ 1) :
    g f = none := by
  cases f with
  | nil => exact hnil
  | cons a l => exact none_of_length_ne_zero (g := fun l => g (a :: l)) (hmore a) fun e => h (congrArg (· + 1) e)

theorem none_of_length_ne_two (hnil : g [] = none) (hone : ∀ a, g [a] = none)
    (hmore : ∀ a b c l, g (a :: b :: c :: l) = none) (h : f.length ≠ 2) : g f = none := by
  cases f with
  | nil => exact hnil
  | cons a l => exact none_of_length_ne_one (g := fun l => g (a :: l)) (hone a) (hmore a) fun e => h (congrArg (· + 1) e)

theorem none_of_length_ne_three (hnil : g [] = none) (hone : ∀ a, g [a] = none) (htwo : ∀ a b, g [a, b] = none)
    (hmore : ∀ a b c d l, g (a :: b :: c :: d :: l) = none) (h : f.length ≠ 3) : g f = none := by
  cases f with
  | nil => exact hnil
  | cons a l =>
    exact none_of_length_ne_two (g := fun l => g (a :: l)) (hone a) (htwo a) (hmore a) fun e => h (congrArg (· + 1) e)

end

/-- R170: the fields of a room's order have the length of its kind. -/
theorem decodeRoomOrder_length_none {k : Nat} (hk : k = 6 ∨ 16 ≤ k ∧ k ≤ 31) {f : List Byte}
    (h : f.length ≠ orderLength k) (r : RoomId) (tag : Nat) : decodeRoomOrder r tag k f = none := by
  have hgroups : (17 ≤ k ∧ k ≤ 23) ∨ (k = 26 ∨ k = 27 ∨ k = 31) ∨ (k = 6 ∨ k = 16 ∨ k = 30) ∨ (k = 28 ∨ k = 29) ∨
      k = 24 ∨ k = 25 := by omega
  rcases hgroups with ⟨hlow, hhigh⟩ | (rfl | rfl | rfl) | (rfl | rfl | rfl) | (rfl | rfl) | rfl | rfl
  · interval_cases k <;> exact none_of_length_ne_zero (fun _ _ => rfl) h
  iterate 3 exact none_of_length_ne_one rfl (fun _ _ _ => rfl) h
  iterate 3 exact none_of_length_ne_two rfl (fun _ => rfl) (fun _ _ _ _ => rfl) h
  iterate 2 exact none_of_length_ne_three rfl (fun _ => rfl) (fun _ _ => rfl) (fun _ _ _ _ _ => rfl) h
  · cases f with
    | nil => rfl
    | cons p v => exact if_neg fun hv => h (congrArg (· + 1) hv)
  · cases f with
    | nil => rfl
    | cons b v => exact if_neg fun hv => h (congrArg (· + 1) hv)

/-- The READ of a room, by the object it names (12.2). -/
def roomReadOf (r : RoomId) (tag bank : Nat) : Nat → Option Instr
  | 1 => some (.readRoom r tag)
  | 2 => some (.readBank r tag bank)
  | 3 => some (.readRequestList r tag)
  | 4 => some (.readScores r tag)
  | 5 => some (.readCounters (some r) tag)
  | _ => none

theorem roomReadOf_some {r : RoomId} {tag bank n : Nat} {i : Instr} (h : roomReadOf r tag bank n = some i) :
    1 ≤ n ∧ n ≤ 5 := by
  unfold roomReadOf at h
  split at h
  case h_6 => cases h
  all_goals omega

theorem decodeRoomOrder_read (r : RoomId) (tag : Nat) (x y : Byte) :
    decodeRoomOrder r tag 6 [x, y] = roomReadOf r tag y.toNat x.toNat := rfl

theorem decodeRoomOrder_param (r : RoomId) (tag : Nat) (p : Byte) (v : List Byte) :
    decodeRoomOrder r tag 24 (p :: v) =
      if v.length = 18 then (readSetting p.toNat v).map (.roomParam r tag) else none := rfl

/-- Every order that a room decodes meets R170. -/
theorem decodeRoomOrder_some {r : RoomId} {tag k : Nat} {f : List Byte} {i : Instr}
    (h : decodeRoomOrder r tag k f = some i) : SpellsRoomOrder k f := by
  have hkind : k = 6 ∨ 16 ≤ k ∧ k ≤ 31 := by
    by_contra hk
    rw [decodeRoomOrder_kind_none hk] at h
    cases h
  refine ⟨hkind, ?_, ?_, ?_⟩
  · by_contra hlen
    rw [decodeRoomOrder_length_none hkind hlen] at h
    cases h
  · rintro x y rfl rfl
    exact roomReadOf_some ((decodeRoomOrder_read r tag x y).symm.trans h)
  · rintro p v rfl rfl
    by_contra hp
    rw [decodeRoomOrder_param, readSetting_none (by omega), Option.map_none, ite_self] at h
    cases h

/-! The body of a cell. -/

theorem decodeBody_append {c : RawCell} (hc : c.kind = 3) : decodeBody c = decodeAppend c := by
  simp only [decodeBody, hc]

theorem decodeBody_order {c : RawCell} (hc : c.kind = 4) : decodeBody c = decodeOrder c := by
  simp only [decodeBody, hc]

/-- An order without fields of its own kind at its own address is none. -/
theorem decodeBody_order_none {c : RawCell} {k : Byte} {f : List Byte} (hc : c.kind = 4) (hp : c.payload = k :: f)
    (hchip : c.room = 15 → ¬SpellsChipOrder k.toNat f) (hroom : c.room < 4 → ¬SpellsRoomOrder k.toNat f) :
    decodeBody c = none := by
  refine Option.eq_none_iff_forall_ne_some.mpr fun i h => ?_
  rw [decodeBody_order hc] at h
  unfold decodeOrder at h
  rw [hp] at h
  dsimp only at h
  split at h
  · exact hchip (by assumption) (decodeChipOrder_some h)
  · obtain ⟨r, hr, h⟩ := Option.bind_eq_some_iff.mp h
    exact hroom (roomOf_some hr) (decodeRoomOrder_some h)

theorem decodeBody_emptyOrder_none {c : RawCell} (hc : c.kind = 4) (hp : c.payload = []) : decodeBody c = none := by
  rw [decodeBody_order hc]
  unfold decodeOrder
  rw [hp]

/-! ### Appends -/

/-- Every APPEND that is decoded meets R170, section by section. -/
theorem decodeAppend_some {c : RawCell} {i : Instr} (h : decodeAppend c = some i) : SpellsAppend c := by
  unfold decodeAppend at h
  split at h
  · rename_i hfont
    obtain ⟨hroom, hsect⟩ := hfont
    exact .font hroom (List.getElem?_eq_some_iff.mp hsect).1 (fieldAt_of_getElem? hsect)
  split at h
  · cases h
  rename_i hlen
  have records {w : Nat} (hw : recordWidth (fieldAt c.payload 1 1) = w)
      (hd : (c.payload.drop 6).length = w * fieldAt c.payload 4 2)
      (hs : c.room = 15 ∧ fieldAt c.payload 1 1 = 5 ∨
        c.room < 4 ∧ 1 ≤ fieldAt c.payload 1 1 ∧ fieldAt c.payload 1 1 ≤ 3) : SpellsAppend c := by
    rw [List.length_drop] at hd
    exact .records hs (by omega) (by rw [hw]; omega)
  dsimp only at h
  split at h
  · rename_i hroom
    split at h
    · rename_i hs
      split at h
      · rename_i hd
        exact records (by rw [hs]; rfl) hd (.inl ⟨hroom, hs⟩)
      · cases h
    · cases h
  · obtain ⟨r, hr, h⟩ := Option.bind_eq_some_iff.mp h
    have hroom := roomOf_some hr
    split at h
    case h_4 => cases h
    all_goals
      rename_i hs
      split at h
      · rename_i hd
        exact records (by rw [hs]; rfl) hd (.inr ⟨hroom, by omega⟩)
      · cases h

theorem decodeBody_append_none {c : RawCell} (hc : c.kind = 3) (h : ¬SpellsAppend c) : decodeBody c = none := by
  refine Option.eq_none_iff_forall_ne_some.mpr fun i hi => h (decodeAppend_some (i := i) ?_)
  rwa [decodeBody_append hc] at hi

/-- R170: no order and no APPEND is addressed to a room 4 to 14, or 16 to 255 (log 13). -/
theorem decodeBody_otherRoom_none {c : RawCell} (hc : c.kind = 3 ∨ c.kind = 4) (hr : 4 ≤ c.room) (hne : c.room ≠ 15) :
    decodeBody c = none := by
  rcases hc with hc | hc
  · refine decodeBody_append_none hc ?_
    rintro (⟨hroom, _, _⟩ | ⟨hs, _, _⟩) <;> omega
  · cases hp : c.payload with
    | nil => exact decodeBody_emptyOrder_none hc hp
    | cons k f => exact decodeBody_order_none hc hp (absurd · hne) fun hroom => absurd hroom (Nat.not_lt.mpr hr)

/-- R184: a FONT append of any length goes to the Glyph Table, with the fields it reaches. -/
theorem decodeBody_font {c : RawCell} (hc : c.kind = 3) (hroom : c.room = 15) (hs : fieldAt c.payload 1 1 = 4) :
    decodeBody c = some (.appendFont c.tag
      (if 4 ≤ c.payload.length then some (fieldAt c.payload 2 2) else none)
      (if 6 ≤ c.payload.length then some (fieldAt c.payload 4 2) else none)
      (c.payload.drop (if 6 ≤ c.payload.length then 6 else if 4 ≤ c.payload.length then 4 else 2))) := by
  have hsect : c.payload[1]? = some 4 := getElem?_of_fieldAt (by decide) hs
  have hreach : 2 ≤ c.payload.length := (List.getElem?_eq_some_iff.mp hsect).1
  have h4 : 2 ≤ c.payload.length - 2 ↔ 4 ≤ c.payload.length := by omega
  have h6 : 4 ≤ c.payload.length - 2 ↔ 6 ≤ c.payload.length := by omega
  rw [decodeBody_append hc]
  unfold decodeAppend
  rw [if_pos ⟨hroom, hsect⟩]
  simp only [fontFields_eq, List.length_drop, fieldAt_drop, List.drop_drop, h4, h6, Nat.add_zero, Nat.reduceAdd]
  congr 2
  split
  · rfl
  · split <;> rfl

end Sys2Proof

namespace Sys2Proof.Machine

/-! ### The MALFORMED answer -/

theorem malformedCell_iff (bytes : List Byte) :
    malformedCell bytes = true ↔
      8 ≤ bytes.length ∧ fieldAt bytes 4 2 = bytes.length - 8 ∧ fieldAt bytes 4 2 ≤ 8192
        ∧ fieldAt bytes (bytes.length - 2) 2 = (crc16 (bytes.take (bytes.length - 2))).toNat
        ∧ (fieldAt bytes 0 1 = 3 ∨ fieldAt bytes 0 1 = 4) ∧ decodeBody (rawCell bytes) = none := by
  have hkind := RawCell.answered_iff (rawCell bytes)
  simp only [malformedCell, cellLengthOk, cellCrcOk, Bool.and_eq_true, decide_eq_true_eq, beq_iff_eq,
    Option.isNone_iff_eq_none, hkind, and_assoc]
  rfl

section
variable {bytes : List Byte} {s : State}

/-- R169, check 3, on a cell that spells no order. -/
theorem answerMalformed_awake (h : s.mode ≠ .stop ∨ (rawCell bytes).isSetMode = true) :
    ¬(s.mode = .stop ∧ (rawCell bytes).isSetMode = false) := by
  rintro ⟨hstop, hset⟩
  rcases h with h | h
  · exact h hstop
  · rw [hset] at h; cases h

/-- R170: the answer to a cell that spells no order. -/
theorem answerMalformed_taken (h : s.mode ≠ .stop ∨ (rawCell bytes).isSetMode = true) (hfree : s.replies.length < 16) :
    answerMalformed bytes s =
      State.sendIfIdle
        { s with
          link := { s.link with cellsIn := s.link.cellsIn + 1 }
          replies := s.replies ++ [malformedReply (rawCell bytes) s.freeDrawn]
          freeDrawn := s.freeDrawn + if (kindByteOf (rawCell bytes)).isSome then 0 else 1 } := by
  have hfull : ¬s.repliesFull = true := fun hf => absurd ((repliesFull_iff s).mp hf) (Nat.not_le.mpr hfree)
  unfold answerMalformed
  dsimp only
  rw [if_neg (answerMalformed_awake h), if_neg hfull]
  rfl

/-- R169, check 6, on a cell that spells no order. -/
theorem answerMalformed_lost (h : s.mode ≠ .stop ∨ (rawCell bytes).isSetMode = true) (hfull : 16 ≤ s.replies.length) :
    answerMalformed bytes s = s.countOrdersLost := by
  unfold answerMalformed
  dsimp only
  rw [if_neg (answerMalformed_awake h), if_pos ((repliesFull_iff s).mpr hfull)]

end

/-- 12.1: the header room of the answer is the cell's where a header may name it. -/
theorem malformedReply_room {c : RawCell} (h : c.room < 4 ∨ c.room = 15) (drawn : Nat) :
    (malformedReply c drawn).room = BitVec.ofNat 8 c.room := if_pos h

/-- 12.1: the kind of the answer is the cell's where the cell reaches it. -/
theorem malformedReply_kind {c : RawCell} {b : Byte} (h : kindByteOf c = some b) (drawn : Nat) :
    (malformedReply c drawn).kind = b := by
  simp [malformedReply, h]

theorem exec_unknownOrder {bytes : List Byte} (h : malformedCell bytes = true) (s : State) :
    exec (.unknownOrder bytes) s = .next (answerMalformed bytes s) := congrArg Host.Outcome.next (if_pos h)

/-- Settles O6: the answer, then the cells that spell no order, by the shape of those that spell one. -/
theorem malformedCellsAreAnswered : Obligations.MalformedCellsAreAnswered := by
  refine ⟨fun bytes s hmal hmode => ⟨fun hfree => ?_, fun hfull => ?_⟩, malformedCell_iff, fun c => ⟨?_, ?_, ?_, ?_⟩⟩
  · refine ⟨malformedReply (rawCell bytes) s.freeDrawn, _,
      (exec_unknownOrder hmal s).trans (congrArg Host.Outcome.next (answerMalformed_taken hmode hfree)),
      rfl, rfl, rfl, fun hroom => malformedReply_room hroom _, fun b hb => ⟨malformedReply_kind hb _, ?_⟩⟩
    simp [hb]
  · exact (exec_unknownOrder hmal s).trans (congrArg Host.Outcome.next (answerMalformed_lost hmode hfull))
  · exact decodeBody_otherRoom_none
  · exact decodeBody_emptyOrder_none
  · intro k fields hc hp
    have none_unless := decodeBody_order_none hc hp
    refine ⟨fun hk => none_unless (fun _ ho => ?_) (fun _ ho => ?_), fun hr hk => none_unless (fun _ ho => ?_) (by omega),
      fun hr hk hk' => none_unless (by omega) (fun _ ho => ?_),
      fun hlen => none_unless (fun _ ho => hlen ho.length) (fun _ ho => hlen ho.length),
      fun x y hk hf hx => none_unless (fun _ ho => ?_) (fun _ ho => ?_),
      fun p v hf => ⟨fun hk hn => none_unless (fun _ ho => ?_) (fun _ ho => ?_),
        fun hk hn => none_unless (fun _ ho => ?_) (fun _ ho => ?_)⟩⟩
    iterate 4 · have := ho.kind; omega
    · have := ho.read x y hk hf; omega
    · have := ho.read x y hk hf; omega
    · have := ho.param p v hk hf; omega
    · have := ho.kind; omega
    · have := ho.kind; omega
    · have := ho.param p v hk hf; omega
  · intro hc
    have none_unless := decodeBody_append_none hc
    refine ⟨fun h => none_unless ?_, fun hr hs => none_unless ?_, fun hr hs => none_unless ?_,
      fun w hw h => none_unless ?_, decodeBody_font hc⟩
    · rintro (⟨_, _, hs⟩ | ⟨hs, _, _⟩) <;> omega
    · rintro (⟨_, _, hs⟩ | ⟨hs, _, _⟩) <;> omega
    · rintro (⟨_, _, hs⟩ | ⟨hs, _, _⟩) <;> omega
    · obtain ⟨hs4, hwidth⟩ := recordWidth_of_mem hw
      rintro (⟨_, _, hs⟩ | ⟨_, hreach, hlen⟩)
      · exact hs4 hs
      · rw [hwidth] at hlen
        rcases h with h | h
        · omega
        · exact h hlen

end Sys2Proof.Machine
end

section
/-! PROOFS. The cell of a command decodes to that command (O9): the numbers that a run of bytes spells, the frame of a
cell, its records, and the orders one by one. -/

namespace Sys2Proof

/-! ### The bytes of a number -/

@[simp] theorem beBytes_length (w n : Nat) : (beBytes w n).length = w := by
  induction w with
  | zero => rfl
  | succ w ih => exact congrArg Nat.succ ih

theorem beNat_concat (bs : List Byte) (b : Byte) : beNat (bs ++ [b]) = beNat bs * 256 + b.toNat := by
  unfold beNat
  rw [List.foldl_append]
  rfl

/-- The bytes of a number are those of its higher part, then its last byte. -/
theorem beBytes_succ (w n : Nat) : beBytes (w + 1) n = beBytes w (n / 256) ++ [BitVec.ofNat 8 n] := by
  induction w with
  | zero => simp [beBytes]
  | succ w ih =>
    rw [beBytes, ih, beBytes, Nat.div_div_eq_div_mul, Nat.pow_succ']
    rfl

/-- A number that fits `w` bytes is read back from them. -/
theorem beNat_beBytes {w n : Nat} (h : n < 256 ^ w) : beNat (beBytes w n) = n := by
  induction w generalizing n with
  | zero => exact (Nat.lt_one_iff.mp h).symm
  | succ w ih =>
    have hhigh : n / 256 < 256 ^ w := Nat.div_lt_of_lt_mul (Nat.pow_succ' ▸ h)
    rw [beBytes_succ, beNat_concat, ih hhigh, BitVec.toNat_ofNat]
    omega

theorem beNat_byte (b : Byte) : beNat [b] = b.toNat := Nat.zero_add _

theorem beNat_lt (bs : List Byte) : beNat bs < 256 ^ bs.length := by
  induction bs using List.reverseRecOn with
  | nil => exact Nat.one_pos
  | append_singleton bs b ih =>
    have := b.isLt
    rw [beNat_concat, List.length_append, List.length_singleton, Nat.pow_succ]
    omega

/-- Any bytes are those of the number they spell. -/
theorem beBytes_beNat (bs : List Byte) : beBytes bs.length (beNat bs) = bs := by
  induction bs using List.reverseRecOn with
  | nil => rfl
  | append_singleton bs b ih =>
    have hdiv : (beNat bs * 256 + b.toNat) / 256 = beNat bs := by
      have := b.isLt
      omega
    have hlast : BitVec.ofNat 8 (beNat bs * 256 + b.toNat) = b := by
      refine BitVec.eq_of_toNat_eq ?_
      rw [BitVec.toNat_ofNat, Nat.mul_add_mod_self_right]
      exact Nat.mod_eq_of_lt b.isLt
    rw [List.length_append, List.length_singleton, beBytes_succ, beNat_concat, hdiv, hlast, ih]

/-! A number that fits its field, as the bytes of the field. -/

theorem exists_byte {n : Nat} (h : n < 256) : ∃ b : Byte, n = b.toNat :=
  ⟨BitVec.ofNat 8 n, (BitVec.toNat_ofNat ..).trans (Nat.mod_eq_of_lt h) |>.symm⟩

theorem exists_bytes {w n : Nat} (h : n < 256 ^ w) : ∃ bs : List Byte, bs.length = w ∧ n = beNat bs :=
  ⟨beBytes w n, beBytes_length w n, (beNat_beBytes h).symm⟩

theorem exists_two_bytes {n : Nat} (h : n < 65536) : ∃ a b : Byte, n = beNat [a, b] := by
  obtain ⟨bs, hlen, rfl⟩ := exists_bytes (w := 2) h
  obtain ⟨a, b, rfl⟩ := List.length_eq_two.mp hlen
  exact ⟨a, b, rfl⟩

theorem exists_three_bytes {n : Nat} (h : n < 16777216) : ∃ a b c : Byte, n = beNat [a, b, c] := by
  obtain ⟨bs, hlen, rfl⟩ := exists_bytes (w := 3) h
  obtain ⟨a, b, c, rfl⟩ := List.length_eq_three.mp hlen
  exact ⟨a, b, c, rfl⟩

theorem exists_four_bytes {n : Nat} (h : n < 4294967296) : ∃ a b c d : Byte, n = beNat [a, b, c, d] := by
  obtain ⟨bs, hlen, rfl⟩ := exists_bytes (w := 4) h
  obtain ⟨a, b, c, d, rfl⟩ := List.length_eq_four.mp hlen
  exact ⟨a, b, c, d, rfl⟩

@[simp] theorem beBytes_byte (b : Byte) : beBytes 1 b.toNat = [b] := beNat_byte b ▸ beBytes_beNat [b]
@[simp] theorem beBytes_two (a b : Byte) : beBytes 2 (beNat [a, b]) = [a, b] := beBytes_beNat [a, b]
@[simp] theorem beBytes_three (a b c : Byte) : beBytes 3 (beNat [a, b, c]) = [a, b, c] := beBytes_beNat [a, b, c]
@[simp] theorem beBytes_four (a b c d : Byte) : beBytes 4 (beNat [a, b, c, d]) = [a, b, c, d] :=
  beBytes_beNat [a, b, c, d]

/-! ### The frame of a cell (R168, R169) -/

/-- The header and the payload of a cell fit their fields, and its payload is within 8192 bytes (R169). -/
structure RawCell.Fits (c : RawCell) : Prop where
  kind : c.kind < 256
  room : c.room < 256
  tag : c.tag < 256
  flags : c.flags < 256
  payload : c.payload.length ≤ 8192

/-- The bytes of a cell, field by field. -/
theorem exists_cellBytes {c : RawCell} (h : c.Fits) :
    ∃ k r t f l0 l1 c0 c1 : Byte,
      c = ⟨k.toNat, r.toNat, t.toNat, f.toNat, c.payload⟩ ∧ beNat [l0, l1] = c.payload.length
        ∧ beNat [c0, c1] = (crc16 (k :: r :: t :: f :: l0 :: l1 :: c.payload)).toNat
        ∧ cellBytes c.kind c.room c.tag c.flags c.payload
          = (k :: r :: t :: f :: l0 :: l1 :: c.payload) ++ [c0, c1] := by
  obtain ⟨kind, room, tag, flags, payload⟩ := c
  obtain ⟨hkind, hroom, htag, hflags, hpayload⟩ := h
  obtain ⟨k, rfl⟩ := exists_byte hkind
  obtain ⟨r, rfl⟩ := exists_byte hroom
  obtain ⟨t, rfl⟩ := exists_byte htag
  obtain ⟨f, rfl⟩ := exists_byte hflags
  obtain ⟨l0, l1, hl⟩ := exists_two_bytes (n := payload.length) (by dsimp only at hpayload; omega)
  obtain ⟨c0, c1, hc⟩ := exists_two_bytes (crc16 (k :: r :: t :: f :: l0 :: l1 :: payload)).isLt
  refine ⟨k, r, t, f, l0, l1, c0, c1, rfl, hl.symm, hc.symm, ?_⟩
  unfold cellBytes
  simp only [hl, beBytes_byte, beBytes_two, List.cons_append, List.nil_append, hc]

/-- A cell passes checks 1 and 2 of R169, and its fields are read back. -/
theorem cellBytes_received {c : RawCell} (h : c.Fits) :
    cellLengthOk (cellBytes c.kind c.room c.tag c.flags c.payload) = true
      ∧ cellCrcOk (cellBytes c.kind c.room c.tag c.flags c.payload) = true
      ∧ rawCell (cellBytes c.kind c.room c.tag c.flags c.payload) = c := by
  obtain ⟨k, r, t, f, l0, l1, c0, c1, hcell, hlen, hcrc, hbytes⟩ := exists_cellBytes h
  have hlast : c.payload.length + 8 - 2 = (k :: r :: t :: f :: l0 :: l1 :: c.payload).length := rfl
  have hsize : ((k :: r :: t :: f :: l0 :: l1 :: c.payload) ++ [c0, c1]).length = c.payload.length + 8 := by
    rw [List.length_append, ← hlast]; rfl
  have hlength : fieldAt ((k :: r :: t :: f :: l0 :: l1 :: c.payload) ++ [c0, c1]) 4 2 = c.payload.length := hlen
  rw [hbytes]
  refine ⟨?_, ?_, ?_⟩
  · have := h.payload
    simp only [cellLengthOk, hsize, hlength, Bool.and_eq_true, decide_eq_true_eq, beq_iff_eq]
    omega
  · rw [cellCrcOk, hsize, hlast, List.take_left, beq_iff_eq, ← hcrc]
    unfold fieldAt
    rw [List.drop_left]
    rfl
  · have hpayload : (((k :: r :: t :: f :: l0 :: l1 :: c.payload) ++ [c0, c1]).drop 6).take c.payload.length
        = c.payload := List.take_left
    rw [rawCell, hsize, Nat.add_sub_cancel, hpayload, hcell]
    simp only [RawCell.mk.injEq, and_true]
    exact ⟨beNat_byte k, beNat_byte r, beNat_byte t, beNat_byte f⟩

/-- A cell that passes checks 4 and 5 of R169 decodes to the command that its body spells. -/
theorem decodeCell_cellBytes {kind room tag flags : Nat} {payload : List Byte} {i : Instr}
    (h : RawCell.Fits ⟨kind, room, tag, flags, payload⟩)
    (hkind : RawCell.kindOk ⟨kind, room, tag, flags, payload⟩ = true)
    (hmedia : RawCell.mediaOk ⟨kind, room, tag, flags, payload⟩ = true)
    (hbody : decodeBody ⟨kind, room, tag, flags, payload⟩ = some i) :
    decodeCell (cellBytes kind room tag flags payload) = i := by
  obtain ⟨hlen, hcrc, hraw⟩ := cellBytes_received h
  unfold decodeCell
  rw [hlen, hcrc, hraw, hkind, hmedia, hbody]
  rfl

/-! ### Records (12.3) -/

section
variable {α : Type} {w : Nat} {bytes : α → List Byte} {xs : List α}

theorem flatMap_length_of_width (h : ∀ x ∈ xs, (bytes x).length = w) : (xs.flatMap bytes).length = w * xs.length := by
  induction xs with
  | nil => rfl
  | cons x xs ih =>
    obtain ⟨hx, hxs⟩ := List.forall_mem_cons.mp h
    rw [List.flatMap_cons, List.length_append, hx, ih hxs, List.length_cons, Nat.mul_succ, Nat.add_comm]

/-- Records of one width that are each read back from their bytes are read back from all their bytes. -/
theorem parseRecords_flatMap {read : List Byte → α} (hw : ∀ x ∈ xs, (bytes x).length = w)
    (hread : ∀ x ∈ xs, read (bytes x) = x) : parseRecords w read xs.length (xs.flatMap bytes) = xs := by
  induction xs with
  | nil => rfl
  | cons x xs ih =>
    obtain ⟨hx, hxs⟩ := List.forall_mem_cons.mp hw
    obtain ⟨hr, hrs⟩ := List.forall_mem_cons.mp hread
    rw [List.flatMap_cons, List.length_cons, parseRecords, List.take_left' hx, List.drop_left' hx, hr, ih hxs hrs]

end

theorem readPixel_bytes (p : Rgb) : readPixel p.bytes = p := rfl

theorem sampleBytes_spelled (x : Sample) :
    ∃ a b : Byte, sampleBytes x = [a, b] ∧ BitVec.ofNat 16 (beNat [a, b]) = x := by
  obtain ⟨a, b, h⟩ := exists_two_bytes x.isLt
  refine ⟨a, b, ?_, ?_⟩
  · rw [sampleBytes, h, beBytes_two]
  · rw [← h, BitVec.ofNat_toNat, BitVec.setWidth_eq]

theorem Stereo.bytes_length (x : Stereo) : x.bytes.length = 4 := by
  simp [Stereo.bytes, sampleBytes]

theorem readStereo_bytes (x : Stereo) : readStereo x.bytes = x := by
  obtain ⟨left, right⟩ := x
  obtain ⟨a, b, hleft, hl⟩ := sampleBytes_spelled left
  obtain ⟨c, d, hright, hr⟩ := sampleBytes_spelled right
  calc
    readStereo (Stereo.bytes ⟨left, right⟩) = ⟨BitVec.ofNat 16 (beNat [a, b]), BitVec.ofNat 16 (beNat [c, d])⟩ := by
      rw [Stereo.bytes, hleft, hright]; rfl
    _ = ⟨left, right⟩ := by rw [hl, hr]

/-- A control byte holds a number below 128 and a flag in bit 7. -/
theorem control_lt {n : Nat} (hn : n < 128) (flag : Bool) : (n + if flag then 128 else 0) < 256 := by
  split <;> omega

theorem control_flag {n : Nat} (hn : n < 128) (flag : Bool) :
    ((n + if flag then 128 else 0) / 128 % 2 == 1) = flag := by
  cases flag with
  | true => rw [beq_iff_eq, if_pos rfl]; omega
  | false => rw [beq_eq_false_iff_ne]; simp; omega

theorem control_number {n m : Nat} (hm : m ∣ 128) (hn : n < m) (flag : Bool) :
    (n + if flag then 128 else 0) % m = n := by
  obtain ⟨k, hk⟩ := hm
  split
  · rw [hk, Nat.add_mul_mod_self_left, Nat.mod_eq_of_lt hn]
  · exact Nat.mod_eq_of_lt hn

theorem LineRec.bytes_length (x : LineRec) : x.bytes.length = 4 := by
  simp [LineRec.bytes]

theorem readLine_bytes {x : LineRec} (h : x.fits = true) : readLine x.bytes = x := by
  obtain ⟨firstSyllable, syllableCount, part, last⟩ := x
  simp only [LineRec.fits, Bool.and_eq_true, decide_eq_true_eq] at h
  obtain ⟨⟨hfirst, hcount⟩, hpart⟩ := h
  have hpart' : part < 128 := by omega
  obtain ⟨f0, f1, rfl⟩ := exists_two_bytes hfirst
  obtain ⟨n, rfl⟩ := exists_byte hcount
  obtain ⟨c, hc⟩ := exists_byte (control_lt hpart' last)
  calc
    readLine (LineRec.bytes ⟨beNat [f0, f1], n.toNat, part, last⟩)
        = ⟨beNat [f0, f1], beNat [n], beNat [c] % 4, beNat [c] / 128 % 2 == 1⟩ := by
      simp only [LineRec.bytes, hc, beBytes_two, beBytes_byte]; rfl
    _ = ⟨beNat [f0, f1], n.toNat, part, last⟩ := by
      rw [beNat_byte, beNat_byte, ← hc, control_flag hpart', control_number (by decide) hpart]

theorem GuideRec.bytes_length (x : GuideRec) : x.bytes.length = 7 := by
  simp [GuideRec.bytes]

theorem readGuide_bytes {x : GuideRec} (h : x.fits = true) : readGuide x.bytes = x := by
  obtain ⟨start, duration, note, part⟩ := x
  simp only [GuideRec.fits, Bool.and_eq_true, decide_eq_true_eq] at h
  obtain ⟨⟨⟨hstart, hduration⟩, hnote⟩, hpart⟩ := h
  obtain ⟨s0, s1, s2, rfl⟩ := exists_three_bytes hstart
  obtain ⟨d0, d1, rfl⟩ := exists_two_bytes hduration
  obtain ⟨n, rfl⟩ := exists_byte hnote
  obtain ⟨p, rfl⟩ := exists_byte hpart
  calc
    readGuide (GuideRec.bytes ⟨beNat [s0, s1, s2], beNat [d0, d1], n.toNat, p.toNat⟩)
        = ⟨beNat [s0, s1, s2], beNat [d0, d1], beNat [n], beNat [p]⟩ := by
      simp only [GuideRec.bytes, beBytes_three, beBytes_two, beBytes_byte]; rfl
    _ = ⟨beNat [s0, s1, s2], beNat [d0, d1], n.toNat, p.toNat⟩ := by rw [beNat_byte, beNat_byte]

theorem parseRecords_words {xs : List Nat} (h : ∀ x ∈ xs, x < 65536) :
    parseRecords 2 beNat xs.length (xs.flatMap (beBytes 2)) = xs :=
  parseRecords_flatMap (fun _ _ => beBytes_length 2 _) fun x hx => beNat_beBytes (h x hx)

theorem words_length (xs : List Nat) : (xs.flatMap (beBytes 2)).length = 2 * xs.length :=
  flatMap_length_of_width fun _ _ => beBytes_length 2 _

theorem SyllableRec.bytes_length {x : SyllableRec} (h : x.fits = true) : x.bytes.length = 22 := by
  simp only [SyllableRec.fits, Bool.and_eq_true, beq_iff_eq] at h
  obtain ⟨⟨_, hcodes⟩, _⟩ := h
  simp only [SyllableRec.bytes, List.length_append, beBytes_length, words_length, hcodes]

theorem readSyllable_bytes {x : SyllableRec} (h : x.fits = true) : readSyllable x.bytes = x := by
  obtain ⟨start, duration, glyphCount, trailingSpace, codes⟩ := x
  simp only [SyllableRec.fits, Bool.and_eq_true, decide_eq_true_eq, beq_iff_eq, List.all_eq_true] at h
  obtain ⟨⟨⟨⟨hstart, hduration⟩, hcount⟩, hlen⟩, hcodes⟩ := h
  have hcount' : glyphCount < 128 := by omega
  obtain ⟨s0, s1, s2, rfl⟩ := exists_three_bytes hstart
  obtain ⟨d0, d1, rfl⟩ := exists_two_bytes hduration
  obtain ⟨c, hc⟩ := exists_byte (control_lt hcount' trailingSpace)
  calc
    readSyllable (SyllableRec.bytes ⟨beNat [s0, s1, s2], beNat [d0, d1], glyphCount, trailingSpace, codes⟩)
        = ⟨beNat [s0, s1, s2], beNat [d0, d1], beNat [c] % 16, beNat [c] / 128 % 2 == 1,
            parseRecords 2 beNat 8 (codes.flatMap (beBytes 2))⟩ := by
      simp only [SyllableRec.bytes, hc, beBytes_three, beBytes_two, beBytes_byte]; rfl
    _ = ⟨beNat [s0, s1, s2], beNat [d0, d1], glyphCount, trailingSpace, codes⟩ := by
      rw [beNat_byte, ← hc, control_flag hcount', control_number (by decide) hcount, ← hlen, parseRecords_words hcodes]

/-! ### The value field of a room parameter (12.2) -/

theorem RoomSetting.number_lt (x : RoomSetting) : x.field.1 < 256 := by
  cases x <;> simp [RoomSetting.field]

theorem RoomSetting.valueField_length (x : RoomSetting) : x.valueField.length = 18 := by
  have hused : x.field.2.length ≤ 18 := by cases x <;> simp [RoomSetting.field, Rgb.bytes]
  simp only [RoomSetting.valueField, List.length_append, List.length_replicate]
  omega

/-- A setting is read back from its number and its value field. -/
theorem readSetting_valueField {x : RoomSetting} (h : x.fits = true) : readSetting x.field.1 x.valueField = some x := by
  cases x with
  | palette p => rfl
  | micAssign mic assign =>
    simp only [RoomSetting.fits, Bool.and_eq_true, decide_eq_true_eq] at h
    obtain ⟨m, rfl⟩ := exists_byte h.1
    obtain ⟨a, rfl⟩ := exists_byte h.2
    simp only [RoomSetting.valueField, RoomSetting.field, beBytes_byte]
    exact congrArg₂ (fun m a => some (RoomSetting.micAssign m a)) (beNat_byte m) (beNat_byte a)
  | band x w | marks x w =>
    simp only [RoomSetting.fits, Bool.and_eq_true, decide_eq_true_eq] at h
    obtain ⟨x0, x1, rfl⟩ := exists_two_bytes h.1
    obtain ⟨w0, w1, rfl⟩ := exists_two_bytes h.2
    simp only [RoomSetting.valueField, RoomSetting.field, beBytes_two]
    rfl
  | roomEnable v | bandY v | rows v | rowGap v | lineOverflow v | advanceLead v | scrollTicks v | compMode v
  | compOffset v | voiceThreshold v | hysteresis v | tolerance v | octaveFold v | panelStopPermit v | duplicates v
  | calQ v | calAmplitude v | calCycles v | calThreshold v | calMic v =>
    obtain ⟨v0, v1, rfl⟩ := exists_two_bytes (of_decide_eq_true h)
    simp only [RoomSetting.valueField, RoomSetting.field, beBytes_two]
    rfl

/-! ### Cells by kind -/

theorem roomOf_val (r : RoomId) : roomOf r.val = some r := dif_pos r.isLt

theorem room_lt_byte (r : RoomId) : r.val < 256 := r.isLt.trans (by decide)

theorem room_ne_chip (r : RoomId) : r.val ≠ 15 := fun h => absurd (h ▸ r.isLt) (by decide)

theorem decodeCell_append {room tag : Nat} {payload : List Byte} {i : Instr} (hroom : room < 256) (htag : tag < 256)
    (hlen : payload.length ≤ 8192) (h : decodeAppend ⟨3, room, tag, 0, payload⟩ = some i) :
    decodeCell (cellBytes 3 room tag 0 payload) = i :=
  decodeCell_cellBytes ⟨by simp, hroom, htag, by simp, hlen⟩ rfl rfl h

theorem decodeCell_order {room tag : Nat} {k : Byte} {f : List Byte} {i : Instr} (hroom : room < 256) (htag : tag < 256)
    (hlen : f.length < 8192) (h : decodeOrder ⟨4, room, tag, 0, k :: f⟩ = some i) :
    decodeCell (orderCell room tag k.toNat f) = i := by
  unfold orderCell
  rw [beBytes_byte]
  exact decodeCell_cellBytes ⟨by simp, hroom, htag, by simp, hlen⟩ rfl rfl h

theorem orderLength_lt (k : Nat) : orderLength k < 8192 := by
  unfold orderLength
  split <;> decide

theorem decodeCell_chipOrder {tag kind : Nat} {f : List Byte} {i : Instr} (htag : tag < 256)
    (h : decodeChipOrder tag kind f = some i) : decodeCell (orderCell 15 tag kind f) = i := by
  have hspells := decodeChipOrder_some h
  obtain ⟨k, rfl⟩ := exists_byte (n := kind) (by have := hspells.kind; omega)
  refine decodeCell_order (by decide) htag (hspells.length ▸ orderLength_lt _) ?_
  unfold decodeOrder
  exact (if_pos rfl).trans h

theorem decodeCell_roomOrder {r : RoomId} {tag kind : Nat} {f : List Byte} {i : Instr} (htag : tag < 256)
    (h : decodeRoomOrder r tag kind f = some i) : decodeCell (orderCell r.val tag kind f) = i := by
  have hspells := decodeRoomOrder_some h
  obtain ⟨k, rfl⟩ := exists_byte (n := kind) (by have := hspells.kind; omega)
  refine decodeCell_order (room_lt_byte r) htag (hspells.length ▸ orderLength_lt _) ?_
  unfold decodeOrder
  dsimp only
  rw [if_neg (room_ne_chip r), roomOf_val]
  exact h

/-! ### VIDEO and AUDIO -/

theorem decodeBody_video (r : RoomId) (flags : Nat) (payload : List Byte) :
    decodeBody ⟨1, r.val, 0, flags, payload⟩ = some (.video r (fieldAt payload 0 2) (flags % 2 == 1)
      (parseRecords 3 readPixel (fieldAt payload 2 2) (payload.drop 4))) := by
  show (roomOf r.val).map _ = _
  rw [roomOf_val]
  rfl

theorem decodeBody_audio (r : RoomId) (flags : Nat) (payload : List Byte) :
    decodeBody ⟨2, r.val, 0, flags, payload⟩ = some (.audio r (flags / 2 % 2 == 1)
      (parseRecords 4 readStereo (fieldAt payload 0 2) (payload.drop 2))) := by
  show (roomOf r.val).map _ = _
  rw [roomOf_val]
  rfl

theorem decodeCell_video (r : RoomId) {line : Nat} (frameStart : Bool) {pixels : List Rgb} (hline : line < 65536)
    (hsize : 4 + 3 * pixels.length ≤ 8192) :
    decodeCell (cellBytes 1 r.val 0 (if frameStart then 1 else 0)
      (beBytes 2 line ++ beBytes 2 pixels.length ++ pixels.flatMap Rgb.bytes)) = .video r line frameStart pixels := by
  have hrecords : (pixels.flatMap Rgb.bytes).length = 3 * pixels.length := flatMap_length_of_width fun _ _ => rfl
  have hparsed : parseRecords 3 readPixel pixels.length (pixels.flatMap Rgb.bytes) = pixels :=
    parseRecords_flatMap (fun _ _ => rfl) fun p _ => readPixel_bytes p
  have hflag : ((if frameStart then 1 else 0) % 2 == 1) = frameStart := by cases frameStart <;> rfl
  obtain ⟨y0, y1, rfl⟩ := exists_two_bytes hline
  obtain ⟨n0, n1, hn⟩ := exists_two_bytes (n := pixels.length) (by omega)
  have hcount : fieldAt (y0 :: y1 :: n0 :: n1 :: pixels.flatMap Rgb.bytes) 2 2 = pixels.length := hn.symm
  have hlength : (y0 :: y1 :: n0 :: n1 :: pixels.flatMap Rgb.bytes).length = 4 + 3 * pixels.length := by
    simp only [List.length_cons, hrecords]; omega
  have hpayload : beBytes 2 (beNat [y0, y1]) ++ beBytes 2 pixels.length ++ pixels.flatMap Rgb.bytes
      = y0 :: y1 :: n0 :: n1 :: pixels.flatMap Rgb.bytes := by rw [hn, beBytes_two, beBytes_two]; rfl
  rw [hpayload]
  refine decodeCell_cellBytes ⟨by simp, room_lt_byte r, by simp, ?_, hlength ▸ hsize⟩ rfl ?_ ?_
  · dsimp only; split <;> decide
  · simp [RawCell.mediaOk, hcount, hlength, -List.length_cons]
  · rw [decodeBody_video, hcount, hflag]
    exact congrArg (fun ps => some (Instr.video r (beNat [y0, y1]) frameStart ps)) hparsed

theorem decodeCell_audio (r : RoomId) (endFlag : Bool) {samples : List Stereo} (hsize : 2 + 4 * samples.length ≤ 8192) :
    decodeCell (cellBytes 2 r.val 0 (if endFlag then 2 else 0)
      (beBytes 2 samples.length ++ samples.flatMap Stereo.bytes)) = .audio r endFlag samples := by
  have hrecords : (samples.flatMap Stereo.bytes).length = 4 * samples.length :=
    flatMap_length_of_width fun x _ => x.bytes_length
  have hparsed : parseRecords 4 readStereo samples.length (samples.flatMap Stereo.bytes) = samples :=
    parseRecords_flatMap (fun x _ => x.bytes_length) fun x _ => readStereo_bytes x
  have hflag : ((if endFlag then 2 else 0) / 2 % 2 == 1) = endFlag := by cases endFlag <;> rfl
  obtain ⟨n0, n1, hn⟩ := exists_two_bytes (n := samples.length) (by omega)
  have hcount : fieldAt (n0 :: n1 :: samples.flatMap Stereo.bytes) 0 2 = samples.length := hn.symm
  have hlength : (n0 :: n1 :: samples.flatMap Stereo.bytes).length = 2 + 4 * samples.length := by
    simp only [List.length_cons, hrecords]; omega
  have hpayload : beBytes 2 samples.length ++ samples.flatMap Stereo.bytes
      = n0 :: n1 :: samples.flatMap Stereo.bytes := by
    rw [hn, beBytes_two]; rfl
  rw [hpayload]
  refine decodeCell_cellBytes ⟨by simp, room_lt_byte r, by simp, ?_, hlength ▸ hsize⟩ rfl ?_ ?_
  · dsimp only; split <;> decide
  · simp [RawCell.mediaOk, hcount, hlength, -List.length_cons]
  · rw [decodeBody_audio, hcount, hflag]
    exact congrArg (fun xs => some (Instr.audio r endFlag xs)) hparsed

/-! ### APPEND -/

/-- The command of an APPEND to a bank of room `r`, by its section (12.3). -/
def roomAppendOf (r : RoomId) (tag bank first count : Nat) (data : List Byte) : Nat → Option Instr
  | 1 => if data.length = 4 * count then
      some (.appendLines r tag bank first (parseRecords 4 readLine count data)) else none
  | 2 => if data.length = 22 * count then
      some (.appendSyllables r tag bank first (parseRecords 22 readSyllable count data)) else none
  | 3 => if data.length = 7 * count then
      some (.appendGuide r tag bank first (parseRecords 7 readGuide count data)) else none
  | _ => none

theorem decodeAppend_room (r : RoomId) (tag : Nat) {payload : List Byte} (h : 6 ≤ payload.length) :
    decodeAppend ⟨3, r.val, tag, 0, payload⟩ = roomAppendOf r tag (fieldAt payload 0 1) (fieldAt payload 2 2)
      (fieldAt payload 4 2) (payload.drop 6) (fieldAt payload 1 1) := by
  unfold decodeAppend
  rw [if_neg fun hfont => room_ne_chip r hfont.1, if_neg (Nat.not_lt.mpr h)]
  dsimp only
  rw [if_neg (room_ne_chip r), roomOf_val]
  rfl

section
variable {r : RoomId} {tag bank sect first count : Nat} {records : List Byte} {i : Instr}

/-- The payload of an APPEND, byte by byte. -/
theorem exists_appendPayload (hbank : bank < 256) (hsect : sect < 256) (hfirst : first < 65536)
    (hcount : count < 65536) :
    ∃ b s f0 f1 n0 n1 : Byte, b.toNat = bank ∧ s.toNat = sect ∧ beNat [f0, f1] = first ∧ beNat [n0, n1] = count
      ∧ beBytes 1 bank ++ beBytes 1 sect ++ beBytes 2 first ++ beBytes 2 count ++ records
        = b :: s :: f0 :: f1 :: n0 :: n1 :: records := by
  obtain ⟨b, rfl⟩ := exists_byte hbank
  obtain ⟨s, rfl⟩ := exists_byte hsect
  obtain ⟨f0, f1, rfl⟩ := exists_two_bytes hfirst
  obtain ⟨n0, n1, rfl⟩ := exists_two_bytes hcount
  refine ⟨b, s, f0, f1, n0, n1, rfl, rfl, rfl, rfl, ?_⟩
  rw [beBytes_byte, beBytes_byte, beBytes_two, beBytes_two]
  rfl

theorem decodeCell_roomAppend (htag : tag < 256) (hbank : bank < 256) (hsect : sect < 256) (hfirst : first < 65536)
    (hcount : count < 65536) (hsize : 6 + records.length ≤ 8192)
    (h : roomAppendOf r tag bank first count records sect = some i) :
    decodeCell (appendCell r.val tag bank sect first count records) = i := by
  obtain ⟨b, s, f0, f1, n0, n1, rfl, rfl, rfl, rfl, hpayload⟩ :=
    exists_appendPayload (records := records) hbank hsect hfirst hcount
  have hlength : (b :: s :: f0 :: f1 :: n0 :: n1 :: records).length = 6 + records.length := Nat.add_comm _ 6
  rw [appendCell, hpayload]
  refine decodeCell_append (room_lt_byte r) htag (hlength ▸ hsize) ?_
  rw [decodeAppend_room r tag (hlength ▸ Nat.le_add_right ..), ← h, ← beNat_byte b, ← beNat_byte s]
  rfl

theorem decodeCell_appendLines {recs : List LineRec} (htag : tag < 256) (hbank : bank < 256) (hfirst : first < 65536)
    (hrecs : ∀ x ∈ recs, x.fits = true) (hsize : 6 + 4 * recs.length ≤ 8192) :
    decodeCell (appendCell r.val tag bank 1 first recs.length (recs.flatMap LineRec.bytes))
      = .appendLines r tag bank first recs := by
  have hlength : (recs.flatMap LineRec.bytes).length = 4 * recs.length :=
    flatMap_length_of_width fun x _ => x.bytes_length
  refine decodeCell_roomAppend htag hbank (by decide) hfirst (by omega) (hlength ▸ hsize) ((if_pos hlength).trans ?_)
  rw [parseRecords_flatMap (fun x _ => x.bytes_length) fun x hx => readLine_bytes (hrecs x hx)]

theorem decodeCell_appendSyllables {recs : List SyllableRec} (htag : tag < 256) (hbank : bank < 256)
    (hfirst : first < 65536) (hrecs : ∀ x ∈ recs, x.fits = true) (hsize : 6 + 22 * recs.length ≤ 8192) :
    decodeCell (appendCell r.val tag bank 2 first recs.length (recs.flatMap SyllableRec.bytes))
      = .appendSyllables r tag bank first recs := by
  have hwidth : ∀ x ∈ recs, x.bytes.length = 22 := fun x hx => SyllableRec.bytes_length (hrecs x hx)
  have hlength : (recs.flatMap SyllableRec.bytes).length = 22 * recs.length := flatMap_length_of_width hwidth
  refine decodeCell_roomAppend htag hbank (by decide) hfirst (by omega) (hlength ▸ hsize) ((if_pos hlength).trans ?_)
  rw [parseRecords_flatMap hwidth fun x hx => readSyllable_bytes (hrecs x hx)]

theorem decodeCell_appendGuide {recs : List GuideRec} (htag : tag < 256) (hbank : bank < 256) (hfirst : first < 65536)
    (hrecs : ∀ x ∈ recs, x.fits = true) (hsize : 6 + 7 * recs.length ≤ 8192) :
    decodeCell (appendCell r.val tag bank 3 first recs.length (recs.flatMap GuideRec.bytes))
      = .appendGuide r tag bank first recs := by
  have hlength : (recs.flatMap GuideRec.bytes).length = 7 * recs.length :=
    flatMap_length_of_width fun x _ => x.bytes_length
  refine decodeCell_roomAppend htag hbank (by decide) hfirst (by omega) (hlength ▸ hsize) ((if_pos hlength).trans ?_)
  rw [parseRecords_flatMap (fun x _ => x.bytes_length) fun x hx => readGuide_bytes (hrecs x hx)]

theorem decodeCell_appendLadder {bounds : List Nat} (htag : tag < 256) (hfirst : first < 65536)
    (hbounds : ∀ x ∈ bounds, x < 65536) (hsize : 6 + 2 * bounds.length ≤ 8192) :
    decodeCell (appendCell 15 tag 0 5 first bounds.length (bounds.flatMap (beBytes 2)))
      = .appendLadder tag first bounds := by
  obtain ⟨f0, f1, rfl⟩ := exists_two_bytes hfirst
  obtain ⟨n0, n1, hn⟩ := exists_two_bytes (n := bounds.length) (by omega)
  have hlength : (0 :: 5 :: f0 :: f1 :: n0 :: n1 :: bounds.flatMap (beBytes 2)).length = 6 + 2 * bounds.length := by
    rw [← words_length bounds, Nat.add_comm]; rfl
  have hpayload : beBytes 1 0 ++ beBytes 1 5 ++ beBytes 2 (beNat [f0, f1]) ++ beBytes 2 bounds.length
      ++ bounds.flatMap (beBytes 2) = 0 :: 5 :: f0 :: f1 :: n0 :: n1 :: bounds.flatMap (beBytes 2) := by
    rw [hn, beBytes_two, beBytes_two]; rfl
  have hcount : fieldAt (0 :: 5 :: f0 :: f1 :: n0 :: n1 :: bounds.flatMap (beBytes 2)) 4 2 = bounds.length := hn.symm
  rw [appendCell, hpayload]
  refine decodeCell_append (by decide) htag (hlength ▸ hsize) ?_
  unfold decodeAppend
  rw [if_neg (by simp), if_neg (by rw [hlength]; omega)]
  dsimp only
  rw [if_pos rfl, hcount]
  refine (if_pos (words_length bounds)).trans ?_
  exact congrArg (fun bs => some (Instr.appendLadder tag (beNat [f0, f1]) bs)) (parseRecords_words hbounds)

/-- R184: a FONT append is read by what its payload reaches. -/
theorem decodeCell_appendFont {first count : Option Nat} {rest : List Byte} (htag : tag < 256)
    (hsize : 2 + rest.length ≤ 8192)
    (h : fontFields rest = (first, count, records)) :
    decodeCell (cellBytes 3 15 tag 0 (beBytes 1 0 ++ beBytes 1 4 ++ rest)) = .appendFont tag first count records := by
  have hlength : (beBytes 1 0 ++ beBytes 1 4 ++ rest).length = 2 + rest.length := List.length_append
  refine decodeCell_append (by decide) htag (hlength ▸ hsize) ?_
  refine (if_pos ⟨rfl, rfl⟩).trans ?_
  show some (Instr.appendFont tag (fontFields rest).1 (fontFields rest).2.1 (fontFields rest).2.2) = _
  rw [h]

/-- A payload that ends within a field: fewer than two bytes stand behind the last field that it reaches. -/
theorem fontFields_short (h : records.length < 2) : fontFields records = (none, none, records) := by
  rcases records with _ | ⟨x, _ | ⟨y, rest⟩⟩
  · rfl
  · rfl
  · exact absurd h (by simp)

theorem fontFields_first (f0 f1 : Byte) (h : records.length < 2) :
    fontFields (f0 :: f1 :: records) = (some (beNat [f0, f1]), none, records) := by
  rcases records with _ | ⟨x, _ | ⟨y, rest⟩⟩
  · rfl
  · rfl
  · exact absurd h (by simp)

/-- A FONT append of each shape: with both fields, without a record count, and without a first index. -/
theorem decodeCell_encodeFont {first count : Option Nat}
    (h : (Instr.appendFont tag first count records).wellFormed = true) {bytes : List Byte}
    (e : encodeCell (.appendFont tag first count records) = some bytes) :
    decodeCell bytes = .appendFont tag first count records := by
  cases e
  match first, count with
  | some first, some count =>
    simp only [Instr.wellFormed, Bool.and_eq_true, decide_eq_true_eq] at h
    obtain ⟨⟨⟨htag, hfirst⟩, hcount⟩, hsize⟩ := h
    obtain ⟨f0, f1, rfl⟩ := exists_two_bytes hfirst
    obtain ⟨n0, n1, rfl⟩ := exists_two_bytes hcount
    simp only [Option.map_some, Option.getD_some, beBytes_two]
    exact decodeCell_appendFont htag (by simp; omega) rfl
  | some first, none =>
    simp only [Instr.wellFormed, Bool.and_eq_true, decide_eq_true_eq] at h
    obtain ⟨⟨htag, hfirst⟩, hshort⟩ := h
    obtain ⟨f0, f1, rfl⟩ := exists_two_bytes hfirst
    simp only [Option.map_some, Option.getD_some, Option.map_none, Option.getD_none, beBytes_two]
    exact decodeCell_appendFont htag (by simp; omega) (fontFields_first f0 f1 hshort)
  | none, none =>
    simp only [Instr.wellFormed, Bool.and_eq_true, decide_eq_true_eq] at h
    obtain ⟨htag, hshort⟩ := h
    exact decodeCell_appendFont htag (by simp; omega) (fontFields_short hshort)
  | none, some count => exact absurd h (by simp [Instr.wellFormed])

end

/-! ### ORDER -/

theorem decodeCell_roomParam {r : RoomId} {tag : Nat} {x : RoomSetting} (htag : tag < 256) (hx : x.fits = true) :
    decodeCell (orderCell r.val tag 24 (beBytes 1 x.field.1 ++ x.valueField)) = .roomParam r tag x := by
  obtain ⟨p, hp⟩ := exists_byte x.number_lt
  have hread := readSetting_valueField hx
  rw [hp] at hread ⊢
  rw [beBytes_byte]
  refine decodeCell_roomOrder htag ?_
  show decodeRoomOrder r tag 24 (p :: x.valueField) = _
  rw [decodeRoomOrder_param, if_pos x.valueField_length, hread]
  rfl

theorem decodeCell_chipParam {tag : Nat} {p : ChipParamId} {v : Nat} (htag : tag < 256) (hv : v < 65536) :
    decodeCell (orderCell 15 tag 2 (beBytes 1 p.number ++ beBytes 2 v)) = .chipParam tag p v := by
  obtain ⟨v0, v1, rfl⟩ := exists_two_bytes hv
  rw [beBytes_two]
  refine decodeCell_chipOrder htag ?_
  cases p <;> rfl

/-- Settles O9, cell by cell: the operands of a command are the numbers that the bytes of its fields spell. -/
theorem encodedCellsDecodeToTheirCommand : Obligations.EncodedCellsDecodeToTheirCommand := by
  intro c bytes h e
  cases c with
  | video r line frameStart pixels =>
    simp only [Instr.wellFormed, Bool.and_eq_true, decide_eq_true_eq] at h
    cases e; exact decodeCell_video r frameStart h.1 h.2
  | audio r endFlag samples => cases e; exact decodeCell_audio r endFlag (of_decide_eq_true h)
  | appendLines r tag bank first recs =>
    simp only [Instr.wellFormed, Bool.and_eq_true, decide_eq_true_eq, List.all_eq_true] at h
    obtain ⟨⟨⟨⟨htag, hbank⟩, hfirst⟩, hrecs⟩, hsize⟩ := h
    cases e; exact decodeCell_appendLines htag hbank hfirst hrecs hsize
  | appendSyllables r tag bank first recs =>
    simp only [Instr.wellFormed, Bool.and_eq_true, decide_eq_true_eq, List.all_eq_true] at h
    obtain ⟨⟨⟨⟨htag, hbank⟩, hfirst⟩, hrecs⟩, hsize⟩ := h
    cases e; exact decodeCell_appendSyllables htag hbank hfirst hrecs hsize
  | appendGuide r tag bank first recs =>
    simp only [Instr.wellFormed, Bool.and_eq_true, decide_eq_true_eq, List.all_eq_true] at h
    obtain ⟨⟨⟨⟨htag, hbank⟩, hfirst⟩, hrecs⟩, hsize⟩ := h
    cases e; exact decodeCell_appendGuide htag hbank hfirst hrecs hsize
  | appendFont tag first count records => exact decodeCell_encodeFont h e
  | appendLadder tag first bounds =>
    simp only [Instr.wellFormed, Bool.and_eq_true, decide_eq_true_eq, List.all_eq_true] at h
    obtain ⟨⟨⟨htag, hfirst⟩, hbounds⟩, hsize⟩ := h
    cases e; exact decodeCell_appendLadder htag hfirst hbounds hsize
  | setMode tag mode =>
    simp only [Instr.wellFormed, Bool.and_eq_true, decide_eq_true_eq] at h
    obtain ⟨htag, hmode⟩ := h
    obtain ⟨m, rfl⟩ := exists_byte hmode
    cases e
    rw [beBytes_byte]
    exact decodeCell_chipOrder htag rfl
  | chipParam tag p v =>
    simp only [Instr.wellFormed, Bool.and_eq_true, decide_eq_true_eq] at h
    cases e; exact decodeCell_chipParam h.1 h.2
  | slotMap tag direction slot target | fontClear tag direction slot target =>
    simp only [Instr.wellFormed, Bool.and_eq_true, decide_eq_true_eq] at h
    obtain ⟨⟨⟨htag, hx⟩, hy⟩, hz⟩ := h
    obtain ⟨x, rfl⟩ := exists_byte hx
    obtain ⟨y, rfl⟩ := exists_byte hy
    obtain ⟨z, rfl⟩ := exists_byte hz
    cases e
    simp only [beBytes_byte]
    exact decodeCell_chipOrder htag rfl
  | pollEntry tag entry enabled address room =>
    simp only [Instr.wellFormed, Bool.and_eq_true, decide_eq_true_eq] at h
    obtain ⟨⟨⟨⟨htag, hentry⟩, henabled⟩, haddress⟩, hroom⟩ := h
    obtain ⟨x, rfl⟩ := exists_byte hentry
    obtain ⟨n, rfl⟩ := exists_byte henabled
    obtain ⟨a, rfl⟩ := exists_byte haddress
    obtain ⟨r, rfl⟩ := exists_byte hroom
    cases e
    simp only [beBytes_byte]
    exact decodeCell_chipOrder htag rfl
  | readChip tag => cases e; exact decodeCell_chipOrder (of_decide_eq_true h) rfl
  | readRoom r tag | readRequestList r tag | readScores r tag | start r tag | pause r tag | resume r tag | stop r tag
  | haltAtLine r tag | roomReset r tag | calibrate r tag =>
    cases e; exact decodeCell_roomOrder (of_decide_eq_true h) rfl
  | readCounters room tag =>
    cases room with
    | none => cases e; exact decodeCell_chipOrder (of_decide_eq_true h) rfl
    | some r => cases e; exact decodeCell_roomOrder (of_decide_eq_true h) rfl
  | readBank r tag b | bankClose r tag b | bankClear r tag b | reqDrop r tag b =>
    simp only [Instr.wellFormed, Bool.and_eq_true, decide_eq_true_eq] at h
    obtain ⟨htag, hb⟩ := h
    obtain ⟨b, rfl⟩ := exists_byte hb
    cases e
    rw [beBytes_byte]
    exact decodeCell_roomOrder htag rfl
  | cue r tag x y | reqRefuse r tag x y =>
    simp only [Instr.wellFormed, Bool.and_eq_true, decide_eq_true_eq] at h
    obtain ⟨⟨htag, hx⟩, hy⟩ := h
    obtain ⟨x, rfl⟩ := exists_byte hx
    obtain ⟨y, rfl⟩ := exists_byte hy
    cases e
    rw [beBytes_byte, beBytes_byte]
    exact decodeCell_roomOrder htag rfl
  | reqAccept r tag ticket position | reqPosition r tag ticket position =>
    simp only [Instr.wellFormed, Bool.and_eq_true, decide_eq_true_eq] at h
    obtain ⟨⟨htag, hticket⟩, hposition⟩ := h
    obtain ⟨t, rfl⟩ := exists_byte hticket
    obtain ⟨p0, p1, rfl⟩ := exists_two_bytes hposition
    cases e
    rw [beBytes_byte, beBytes_two]
    exact decodeCell_roomOrder htag rfl
  | roomParam r tag x =>
    simp only [Instr.wellFormed, Bool.and_eq_true, decide_eq_true_eq] at h
    cases e; exact decodeCell_roomParam h.1 h.2
  | bankOpen r tag bank songId lines syllables notes =>
    simp only [Instr.wellFormed, Bool.and_eq_true, decide_eq_true_eq] at h
    obtain ⟨⟨⟨⟨⟨htag, hbank⟩, hsong⟩, hlines⟩, hsyllables⟩, hnotes⟩ := h
    obtain ⟨b, rfl⟩ := exists_byte hbank
    obtain ⟨s0, s1, s2, s3, rfl⟩ := exists_four_bytes hsong
    obtain ⟨l0, l1, rfl⟩ := exists_two_bytes hlines
    obtain ⟨y0, y1, rfl⟩ := exists_two_bytes hsyllables
    obtain ⟨n0, n1, rfl⟩ := exists_two_bytes hnotes
    cases e
    rw [beBytes_byte, beBytes_four, beBytes_two, beBytes_two, beBytes_two]
    exact decodeCell_roomOrder htag rfl
  | pinReset | cellDiscarded | unknownOrder | samplePeriod | songPositionLimit | songTick | analysisComplete
  | calTimeout | bankClearingComplete | fontClearingComplete | panelNone | panelRequest | panelCancel
  | panelStopMessage | panelUnknownKind | wrongEcho | garbled | noAnswer | venueTimeTick | replyTimeout | cellSent =>
    cases e

end Sys2Proof
end

section
/-! PROOFS. The waiting commands through every command, and its next state (O2). -/

namespace Sys2Proof.Machine

/-! ### What leaves the waiting commands -/

theorem pending_of_beyond {s t : State} (h : t.beyondRooms = s.beyondRooms) : t.pending = s.pending := by
  have hpending := congrArg State.pending h
  exact hpending

@[simp] theorem accept_state (s : State) (data : List Byte) : (accept s data).state = s := rfl
@[simp] theorem refuse_state (s : State) (code : ReplyCode) (data : List Byte) : (refuse s code data).state = s := rfl

@[simp] theorem resetRoom_pending (r : RoomId) (s : State) : (resetRoom r s).pending = s.pending := by
  have hpending := congrArg State.pending (resetRoom_beyond r s)
  exact hpending

@[simp] theorem lineTest_pending (r : RoomId) (t : Nat) (s : State) : (lineTest r t s).pending = s.pending :=
  pending_of_beyond (lineTest_beyond r t s)

@[simp] theorem backingOutput_pending (r : RoomId) (s : State) : (backingOutput r s).pending = s.pending :=
  pending_of_beyond (backingOutput_beyond r s)

@[simp] theorem endCalibration_pending (r : RoomId) (outcome : CalOutcome) (j : Nat) (f : Port → Port) (s : State) :
    (endCalibration r outcome j f s).pending = s.pending := pending_of_beyond (endCalibration_beyond r outcome j f s)

@[simp] theorem mapRooms_pending (s : State) (f : Room → Room) : (s.mapRooms f).pending = s.pending :=
  foldl_keeps _ State.pending (fun _ _ => rfl) allRooms s

@[simp] theorem startPolling_pending (s : State) : (startPolling s).pending = s.pending :=
  startPolling_keeps State.pending (fun _ _ _ _ => rfl) s

@[simp] theorem nextPoll_pending (s : State) : (nextPoll s).pending = s.pending := by
  unfold nextPoll; split <;> rfl

@[simp] theorem leaveRun_pending (s : State) : (leaveRun s).pending = s.pending :=
  foldl_keeps (fun acc r => resetRoom r acc) State.pending (fun g r => resetRoom_pending r g) allRooms _

@[simp] theorem removeWithResult_pending (r : RoomId) (e : Entry) (k : ResultKind) (s : State) :
    (removeWithResult r e k s).pending = s.pending := rfl

@[simp] theorem beginAnalysis_pending (s : State) : (beginAnalysis s).pending = s.pending := by
  unfold beginAnalysis; split <;> rfl

@[simp] theorem offerFrame_pending (f : FrameRecord) (s : State) : (offerFrame f s).pending = s.pending := by
  unfold offerFrame
  split
  · exact beginAnalysis_pending _
  · rfl

/-! ### The decisions of the orders -/

section
variable (r : RoomId) (s : State)

theorem appendOrder_pending {α : Type} (take : Bank → α → Option Bank) (frontier declared : Bank → Nat)
    (after : BankId → State → State) (ha : ∀ b x, (after b x).pending = x.pending) (bank first : Nat) (xs : List α) :
    (appendOrder take frontier declared after r bank first xs s).state.pending = s.pending := by
  unfold appendOrder
  split
  · rfl
  split
  · rfl
  · exact ha _ _

theorem linesOrder_pending (bank first : Nat) (recs : List LineRec) :
    (linesOrder r bank first recs s).state.pending = s.pending :=
  appendOrder_pending r s _ _ _ _ (fun b x => by unfold lineAppendEvent; dsimp only; split <;> simp) bank first recs

theorem fontAppendOrder_pending (first count : Option Nat) (records : List Byte) :
    (fontAppendOrder first count records s).state.pending = s.pending := by
  unfold fontAppendOrder
  dsimp only
  repeat' split
  all_goals rfl

theorem ladderOrder_pending (first : Nat) (bounds : List Nat) :
    (ladderOrder first bounds s).state.pending = s.pending := by
  unfold ladderOrder
  repeat' split
  all_goals rfl

/-- R173: the moves of the chip mode work on the rooms and the poll table. -/
theorem setModeOrder_pending (mode : Nat) : (setModeOrder mode s).state.pending = s.pending := by
  unfold setModeOrder enterRun enterStop
  repeat' split
  all_goals simp

theorem chipParamOrder_pending (id : ChipParamId) (v : Nat) : (chipParamOrder id v s).state.pending = s.pending := by
  unfold chipParamOrder; split <;> rfl

theorem slotMapOrder_pending (direction slot target : Nat) :
    (slotMapOrder direction slot target s).state.pending = s.pending := by
  unfold slotMapOrder
  repeat' split
  all_goals rfl

theorem pollEntryOrder_pending (entry enabled address room : Nat) :
    (pollEntryOrder entry enabled address room s).state.pending = s.pending := by
  unfold pollEntryOrder
  repeat' split
  all_goals rfl

theorem fontClearOrder_pending (height space missing : Nat) :
    (fontClearOrder height space missing s).state.pending = s.pending := by
  unfold fontClearOrder
  repeat' split
  all_goals rfl

theorem readBankOrder_pending (bank : Nat) : (readBankOrder r bank s).state.pending = s.pending := by
  unfold readBankOrder; split <;> rfl

theorem cueOrder_pending (bank ticket : Nat) : (cueOrder r bank ticket s).state.pending = s.pending := by
  unfold cueOrder
  dsimp only
  repeat' split
  all_goals simp

theorem startOrder_pending : (startOrder r s).state.pending = s.pending := by
  unfold startOrder; split <;> rfl

theorem moveOrder_pending (source target : RoomState) : (moveOrder r source target s).state.pending = s.pending := by
  unfold moveOrder; split <;> rfl

theorem stopOrder_pending : (stopOrder r s).state.pending = s.pending := by
  unfold stopOrder; split <;> simp

theorem haltOrder_pending : (haltOrder r s).state.pending = s.pending := by
  unfold haltOrder
  dsimp only
  repeat' split
  all_goals simp

theorem calibrateOrder_pending : (calibrateOrder r s).state.pending = s.pending := by
  unfold calibrateOrder
  dsimp only
  repeat' split
  all_goals rfl

theorem roomParamOrder_pending (setting : RoomSetting) : (roomParamOrder r setting s).state.pending = s.pending := by
  unfold roomParamOrder
  repeat' split
  all_goals simp

theorem bankOpenOrder_pending (bank songId lines syllables notes : Nat) :
    (bankOpenOrder r bank songId lines syllables notes s).state.pending = s.pending := by
  unfold bankOpenOrder
  repeat' split
  all_goals rfl

theorem bankCloseOrder_pending (bank : Nat) : (bankCloseOrder r bank s).state.pending = s.pending := by
  unfold bankCloseOrder
  split
  · rfl
  dsimp only
  repeat' split
  all_goals rfl

theorem bankClearOrder_pending (bank : Nat) : (bankClearOrder r bank s).state.pending = s.pending := by
  unfold bankClearOrder
  split
  · rfl
  dsimp only
  repeat' split
  all_goals rfl

theorem withEntry_pending (ticket : Nat) {act : Entry → State → Verdict}
    (ha : ∀ e, (act e s).state.pending = s.pending) : (withEntry r ticket act s).state.pending = s.pending := by
  unfold withEntry; split
  · rfl
  · exact ha _

theorem acceptEntry_pending (ticket position : Nat) (e : Entry) :
    (acceptEntry r ticket position e s).state.pending = s.pending := by
  unfold acceptEntry; split <;> rfl

theorem positionEntry_pending (ticket position : Nat) (e : Entry) :
    (positionEntry r ticket position e s).state.pending = s.pending := by
  unfold positionEntry; dsimp only; split <;> rfl

theorem refuseOrder_pending (ticket reason : Nat) : (refuseOrder r ticket reason s).state.pending = s.pending := by
  unfold refuseOrder
  split
  · rfl
  · exact withEntry_pending r s ticket fun e => by unfold refuseEntry; split <;> rfl

theorem dropOrder_pending (e : Entry) : (dropOrder r e s).state.pending = s.pending := by
  unfold dropOrder; split <;> rfl

/-- The link counts an order, and its reply waits or is sent. -/
theorem takeOrder_pending (inStandby : Bool) (room tag kind : Nat) {d : State → Verdict}
    (hd : ∀ x, (d x).state.pending = x.pending) : (takeOrder inStandby room tag kind d s).pending = s.pending := by
  rcases takeOrder_cases inStandby room tag kind d s with e | e | e <;> rw [e]
  · rfl
  · rfl
  · rw [sendIfIdle_pending, pushReply_pending, hd, countIn_pending]

/-! ### Cells of the trunk -/

theorem takeMedia_pending {act : State → State} (ha : ∀ x, (act x).pending = x.pending) :
    (takeMedia act s).pending = s.pending := by
  rcases takeMedia_cases act s with e | e <;> rw [e]
  · rfl
  · exact ha _

theorem audioCell_pending (endFlag : Bool) (samples : List Stereo) :
    (audioCell r endFlag samples s).pending = s.pending := by
  unfold audioCell
  dsimp only
  repeat' split
  all_goals simp

theorem discardCell_pending (bytes : List Byte) : (discardCell bytes s).pending = s.pending := by
  unfold discardCell
  dsimp only
  repeat' split
  all_goals rfl

theorem answerMalformed_pending (bytes : List Byte) : (answerMalformed bytes s).pending = s.pending := by
  unfold answerMalformed
  dsimp only
  split
  · rfl
  split
  · rfl
  · exact sendIfIdle_pending _

/-! ### Events of the part -/

theorem samplePeriod_pending (inputs : Vector Sample 8) (roomOrder offerOrder : Nat) :
    (samplePeriod inputs roomOrder offerOrder s).pending = s.pending := by
  unfold samplePeriod
  split
  · rfl
  · have hshared := pending_of_beyond
      (roomShares_beyond inputs (ordered roomOrder allRooms) { s with audioOut := s.slotValues })
    dsimp only
    rw [sendIfIdle_pending, foldl_keeps _ State.pending fun g f => offerFrame_pending f g]
    exact hshared

theorem songPositionLimit_pending : (songPositionLimit r s).pending = s.pending := by
  unfold songPositionLimit; split <;> simp

theorem songTick_pending : (songTick r s).pending = s.pending := pending_of_beyond (songTick_beyond r s)

theorem analysisComplete_pending : (analysisComplete s).pending = s.pending := by
  unfold analysisComplete
  split
  · rfl
  split
  · exact beginAnalysis_pending _
  · rfl

theorem calTimeout_pending : (calTimeout r s).pending = s.pending := by
  unfold calTimeout; split <;> simp

theorem bankClearingComplete_pending (b : BankId) : (bankClearingComplete r b s).pending = s.pending := by
  unfold bankClearingComplete; split <;> simp

theorem fontClearingComplete_pending : (fontClearingComplete s).pending = s.pending := by
  unfold fontClearingComplete; split <;> rfl

theorem replyTimeout_pending (ticket : Nat) : (replyTimeout r ticket s).pending = s.pending := by
  unfold replyTimeout
  repeat' split
  all_goals rfl

/-! ### Panels -/

theorem endPoll_pending {act : PanelId → State → State} (ha : ∀ e x, (act e x).pending = x.pending) :
    (endPoll act s).pending = s.pending := by
  unfold endPoll
  split
  · rfl
  · rw [sendIfIdle_pending, nextPoll_pending, ha]

theorem markMiss_pending (e : PanelId) (count : PollEntry → PollEntry) : (markMiss e count s).pending = s.pending := by
  unfold markMiss; dsimp only; split <;> simp

theorem markGood_pending (e : PanelId) : (markGood e s).pending = s.pending := by
  unfold markGood; dsimp only; split <;> simp

theorem goodAnswer_pending {handle : PanelId → RoomId → State → State}
    (hh : ∀ e r x, (handle e r x).pending = x.pending) : (goodAnswer handle s).pending = s.pending :=
  endPoll_pending s fun e x => (hh _ _ _).trans (markGood_pending x e)

theorem roomMessage_pending {handle : PanelId → RoomId → State → State}
    (hh : ∀ e r x, (handle e r x).pending = x.pending) (e : PanelId) :
    (roomMessage handle e r s).pending = s.pending := by
  unfold roomMessage
  split
  · rfl
  · exact hh _ _ _

theorem requestMessage_pending (payload : List Byte) (e : PanelId) :
    (requestMessage payload e r s).pending = s.pending := by
  unfold requestMessage takeRequest
  dsimp only
  repeat' split
  all_goals rfl

theorem cancelMessage_pending (payload : List Byte) (e : PanelId) :
    (cancelMessage payload e r s).pending = s.pending := by
  unfold cancelMessage takeCancel
  repeat' split
  all_goals rfl

theorem stopMessage_pending (e : PanelId) : (stopMessage e r s).pending = s.pending := by
  unfold stopMessage
  repeat' split
  all_goals simp

end

/-! ### Every command -/

/-- Settles O2, command by command: an order by its decision, every other command by its event. -/
theorem everyCommandHasANextState : Obligations.EveryCommandHasANextState := by
  intro c s
  have order {b : Bool} {room tag kind : Nat} {d : State → Verdict} (hd : ∀ x, (d x).state.pending = x.pending) :
      ∃ t, (.next (takeOrder b room tag kind d s) : Host.Outcome State Fault Refusal) = .next t
        ∧ t.pending = s.pending :=
    ⟨_, rfl, takeOrder_pending s b room tag kind hd⟩
  cases c with
  | pinReset => exact ⟨_, rfl, rfl⟩
  | cellDiscarded bytes => exact ⟨_, rfl, discardCell_pending s bytes⟩
  | unknownOrder bytes =>
    refine ⟨_, rfl, ?_⟩
    split
    · exact answerMalformed_pending s bytes
    · rfl
  | video r line frameStart pixels => exact ⟨_, rfl, takeMedia_pending s fun _ => rfl⟩
  | audio r endFlag samples => exact ⟨_, rfl, takeMedia_pending s fun x => audioCell_pending r x endFlag samples⟩
  | appendLines r tag bank first recs => exact order fun x => linesOrder_pending r x bank first recs
  | appendSyllables r tag bank first recs | appendGuide r tag bank first recs =>
    exact order fun x => appendOrder_pending r x _ _ _ _ (fun _ _ => rfl) bank first recs
  | appendFont tag first count records => exact order fun x => fontAppendOrder_pending x first count records
  | appendLadder tag first bounds => exact order fun x => ladderOrder_pending x first bounds
  | setMode tag mode => exact order fun x => setModeOrder_pending x mode
  | chipParam tag param value => exact order fun x => chipParamOrder_pending x param value
  | slotMap tag direction slot target => exact order fun x => slotMapOrder_pending x direction slot target
  | pollEntry tag entry enabled address room => exact order fun x => pollEntryOrder_pending x entry enabled address room
  | fontClear tag height space missing => exact order fun x => fontClearOrder_pending x height space missing
  | readChip | readRoom | readRequestList | readScores => exact order fun _ => rfl
  | readCounters room tag => cases room <;> exact order fun _ => rfl
  | readBank r tag bank => exact order fun x => readBankOrder_pending r x bank
  | cue r tag bank ticket => exact order fun x => cueOrder_pending r x bank ticket
  | start r tag => exact order (startOrder_pending r)
  | pause r tag => exact order fun x => moveOrder_pending r x .playing .held
  | resume r tag => exact order fun x => moveOrder_pending r x .held .playing
  | stop r tag => exact order (stopOrder_pending r)
  | haltAtLine r tag => exact order (haltOrder_pending r)
  | roomReset r tag => exact order (resetRoom_pending r)
  | calibrate r tag => exact order (calibrateOrder_pending r)
  | roomParam r tag setting => exact order fun x => roomParamOrder_pending r x setting
  | bankOpen r tag bank songId lines syllables notes =>
    exact order fun x => bankOpenOrder_pending r x bank songId lines syllables notes
  | bankClose r tag bank => exact order fun x => bankCloseOrder_pending r x bank
  | bankClear r tag bank => exact order fun x => bankClearOrder_pending r x bank
  | reqAccept r tag ticket position =>
    exact order fun x => withEntry_pending r x ticket (acceptEntry_pending r x ticket position)
  | reqPosition r tag ticket position =>
    exact order fun x => withEntry_pending r x ticket (positionEntry_pending r x ticket position)
  | reqRefuse r tag ticket reason => exact order fun x => refuseOrder_pending r x ticket reason
  | reqDrop r tag ticket => exact order fun x => withEntry_pending r x ticket (dropOrder_pending r x)
  | samplePeriod inputs roomOrder offerOrder => exact ⟨_, rfl, samplePeriod_pending s inputs roomOrder offerOrder⟩
  | songPositionLimit r => exact ⟨_, rfl, songPositionLimit_pending r s⟩
  | songTick r =>
    refine ⟨_, rfl, ?_⟩
    split
    · exact (sendIfIdle_pending _).trans (songTick_pending r s)
    · rfl
  | analysisComplete => exact ⟨_, rfl, analysisComplete_pending s⟩
  | calTimeout r => exact ⟨_, rfl, calTimeout_pending r s⟩
  | bankClearingComplete r b => exact ⟨_, rfl, bankClearingComplete_pending r s b⟩
  | fontClearingComplete => exact ⟨_, rfl, fontClearingComplete_pending s⟩
  | panelNone payload => exact ⟨_, rfl, goodAnswer_pending s fun _ _ _ => rfl⟩
  | panelRequest payload =>
    exact ⟨_, rfl, goodAnswer_pending s fun e r x =>
      roomMessage_pending r x (fun e r x => requestMessage_pending r x payload e) e⟩
  | panelCancel payload =>
    exact ⟨_, rfl, goodAnswer_pending s fun e r x =>
      roomMessage_pending r x (fun e r x => cancelMessage_pending r x payload e) e⟩
  | panelStopMessage payload =>
    exact ⟨_, rfl, goodAnswer_pending s fun e r x => roomMessage_pending r x (fun e r x => stopMessage_pending r x e) e⟩
  | panelUnknownKind kind payload => exact ⟨_, rfl, goodAnswer_pending s fun _ _ _ => rfl⟩
  | wrongEcho address =>
    refine ⟨_, rfl, ?_⟩
    split
    · rfl
    · exact endPoll_pending s fun e x => markMiss_pending x e _
  | garbled | noAnswer => exact ⟨_, rfl, endPoll_pending s fun e x => markMiss_pending x e _⟩
  | venueTimeTick => exact ⟨_, rfl, venueTimeTick_keeps State.pending (fun _ => rfl) s⟩
  | replyTimeout r ticket => exact ⟨_, rfl, replyTimeout_pending r s ticket⟩
  | cellSent => exact ⟨_, rfl, schedule_pending s⟩

end Sys2Proof.Machine
end
